-- ==== Sys2Proof/Word.lean ====
section
/-! DEFINITION. The words of the model: a core's 64-bit word, a byte and a 96-bit timebase count. -/
namespace Sys2Proof

/-- A 64-bit word: a general register, a control register, a register of a unit window (R7, R152). -/
abbrev Word := BitVec 64

/-- A byte of memory. -/
abbrev Byte := BitVec 8

/-- A count in DTB units: bits [95:32] whole nanoseconds, bits [31:0] 2^-32 ns (R382). -/
abbrev Dtb := BitVec 96

/-- An exact accumulator, a 704-bit two's-complement integer (R253). -/
abbrev Xacc := BitVec 704

end Sys2Proof
end

