-- ==== Sys2Proof/Config.lean ====
section
/-! DEFINITION. What the spec leaves open or takes from outside itself: the free values (opaque: nothing in Lean
knows a value of them), and the public-key and lattice algorithms that the spec names by their published standards,
as uninterpreted functions of the bytes they are given. -/
namespace Sys2Proof

/-- A free 64-bit value: DRBG and TRNG output and every value the spec leaves undefined. The index is the
counter `State.freeIx` at the moment of use (log entry 3). -/
opaque Config.freeWord : Nat → Word

/-- A free bit, for a choice the spec leaves open (log entry 3). -/
opaque Config.freeBit : Nat → Bool

/-- The contents of Boot ROM, 128 KiB (R17, R42): the spec states no byte of it (log entry 4). -/
opaque Config.bootRom : Nat → Byte

/-- The device unique key seed in OTP: a secret that nobody learns (R45, R91; log entry 5). -/
opaque Config.dukSeed : List Byte

/-- ECDSA verification (FIPS 186): curve width in bits, public key, digest, signature (log entry 6). -/
opaque Config.ecdsaVerify : Nat → List Byte → List Byte → List Byte → Bool

/-- ECDSA signature (FIPS 186): curve width in bits, private key, digest, nonce bytes (log entry 6). -/
opaque Config.ecdsaSign : Nat → List Byte → List Byte → List Byte → List Byte

/-- The public key of an EC private key, uncompressed (log entry 6). -/
opaque Config.ecPublic : Nat → List Byte → List Byte

/-- ECDH shared secret (SP 800-56A); `none` where the peer's point is not on the curve (log entry 6). -/
opaque Config.ecdh : Nat → List Byte → List Byte → Option (List Byte)

/-- Ed25519 verification (RFC 8032): public key, message, signature (log entry 6). -/
opaque Config.ed25519Verify : List Byte → List Byte → List Byte → Bool

/-- ML-DSA-65 verification (FIPS 204): public key, message, signature (log entry 6). -/
opaque Config.mlDsaVerify : List Byte → List Byte → List Byte → Bool

/-- ML-KEM-768 key generation (FIPS 203) from 64 seed bytes: the encapsulation key and the decapsulation key (log entry 6). -/
opaque Config.mlKemKeygen : List Byte → List Byte × List Byte

/-- ML-KEM-768 encapsulation from an encapsulation key and 32 bytes: ciphertext and shared secret;
`none` where the key fails its check (log entry 6). -/
opaque Config.mlKemEncaps : List Byte → List Byte → Option (List Byte × List Byte)

/-- ML-KEM-768 decapsulation (log entry 6). -/
opaque Config.mlKemDecaps : List Byte → List Byte → List Byte

/-- The status that the boot load service returns in G1: 0 HASHED, 1 PASS, 2 LOAD_REPEAT, 3 NO_ENTROPY. The spec names the
four and gives no numbers (log entry 3). -/
opaque Config.loadStatus : Nat → Word

end Sys2Proof
end

