-- ==== Sys2Proof/Syntax.lean ====
section
/-! DEFINITION. The commands of the block: one constructor of `Instr` for each row of the table, with the row's
operands. The table gives a row no bits, so the operands are this model's (log entry 1). -/
namespace Sys2Proof

/-- Who makes a register or memory access (R35, R114). -/
inductive Requester where
  /-- control core CC0 or CC1 -/
  | cc (p : Fin 2)
  /-- tun TUNn -/
  | tun (n : Fin 12)
  /-- sparge channel -/
  | sparge (c : Fin 32)
  | pcie
  | hcp
  | debug
  /-- a request from Sundik device d, made for the secure world or not (R540) -/
  | sundik (d : Fin 8) (secure : Bool)
  /-- a unit of the device acting on its own behalf, such as ORDER or a port's rings -/
  | own
  deriving DecidableEq, Repr

/-- What a register access does: a read, or a write of a value; 32 or 64 bits wide (R7). -/
structure RegAcc where
  who : Requester
  wide : Bool
  value : Word
  deriving DecidableEq, Repr

/-- The head of every syllable (R159): the core that issues it, E, the payloads of the K syllables that stand
directly before it (R157), and the guard PG. Cores are named by processor number (R15). -/
structure Head where
  core : Fin 14
  e : Bool
  ks : List (BitVec 27)
  pg : BitVec 3
  deriving DecidableEq, Repr

/-- A T-format syllable (R159). -/
structure TSyl where
  h : Head
  d : BitVec 6
  s1 : BitVec 6
  s2 : BitVec 6
  deriving DecidableEq, Repr

/-- An I- or L-format syllable (R159). -/
structure ISyl where
  h : Head
  d : BitVec 6
  s1 : BitVec 6
  imm : BitVec 10
  deriving DecidableEq, Repr

/-- A B-format syllable (R159). -/
structure BSyl where
  h : Head
  disp : BitVec 22
  deriving DecidableEq, Repr

/-- The scalar floating-point formats (R240). -/
inductive Fmt where | s | d | h | bf
  deriving DecidableEq, Repr

/-- The formats of packed operations and exact accumulation (R215, R218). -/
inductive PFmt where | h | bf | s
  deriving DecidableEq, Repr

/-- Conditions of CMP, in FN order (R208). -/
inductive CmpC where | eq | ne | lt | ge | ltu | geu | any | none
  deriving DecidableEq, Repr

/-- Operations of PLOG, in FN order (R208). -/
inductive PlogF where | pand | por | pxor | pandn | porn
  deriving DecidableEq, Repr

/-- Conditions of FCMP, in the order of FN[3:2] (R209). -/
inductive FcmpC where | eq | lt | le | un
  deriving DecidableEq, Repr

/-- What stands in a NOP row's syllable: NOP itself; a syllable whose OP or FN no table lists (R191); or a K syllable
that is the last of its bundle (R157). -/
inductive NopKind where
  | nop
  | unlisted (op : BitVec 6) (fn : BitVec 4)
  | strayK
  deriving DecidableEq, Repr

/-- What SECDED finds in the granule, entry or journal word that an access reads (R281, R367, R396). -/
inductive Ecc where | good | corrected | uncorrected
  deriving DecidableEq, Repr

/-- The JTAG instructions that R63 names. -/
inductive JtagI where | bypass | idcode | sample | extest | intest
  deriving DecidableEq, Repr

/-- The wake sources of R610. -/
inductive WakeSrc where
  | pin (n : Fin 4)
  | rtc
  | hcp
  deriving DecidableEq, Repr

/-- What MON converts (R632, R638): a temperature sensor and its reading in 1/16 °C, `none` where its self-check fails;
a voltage channel and its reading in mV. -/
inductive MonCh where
  | temp (s : Fin 6) (v : Option (BitVec 16))
  | volt (v : Fin 7) (mv : BitVec 16)
  deriving DecidableEq, Repr

/-- Requests of the PCIe host outside memory space (R507, R510, R516): Bus Master Enable written, PERST_N changed, or a
request that the function does not support. -/
inductive PcieConf where
  | busMaster (on : Bool)
  | perst (high : Bool)
  | unsupported
  deriving DecidableEq, Repr

/-- What an AES3 receiver finds wrong with a subframe (R450, R451). -/
inductive SubErr where | none | biphase | parity | preamble
  deriving DecidableEq, Repr

/-- A received AES3 subframe: 24 bits of audio, V, U, C, and its error. -/
structure SubFrame where
  audio : BitVec 24
  v : Bool
  u : Bool
  c : Bool
  err : SubErr
  deriving DecidableEq, Repr

/-- What a MADI receiver finds wrong with a channel's subframe. -/
inductive MadiErr where | none | code | parity
  deriving DecidableEq, Repr

/-- A received MADI channel (R439). -/
structure MadiSub where
  audio : BitVec 24
  v : Bool
  u : Bool
  c : Bool
  active : Bool
  block : Bool
  err : MadiErr
  deriving DecidableEq, Repr

/-- A receiver that pushes FLY frames (R451). -/
inductive FlySrc where
  | aes (i : Fin 4)
  | madi
  deriving DecidableEq, Repr

/-- A line as an SDI receiver finds it (R461, R464): whether it is the first active line of a frame (of field 1), whether it
is active at all, its active words of 10 bits between SAV and EAV, those of the second HD stream on 3G level B-DS, the
checks that fail, and the ST 352 payload it carries with whether that is the expected one. -/
structure SdiLine where
  first : Bool
  active : Bool
  words : List (BitVec 10)
  words2 : List (BitVec 10)
  trs : Bool
  ln : Bool
  crc : Bool
  edh : Bool
  vpid : Option (BitVec 32 × Bool)
  deriving DecidableEq, Repr

/-- An ANC packet as received (R462): DID, SDID or DBN, the user data words, its line, data stream, sub-image or link, and
its checksum and parity errors. -/
structure AncPkt where
  did : BitVec 8
  sdid : BitVec 8
  udw : List (BitVec 10)
  line : BitVec 11
  chroma : Bool
  link : BitVec 2
  csErr : Bool
  parErr : Bool
  deriving DecidableEq, Repr

/-- A channel of an embedded audio sample frame (R463): `err` where its packet failed ECC or checksum, `foreign` where its
group declares another rate or an asynchronous mode. -/
structure SdiAud where
  audio : BitVec 24
  v : Bool
  u : Bool
  c : Bool
  z : Bool
  err : Bool
  foreign : Bool
  deriving DecidableEq, Repr

/-- What changes the role of the USB port (R501, R514): the USB_ID ball, or a write of USB_CFG. -/
inductive UsbRole where
  | ball (host : Bool)
  | write (q : RegAcc)
  deriving DecidableEq, Repr

/-- What a USB transfer brings (R502, R516): data that arrived, an acknowledgement of data that left, or a packet with a CRC or PID
error. -/
inductive UsbXfer where
  | data (l : List Byte)
  | sent
  | bad
  deriving DecidableEq, Repr

/-- A command of the block: one row of the spec's table of operations and events. -/
inductive Instr where
  /-- REGISTER_WRITE (R1) -/
  | registerWrite (q : RegAcc) (a : BitVec 40)
  /-- VDD_SOC_POWER_ON (R20) -/
  | vddSocPowerOn
  /-- BROWN_OUT (R671) -/
  | brownOut
  /-- VDDIO_AON_POWER_ON (R20) -/
  | vddioAonPowerOn
  /-- RESET_N_LOW (R672) -/
  | resetNLow
  /-- RESET_N_RISE (R64) -/
  | resetNRise (straps : BitVec 6) (testMode : Bool)
  /-- SW_WARM_RESET (R20) -/
  | swWarmReset (q : RegAcc)
  /-- SW_COLD_RESET (R20) -/
  | swColdReset (q : RegAcc)
  /-- RESET_SCRUB_DONE (R23) -/
  | resetScrubDone
  /-- PART_RESET (R22) -/
  | partReset (p : Fin 14)
  /-- CC0_RELEASE (R24) -/
  | cc0Release (q : RegAcc)
  /-- CC1_RELEASE (R24) -/
  | cc1Release (q : RegAcc)
  /-- TUN_RELEASE (R153) -/
  | tunRelease (q : RegAcc)
  /-- SEAL_STEP1 (R47) -/
  | sealStep1 (q : RegAcc)
  /-- SEAL_STEP2 (R47) -/
  | sealStep2 (q : RegAcc)
  /-- DEBUG_CHALLENGE_READ (R58) -/
  | debugChallengeRead (q : RegAcc)
  /-- DEBUG_TOKEN_GO (R59) -/
  | debugTokenGo (q : RegAcc)
  /-- DEBUG_TOKEN_DONE (R60) -/
  | debugTokenDone
  /-- DEBUG_LOCK (R60) -/
  | debugLock (q : RegAcc)
  /-- JTAG_INSTRUCTION_LOAD (R63) -/
  | jtagInstructionLoad (j : JtagI)
  /-- DEBUG_HALT_REQUEST (R61) -/
  | debugHaltRequest (p : Fin 14)
  /-- DEBUG_HALT (R61) -/
  | debugHalt (p : Fin 14)
  /-- STAGE0_START (R69) -/
  | stage0Start (mv : List Nat)
  /-- BOOT_RETRY_WAIT_EXPIRY (R83) -/
  | bootRetryWaitExpiry
  /-- BOOT_TIMEOUT_EXPIRY (R85) -/
  | bootTimeoutExpiry
  /-- LINK_NO_SERVER_EXPIRY (R86) -/
  | linkNoServerExpiry
  /-- BOOT_LOAD_SERVICE (R71) -/
  | bootLoadService
  /-- BOOT_SIGNATURE_DONE (R78) -/
  | bootSignatureDone
  /-- BOOT_CONFIRM (R74) -/
  | bootConfirm (q : RegAcc)
  /-- CONTEXT_CLAIM (R115) -/
  | contextClaim (q : RegAcc)
  /-- KS_IMPORT (R105) -/
  | ksImport (q : RegAcc)
  /-- KS_GENERATE (R105) -/
  | ksGenerate (q : RegAcc)
  /-- KS_CLEAR (R108) -/
  | ksClear (q : RegAcc)
  /-- KS_NARROW (R108) -/
  | ksNarrow (q : RegAcc)
  /-- CX_ABORT (R111) -/
  | cxAbort (q : RegAcc) (n : Fin 8)
  /-- CX_PARK (R117) -/
  | cxPark (q : RegAcc) (n : Fin 8)
  /-- CX_RESUME (R119) -/
  | cxResume (q : RegAcc) (n : Fin 8)
  /-- CX_RELEASE (R111) -/
  | cxRelease (q : RegAcc) (n : Fin 8)
  /-- AES_CBC (R121) -/
  | aesCbc (q : RegAcc) (n : Fin 8)
  /-- AES_CTR (R121) -/
  | aesCtr (q : RegAcc) (n : Fin 8)
  /-- AES_GCM (R122) -/
  | aesGcm (q : RegAcc) (n : Fin 8)
  /-- AES_XTS (R121) -/
  | aesXts (q : RegAcc) (n : Fin 8)
  /-- AES_CMAC (R121) -/
  | aesCmac (q : RegAcc) (n : Fin 8)
  /-- AES_KW (R121) -/
  | aesKw (q : RegAcc) (n : Fin 8)
  /-- AES_KWP (R121) -/
  | aesKwp (q : RegAcc) (n : Fin 8)
  /-- SHA_256 (R121) -/
  | sha256 (q : RegAcc) (n : Fin 8)
  /-- SHA_384 (R121) -/
  | sha384 (q : RegAcc) (n : Fin 8)
  /-- SHA_512 (R121) -/
  | sha512 (q : RegAcc) (n : Fin 8)
  /-- SHA3_256 (R121) -/
  | sha3256 (q : RegAcc) (n : Fin 8)
  /-- SHA3_512 (R121) -/
  | sha3512 (q : RegAcc) (n : Fin 8)
  /-- SHAKE128 (R121) -/
  | shake128 (q : RegAcc) (n : Fin 8)
  /-- SHAKE256 (R121) -/
  | shake256 (q : RegAcc) (n : Fin 8)
  /-- HMAC (R121) -/
  | hmac (q : RegAcc) (n : Fin 8)
  /-- KDF (R121) -/
  | kdf (q : RegAcc) (n : Fin 8)
  /-- DERIVE_DEV (R93) -/
  | deriveDev (q : RegAcc) (n : Fin 8)
  /-- ECDSA_P256_SIGN (R121) -/
  | ecdsaP256Sign (q : RegAcc) (n : Fin 8)
  /-- ECDSA_P256_VERIFY (R121) -/
  | ecdsaP256Verify (q : RegAcc) (n : Fin 8)
  /-- ECDSA_P384_SIGN (R121) -/
  | ecdsaP384Sign (q : RegAcc) (n : Fin 8)
  /-- ECDSA_P384_VERIFY (R121) -/
  | ecdsaP384Verify (q : RegAcc) (n : Fin 8)
  /-- ECDH_P256 (R121) -/
  | ecdhP256 (q : RegAcc) (n : Fin 8)
  /-- ECDH_P384 (R121) -/
  | ecdhP384 (q : RegAcc) (n : Fin 8)
  /-- EC_KEY_PAIR (R121) -/
  | ecKeyPair (q : RegAcc) (n : Fin 8)
  /-- ED25519_VERIFY (R121) -/
  | ed25519Verify (q : RegAcc) (n : Fin 8)
  /-- ML_DSA_65_VERIFY (R121) -/
  | mlDsa65Verify (q : RegAcc) (n : Fin 8)
  /-- ML_KEM_768_KEYGEN (R121) -/
  | mlKem768Keygen (q : RegAcc) (n : Fin 8)
  /-- ML_KEM_768_ENCAPSULATE (R121) -/
  | mlKem768Encapsulate (q : RegAcc) (n : Fin 8)
  /-- ML_KEM_768_DECAPSULATE (R121) -/
  | mlKem768Decapsulate (q : RegAcc) (n : Fin 8)
  /-- RANDOM (R121) -/
  | random (q : RegAcc) (n : Fin 8)
  /-- WRAP (R109) -/
  | wrap (q : RegAcc) (n : Fin 8)
  /-- UNWRAP (R105) -/
  | unwrap (q : RegAcc) (n : Fin 8)
  /-- LIC_INSTALL (R123) -/
  | licInstall (q : RegAcc) (n : Fin 8)
  /-- LIC_REMOVE (R124) -/
  | licRemove (q : RegAcc) (n : Fin 8)
  /-- ATTEST (R145) -/
  | attest (q : RegAcc) (n : Fin 8)
  /-- DEVICE_PUBKEY (R121) -/
  | devicePubkey (q : RegAcc) (n : Fin 8)
  /-- COPPER_MESSAGE_DONE (R111) -/
  | copperMessageDone (n : Fin 8)
  /-- KEEVE_PROGRAM (R99) -/
  | keeveProgram (q : RegAcc)
  /-- KEEVE_ERASE (R98) -/
  | keeveErase (q : RegAcc)
  /-- KEEVE_RECORD_WRITE (R96) -/
  | keeveRecordWrite (q : RegAcc)
  /-- KEEVE_REVOKE (R97) -/
  | keeveRevoke (q : RegAcc)
  /-- KEEVE_OP_DONE (R98) -/
  | keeveOpDone
  /-- TRNG_HEALTH_FAIL (R100) -/
  | trngHealthFail
  /-- TRNG_STARTUP_DONE (R101) -/
  | trngStartupDone
  /-- DRBG_RESEED (R103) -/
  | drbgReseed
  /-- TRNG_OUT_READ (R693) -/
  | trngOutRead (q : RegAcc)
  /-- RESEAL (R137) -/
  | reseal (q : RegAcc)
  /-- RESEAL_DONE (R137) -/
  | resealDone (i : Fin 32)
  /-- FK_LOAD (R139) -/
  | fkLoad (q : RegAcc)
  /-- FK_LOAD_DONE (R139) -/
  | fkLoadDone
  /-- FK_START (R141) -/
  | fkStart (q : RegAcc)
  /-- FK_STOP (R141) -/
  | fkStop (q : RegAcc)
  /-- FK_DESTROY (R143) -/
  | fkDestroy (q : RegAcc)
  /-- FK_DESTROY_DONE (R143) -/
  | fkDestroyDone
  /-- RESULT_WRITEBACK (R164) -/
  | resultWriteback (p : Fin 14)
  /-- LONG_OP_STALL_END (R171) -/
  | longOpStallEnd (p : Fin 14)
  /-- ICACHE_FILL (R184) -/
  | icacheFill (p : Fin 14) (line : BitVec 40) (ecc : Ecc)
  /-- PREFETCH_LINE (R183) -/
  | prefetchLine (p : Fin 14) (line : BitVec 40) (ecc : Ecc)
  /-- DCACHE_FILL (R185) -/
  | dcacheFill (p : Fin 14) (line : BitVec 40) (ecc : Ecc)
  /-- ADD (R195) -/
  | add (o : TSyl)
  /-- SUB (R195) -/
  | sub (o : TSyl)
  /-- ADDW (R195) -/
  | addw (o : TSyl)
  /-- SUBW (R195) -/
  | subw (o : TSyl)
  /-- MIN (R195) -/
  | min (o : TSyl)
  /-- MAX (R195) -/
  | max (o : TSyl)
  /-- MINU (R195) -/
  | minu (o : TSyl)
  /-- MAXU (R195) -/
  | maxu (o : TSyl)
  /-- ABS (R195) -/
  | abs (o : TSyl)
  /-- ABSD (R195) -/
  | absd (o : TSyl)
  /-- AVG (R195) -/
  | avg (o : TSyl)
  /-- ADDI (R195) -/
  | addi (o : ISyl)
  /-- SEL (R195) -/
  | sel (p : BitVec 3) (o : TSyl)
  /-- ADDS (R197) -/
  | adds (o : TSyl)
  /-- SUBS (R197) -/
  | subs (o : TSyl)
  /-- ADDSW (R197) -/
  | addsw (o : TSyl)
  /-- SUBSW (R197) -/
  | subsw (o : TSyl)
  /-- ADDUS (R197) -/
  | addus (o : TSyl)
  /-- SUBUS (R197) -/
  | subus (o : TSyl)
  /-- ABSS (R197) -/
  | abss (o : TSyl)
  /-- NEGS (R197) -/
  | negs (o : TSyl)
  /-- SATW (R197) -/
  | satw (o : TSyl)
  /-- SATH (R197) -/
  | sath (o : TSyl)
  /-- PADDH (R198) -/
  | paddh (o : TSyl)
  /-- PSUBH (R198) -/
  | psubh (o : TSyl)
  /-- PADDSH (R198) -/
  | paddsh (o : TSyl)
  /-- PSUBSH (R198) -/
  | psubsh (o : TSyl)
  /-- PADDW (R198) -/
  | paddw (o : TSyl)
  /-- PSUBW (R198) -/
  | psubw (o : TSyl)
  /-- PADDSW (R198) -/
  | paddsw (o : TSyl)
  /-- PSUBSW (R198) -/
  | psubsw (o : TSyl)
  /-- PMAXH (R198) -/
  | pmaxh (o : TSyl)
  /-- PMINH (R198) -/
  | pminh (o : TSyl)
  /-- PABSSH (R198) -/
  | pabssh (o : TSyl)
  /-- QMUL15 (R199) -/
  | qmul15 (o : TSyl)
  /-- QMUL31 (R199) -/
  | qmul31 (o : TSyl)
  /-- QMAC31 (R199) -/
  | qmac31 (o : TSyl)
  /-- QMSU31 (R199) -/
  | qmsu31 (o : TSyl)
  /-- PQMUL15 (R199) -/
  | pqmul15 (o : TSyl)
  /-- QRND31 (R199) -/
  | qrnd31 (o : TSyl)
  /-- AND (R200) -/
  | and (o : TSyl)
  /-- OR (R200) -/
  | or (o : TSyl)
  /-- XOR (R200) -/
  | xor (o : TSyl)
  /-- ANDN (R200) -/
  | andn (o : TSyl)
  /-- ORN (R200) -/
  | orn (o : TSyl)
  /-- XNOR (R200) -/
  | xnor (o : TSyl)
  /-- NAND (R200) -/
  | nand (o : TSyl)
  /-- NOR (R200) -/
  | nor (o : TSyl)
  /-- ANDI (R200) -/
  | andi (o : ISyl)
  /-- ORI (R200) -/
  | ori (o : ISyl)
  /-- XORI (R200) -/
  | xori (o : ISyl)
  /-- EXTU (R201) -/
  | extu (o : TSyl)
  /-- EXTS (R201) -/
  | exts (o : TSyl)
  /-- INS (R201) -/
  | ins (o : TSyl)
  /-- CLZ (R201) -/
  | clz (o : TSyl)
  /-- CTZ (R201) -/
  | ctz (o : TSyl)
  /-- POPC (R201) -/
  | popc (o : TSyl)
  /-- BREV (R201) -/
  | brev (o : TSyl)
  /-- BSWAP (R201) -/
  | bswap (o : TSyl)
  /-- BSWAPW (R201) -/
  | bswapw (o : TSyl)
  /-- SLL (R202) -/
  | sll (o : TSyl)
  /-- SRL (R202) -/
  | srl (o : TSyl)
  /-- SRA (R202) -/
  | sra (o : TSyl)
  /-- ROL (R202) -/
  | rol (o : TSyl)
  /-- ROR (R202) -/
  | ror (o : TSyl)
  /-- SLLW (R202) -/
  | sllw (o : TSyl)
  /-- SRLW (R202) -/
  | srlw (o : TSyl)
  /-- SRAW (R202) -/
  | sraw (o : TSyl)
  /-- SLS (R202) -/
  | sls (o : TSyl)
  /-- SRAR (R202) -/
  | srar (o : TSyl)
  /-- SHIFTI (R203) -/
  | shifti (o : ISyl)
  /-- SHUFB (R204) -/
  | shufb (o : TSyl)
  /-- PACKW (R204) -/
  | packw (o : TSyl)
  /-- ZIPLOH (R204) -/
  | ziploh (o : TSyl)
  /-- ZIPHIH (R204) -/
  | ziphih (o : TSyl)
  /-- SPLATB (R204) -/
  | splatb (o : TSyl)
  /-- SPLATH (R204) -/
  | splath (o : TSyl)
  /-- SPLATW (R204) -/
  | splatw (o : TSyl)
  /-- SEXTB (R204) -/
  | sextb (o : TSyl)
  /-- SEXTH (R204) -/
  | sexth (o : TSyl)
  /-- SEXTW (R204) -/
  | sextw (o : TSyl)
  /-- ZEXTW (R204) -/
  | zextw (o : TSyl)
  /-- MOVI (R205) -/
  | movi (o : ISyl)
  /-- ADDPC (R205) -/
  | addpc (o : ISyl)
  /-- MFC (R206) -/
  | mfc (o : ISyl)
  /-- MTC (R206) -/
  | mtc (o : ISyl)
  /-- CMP (R208) -/
  | cmp (c : CmpC) (o : TSyl)
  /-- CMPI (R208) -/
  | cmpi (o : ISyl)
  /-- CMPIU (R208) -/
  | cmpiu (o : ISyl)
  /-- PLOG (R208) -/
  | plog (f : PlogF) (o : TSyl)
  /-- FCMP (R209) -/
  | fcmp (c : FcmpC) (f : Fmt) (o : TSyl)
  /-- MUL (R210) -/
  | mul (o : TSyl)
  /-- MULH (R210) -/
  | mulh (o : TSyl)
  /-- MULHU (R210) -/
  | mulhu (o : TSyl)
  /-- MULW (R210) -/
  | mulw (o : TSyl)
  /-- MULWU (R210) -/
  | mulwu (o : TSyl)
  /-- MAC (R210) -/
  | mac (o : TSyl)
  /-- MSU (R210) -/
  | msu (o : TSyl)
  /-- MACW (R210) -/
  | macw (o : TSyl)
  /-- PMULH (R210) -/
  | pmulh (o : TSyl)
  /-- PDOTH (R210) -/
  | pdoth (o : TSyl)
  /-- DIV (R211) -/
  | div (o : TSyl)
  /-- DIVU (R211) -/
  | divu (o : TSyl)
  /-- REM (R211) -/
  | rem (o : TSyl)
  /-- REMU (R211) -/
  | remu (o : TSyl)
  /-- DIVW (R211) -/
  | divw (o : TSyl)
  /-- DIVWU (R211) -/
  | divwu (o : TSyl)
  /-- FADD (R213) -/
  | fadd (f : Fmt) (o : TSyl)
  /-- FSUB (R213) -/
  | fsub (f : Fmt) (o : TSyl)
  /-- FMUL (R213) -/
  | fmul (f : Fmt) (o : TSyl)
  /-- FMA (R213) -/
  | fma (f : Fmt) (o : TSyl)
  /-- FMS (R213) -/
  | fms (f : Fmt) (o : TSyl)
  /-- FMIN (R213) -/
  | fmin (f : Fmt) (o : TSyl)
  /-- FMAX (R213) -/
  | fmax (f : Fmt) (o : TSyl)
  /-- FDIV (R213) -/
  | fdiv (f : Fmt) (o : TSyl)
  /-- FSQRT (R213) -/
  | fsqrt (f : Fmt) (o : TSyl)
  /-- FNEG (R213) -/
  | fneg (f : Fmt) (o : TSyl)
  /-- FABS (R213) -/
  | fabs (f : Fmt) (o : TSyl)
  /-- FCPYS (R213) -/
  | fcpys (f : Fmt) (o : TSyl)
  /-- PFADD (R215) -/
  | pfadd (f : PFmt) (o : TSyl)
  /-- PFMUL (R215) -/
  | pfmul (f : PFmt) (o : TSyl)
  /-- PFMA (R215) -/
  | pfma (f : PFmt) (o : TSyl)
  /-- CVT_S_D (R216) -/
  | cvtSD (o : TSyl)
  /-- CVT_D_S (R216) -/
  | cvtDS (o : TSyl)
  /-- CVT_H_S (R216) -/
  | cvtHS (o : TSyl)
  /-- CVT_S_H (R216) -/
  | cvtSH (o : TSyl)
  /-- CVT_BF_S (R216) -/
  | cvtBfS (o : TSyl)
  /-- CVT_S_BF (R216) -/
  | cvtSBf (o : TSyl)
  /-- CVT_W_S (R217) -/
  | cvtWS (o : TSyl)
  /-- TRC_W_S (R217) -/
  | trcWS (o : TSyl)
  /-- CVT_S_W (R216) -/
  | cvtSW (o : TSyl)
  /-- CVT_L_D (R217) -/
  | cvtLD (o : TSyl)
  /-- TRC_L_D (R217) -/
  | trcLD (o : TSyl)
  /-- CVT_D_L (R216) -/
  | cvtDL (o : TSyl)
  /-- XMAC (R218) -/
  | xmac (f : PFmt) (o : TSyl)
  /-- XMSU (R218) -/
  | xmsu (f : PFmt) (o : TSyl)
  /-- XDOT (R218) -/
  | xdot (f : PFmt) (o : TSyl)
  /-- XCLR (R218) -/
  | xclr (o : TSyl)
  /-- XRD (R256) -/
  | xrd (f : Fmt) (o : TSyl)
  /-- LD_B (R220) -/
  | ldB (o : ISyl) (ecc : Ecc)
  /-- LD_BU (R220) -/
  | ldBu (o : ISyl) (ecc : Ecc)
  /-- LD_H (R220) -/
  | ldH (o : ISyl) (ecc : Ecc)
  /-- LD_HU (R220) -/
  | ldHu (o : ISyl) (ecc : Ecc)
  /-- LD_W (R220) -/
  | ldW (o : ISyl) (ecc : Ecc)
  /-- LD_WU (R220) -/
  | ldWu (o : ISyl) (ecc : Ecc)
  /-- LD_D (R220) -/
  | ldD (o : ISyl) (ecc : Ecc)
  /-- ST_B (R220) -/
  | stB (o : ISyl)
  /-- ST_H (R220) -/
  | stH (o : ISyl)
  /-- ST_W (R220) -/
  | stW (o : ISyl)
  /-- ST_D (R220) -/
  | stD (o : ISyl)
  /-- ECC_WRITEBACK (R281) -/
  | eccWriteback (g : BitVec 40)
  /-- GPOP (R222) -/
  | gpop (o : TSyl) (ecc : Ecc)
  /-- GPOPT (R222) -/
  | gpopt (o : TSyl) (ecc : Ecc)
  /-- GPUSH (R222) -/
  | gpush (o : TSyl)
  /-- GPUSHT (R222) -/
  | gpusht (o : TSyl)
  /-- GLEVEL (R222) -/
  | glevel (o : TSyl)
  /-- GSPACE (R222) -/
  | gspace (o : TSyl)
  /-- SPGO (R268) -/
  | spgo (o : TSyl)
  /-- SPWAIT (R276) -/
  | spwait (o : TSyl)
  /-- BR (R225) -/
  | br (o : BSyl)
  /-- CALL (R227) -/
  | call (o : BSyl)
  /-- JR (R226) -/
  | jr (o : TSyl)
  /-- JALR (R227) -/
  | jalr (o : TSyl)
  /-- LOOP (R228) -/
  | loop (o : ISyl)
  /-- LOOPI (R228) -/
  | loopi (o : ISyl)
  /-- SETTLE (R174) -/
  | settle (o : TSyl)
  /-- TRAP (R229) -/
  | trap (o : TSyl)
  /-- ERET (R299) -/
  | eret (o : TSyl)
  /-- WAIT (R229) -/
  | wait (o : TSyl)
  /-- ODONE (R230) -/
  | odone (o : TSyl)
  /-- FENCE (R229) -/
  | fence (o : TSyl)
  /-- NOP (R229) -/
  | nop (k : NopKind) (o : TSyl)
  /-- DCLEAN (R229) -/
  | dclean (o : TSyl)
  /-- DCINV (R229) -/
  | dcinv (o : TSyl)
  /-- DCFLUSH (R229) -/
  | dcflush (o : TSyl)
  /-- MCALL (R229) -/
  | mcall (o : TSyl)
  /-- SCALL (R229) -/
  | scall (o : TSyl)
  /-- INTERRUPT_ACCEPT (R295) -/
  | interruptAccept (p : Fin 14) (fast : Bool)
  /-- NORMAL_CLASS_ENTRY (R290) -/
  | normalClassEntry (p : Fin 14)
  /-- FAST_CLASS_ENTRY (R293) -/
  | fastClassEntry (p : Fin 14)
  /-- EIC_SOURCE_EDGE (R310) -/
  | eicSourceEdge (i : Fin 256)
  /-- EIC_PEND_WRITE (R312) -/
  | eicPendWrite (q : RegAcc) (k : Fin 8)
  /-- EIC_CLR_WRITE (R312) -/
  | eicClrWrite (q : RegAcc) (k : Fin 8)
  /-- EIC_CLAIM_READ (R318) -/
  | eicClaimRead (q : RegAcc) (p : Fin 2)
  /-- EIC_FCLAIM_READ (R318) -/
  | eicFclaimRead (q : RegAcc) (p : Fin 2)
  /-- EIC_DONE_WRITE (R321) -/
  | eicDoneWrite (q : RegAcc) (p : Fin 2)
  /-- EIC_STRAY_CLEAR (R322) -/
  | eicStrayClear (q : RegAcc)
  /-- BUNG_ACQUIRE (R323) -/
  | bungAcquire (q : RegAcc) (n : Fin 64)
  /-- BUNG_RELEASE (R325) -/
  | bungRelease (q : RegAcc) (n : Fin 64)
  /-- BUNG_BREAK (R327) -/
  | bungBreak (q : RegAcc)
  /-- SPARGE_POST (R269) -/
  | spargePost (q : RegAcc) (c : Fin 32)
  /-- SPARGE_TRANSFER_START (R267) -/
  | spargeTransferStart (c : Fin 32) (i : Fin 8)
  /-- SPARGE_BURST (R267) -/
  | spargeBurst (c : Fin 32) (i : Fin 8) (ecc : Ecc) (inDst : Bool)
  /-- SPARGE_GRANT_WAIT_END (R274) -/
  | spargeGrantWaitEnd (c : Fin 32) (i : Fin 8)
  /-- SPARGE_DESC_COMPLETE (R273) -/
  | spargeDescComplete (c : Fin 32)
  /-- SPARGE_CHAIN_NEXT (R701) -/
  | spargeChainNext (c : Fin 32) (i : Fin 8)
  /-- SPARGE_ABORT (R276) -/
  | spargeAbort (q : RegAcc) (c : Fin 32)
  /-- QUEUE_ENABLE (R335) -/
  | queueEnable (q : RegAcc) (n : Fin 32)
  /-- QUEUE_DISABLE (R334) -/
  | queueDisable (q : RegAcc) (n : Fin 32)
  /-- GYLE_WRITE (R339) -/
  | gyleWrite (q : RegAcc) (n : Fin 32)
  /-- ORDER_DOORBELL (R337) -/
  | orderDoorbell (q : RegAcc) (n : Fin 32)
  /-- ORDER_ACCEPT (R337) -/
  | orderAccept (n : Fin 32)
  /-- ORDER_CLAIM (R342) -/
  | orderClaim (t : Fin 12)
  /-- ATTEMPT_START (R344) -/
  | attemptStart (t : Fin 12)
  /-- ATTEMPT_END (R345) -/
  | attemptEnd (t : Fin 12)
  /-- ATTEMPT_WATCHDOG_EXPIRY (R350) -/
  | attemptWatchdogExpiry (t : Fin 12)
  /-- ORDER_RACK (R347) -/
  | orderRack (n : Fin 32) (ecc : Ecc) (jbad : Bool)
  /-- ORDER_RACKED (R347) -/
  | orderRacked (n : Fin 32)
  /-- ORDER_RUN (R354) -/
  | orderRun (q : RegAcc)
  /-- STEEP_SWAP (R358) -/
  | steepSwap
  /-- STEEP_SELFTEST_START (R358) -/
  | steepSelftestStart
  /-- STEEP_TEST_DONE (R360) -/
  | steepTestDone (pass : Bool)
  /-- STEEP_PAUSE (R362) -/
  | steepPause (q : RegAcc)
  /-- STEEP_UNPAUSE (R362) -/
  | steepUnpause (q : RegAcc)
  /-- STEEP_DIRECT (R364) -/
  | steepDirect (q : RegAcc)
  /-- GRANT_ENABLE (R370) -/
  | grantEnable (q : RegAcc) (n : Fin 64)
  /-- GRANT_DISABLE (R373) -/
  | grantDisable (q : RegAcc) (n : Fin 64)
  /-- GRANT_PUSH_WRITE (R377) -/
  | grantPushWrite (q : RegAcc) (n : Fin 64)
  /-- GRANT_POP_READ (R378) -/
  | grantPopRead (q : RegAcc) (n : Fin 64) (ecc : Ecc)
  /-- PORT_GRANT_PUSH (R395) -/
  | portGrantPush (n : Fin 64) (v : Word) (side : Option Word)
  /-- PORT_GRANT_POP (R395) -/
  | portGrantPop (n : Fin 64) (ecc : Ecc)
  /-- GRANT_POINTER_CROSS (R375) -/
  | grantPointerCross (n : Fin 64) (toReader : Bool)
  /-- DRIFT_WINDOW_END (R380) -/
  | driftWindowEnd (n : Fin 64)
  /-- DTB_NOW_READ (R385) -/
  | dtbNowRead (q : RegAcc)
  /-- DTB_EPOCH_WRITE (R387) -/
  | dtbEpochWrite (q : RegAcc)
  /-- DTB_MEASUREMENT (R389) -/
  | dtbMeasurement (q : RegAcc)
  /-- DTB_REF_EDGE (R388) -/
  | dtbRefEdge (video : Bool)
  /-- DTB_SRC_WRITE (R391) -/
  | dtbSrcWrite (q : RegAcc)
  /-- DTB_FREQ_WRITE (R391) -/
  | dtbFreqWrite (q : RegAcc)
  /-- DTB_HOLDOVER_TIMEOUT (R390) -/
  | dtbHoldoverTimeout
  /-- DTB_ALARM_FIRE (R392) -/
  | dtbAlarmFire
  /-- SCENE_GO (R407) -/
  | sceneGo (q : RegAcc)
  /-- STREAM_STOP_BOUNDARY (R408) -/
  | streamStopBoundary (n : Fin 64)
  /-- STREAM_RESTART (R410) -/
  | streamRestart (n : Fin 64)
  /-- STREAM_BLOCK_CAPTURED (R400) -/
  | streamBlockCaptured (n : Fin 64)
  /-- STREAM_SUBMIT_RETRY (R401) -/
  | streamSubmitRetry (n : Fin 64)
  /-- STREAM_RECORD (R403) -/
  | streamRecord (n : Fin 64)
  /-- SINK_BOUNDARY (R404) -/
  | sinkBoundary (n : Fin 64)
  /-- MODE_BOIL (R598) -/
  | modeBoil (q : RegAcc)
  /-- MODE_MASH (R598) -/
  | modeMash (q : RegAcc)
  /-- MODE_REST (R598) -/
  | modeRest (q : RegAcc)
  /-- MODE_CONDITION (R598) -/
  | modeCondition (q : RegAcc)
  /-- MODE_DORMANT (R609) -/
  | modeDormant (q : RegAcc)
  /-- MODE_TRANSITION_DONE (R600) -/
  | modeTransitionDone
  /-- REST_WAKE (R602) -/
  | restWake
  /-- WAKE_EVENT (R610) -/
  | wakeEvent (w : WakeSrc)
  /-- DORMANT_WAKE_SERVE (R609) -/
  | dormantWakeServe
  /-- DDR_SELF_REFRESH_ENTRY (R604) -/
  | ddrSelfRefreshEntry
  /-- GATE_CLOCK_ON (R606) -/
  | gateClockOn (q : RegAcc)
  /-- GATE_CLOCK_OFF (R606) -/
  | gateClockOff (q : RegAcc)
  /-- GATE_POWER_OFF (R606) -/
  | gatePowerOff (q : RegAcc)
  /-- GATE_POWER_ON (R607) -/
  | gatePowerOn (q : RegAcc)
  /-- DEFER_GRANT (R606) -/
  | deferGrant (q : RegAcc)
  /-- DEFER_DENY (R606) -/
  | deferDeny (q : RegAcc)
  /-- TRIM_WRITE (R614) -/
  | trimWrite (q : RegAcc)
  /-- TRIM_APPLY (R614) -/
  | trimApply (t : Fin 6)
  /-- THROTTLE_RELEASE (R612) -/
  | throttleRelease
  /-- MON_CONVERSION (R632) -/
  | monConversion (c : MonCh)
  /-- LOG_ENTRY_ACCEPT (R624) -/
  | logEntryAccept (r : Fin 3)
  /-- LOG_READ_ADVANCE (R625) -/
  | logReadAdvance (q : RegAcc) (r : Fin 3) (ecc : Ecc)
  /-- LOG_RSEQ_WRITE (R625) -/
  | logRseqWrite (q : RegAcc) (r : Fin 3)
  /-- LOG_CLEAR (R627) -/
  | logClear (q : RegAcc) (r : Fin 3)
  /-- WDT_ENABLE (R628) -/
  | wdtEnable (q : RegAcc)
  /-- WDT_KICK (R630) -/
  | wdtKick (q : RegAcc)
  /-- WDT_FIRST_EXPIRY (R629) -/
  | wdtFirstExpiry
  /-- WDT_FINAL_EXPIRY (R629) -/
  | wdtFinalExpiry
  /-- MCLK_LOST (R420) -/
  | mclkLost (b : Bool)
  /-- SAP_ENABLE (R428) -/
  | sapEnable (q : RegAcc) (p : Fin 8)
  /-- SAP_DISABLE (R448) -/
  | sapDisable (q : RegAcc) (p : Fin 8)
  /-- SAP_FRAME (R423) -/
  | sapFrame (p : Fin 8) (slots : List (BitVec 32)) (bits : Nat) (age : BitVec 64) (ecc : List Ecc)
  /-- SAP_CLOCK_LOST (R453) -/
  | sapClockLost (p : Fin 8)
  /-- AES3_RX_FRAME (R431) -/
  | aes3RxFrame (i : Fin 4) (a : SubFrame) (b : SubFrame) (z : Bool) (age : BitVec 64)
  /-- FLY_FRAME (R451) -/
  | flyFrame (src : FlySrc) (age : BitVec 64)
  /-- AES3_RX_BLOCK_END (R432) -/
  | aes3RxBlockEnd (i : Fin 4) (freq : BitVec 24)
  /-- AES3_RESUME (R452) -/
  | aes3Resume (q : RegAcc) (i : Fin 4)
  /-- AES3_TX_ENABLE (R434) -/
  | aes3TxEnable (q : RegAcc) (i : Fin 4)
  /-- AES3_TX_FRAME (R434) -/
  | aes3TxFrame (i : Fin 4) (ecc : List Ecc)
  /-- AES3_TX_COMMIT (R435) -/
  | aes3TxCommit (q : RegAcc) (i : Fin 4)
  /-- MADI_RX_FRAME (R439) -/
  | madiRxFrame (sync : Bool) (freq : BitVec 24) (l : List MadiSub) (age : BitVec 64)
  /-- MADI_TX_FRAME (R439) -/
  | madiTxFrame (ecc : List Ecc)
  /-- MADI_LOS (R451) -/
  | madiLos
  /-- PDM_ENABLE (R440) -/
  | pdmEnable (q : RegAcc)
  /-- PDM_SAMPLE (R441) -/
  | pdmSample (l : List (BitVec 24 × Bool))
  /-- PDM_STUCK (R454) -/
  | pdmStuck (c : Fin 8)
  /-- SDI_RX_ENABLE (R479) -/
  | sdiRxEnable (q : RegAcc) (p : Fin 4)
  /-- SDI_RX_LOCK (R459) -/
  | sdiRxLock (p : Fin 4) (rate : BitVec 3) (frac : Bool) (code : BitVec 5) (samp : BitVec 2)
  /-- SDI_RX_LINE (R461) -/
  | sdiRxLine (p : Fin 4) (l : SdiLine) (age : BitVec 64)
  /-- SDI_LOCK_LOST (R482) -/
  | sdiLockLost (p : Fin 4) (age : BitVec 64)
  /-- SDI_FLY_FRAME (R482) -/
  | sdiFlyFrame (p : Fin 4) (age : BitVec 64)
  /-- SDI_ANC_PACKET (R462) -/
  | sdiAncPacket (p : Fin 4) (k : AncPkt)
  /-- SDI_AUDIO_PACKET (R463) -/
  | sdiAudioPacket (p : Fin 4) (l : List SdiAud)
  /-- SDI_TX_ENABLE (R479) -/
  | sdiTxEnable (q : RegAcc) (p : Fin 4)
  /-- SDI_TX_LINE (R471) -/
  | sdiTxLine (p : Fin 4) (ecc : List Ecc)
  /-- SDI_TX_ANC (R472) -/
  | sdiTxAnc (p : Fin 4) (fits : Bool) (ecc : List Ecc)
  /-- SDI_TX_AUDIO (R473) -/
  | sdiTxAudio (p : Fin 4) (ecc : List Ecc)
  /-- PIXEL_STAGE_COMMIT (R469) -/
  | pixelStageCommit (q : RegAcc) (p : Fin 4)
  /-- PIXEL_STAGE_APPLY (R469) -/
  | pixelStageApply (p : Fin 4)
  /-- LUT_DATA_WRITE (R469) -/
  | lutDataWrite (q : RegAcc) (p : Fin 4)
  /-- VREF_EDGE (R474) -/
  | vrefEdge (per : BitVec 32)
  /-- VREF_LOST (R474) -/
  | vrefLost
  /-- GENLOCK_ACHIEVED (R475) -/
  | genlockAchieved (p : Fin 4)
  /-- ETH_ENABLE (R484) -/
  | ethEnable (q : RegAcc) (m : Fin 2)
  /-- ETH_MDIO_START (R486) -/
  | ethMdioStart (q : RegAcc) (m : Fin 2)
  /-- ETH_MDIO_DONE (R486) -/
  | ethMdioDone (m : Fin 2) (v : BitVec 16)
  /-- ETH_TX_FRAME (R492) -/
  | ethTxFrame (m : Fin 2)
  /-- ETH_RX_FRAME (R488) -/
  | ethRxFrame (m : Fin 2) (l : List Byte) (bad : Bool) (age : BitVec 64)
  /-- ETH_LINK_CHANGE (R516) -/
  | ethLinkChange (m : Fin 2) (up : Bool) (rate : BitVec 2)
  /-- GATE_CYCLE_START (R494) -/
  | gateCycleStart (m : Fin 2)
  /-- GATE_ENTRY_END (R494) -/
  | gateEntryEnd (m : Fin 2)
  /-- GATE_LIST_CHANGE (R495) -/
  | gateListChange (q : RegAcc) (m : Fin 2)
  /-- RTP_TX_PACKET (R497) -/
  | rtpTxPacket (m : Fin 2) (f : Fin 4) (ecc : List Ecc)
  /-- RTP_LAUNCH (R498) -/
  | rtpLaunch (m : Fin 2) (f : Fin 4)
  /-- RTP_RX_PACKET (R499) -/
  | rtpRxPacket (m : Fin 2) (f : Fin 4) (l : List Byte)
  /-- USB_SOF (R503) -/
  | usbSof (frame : BitVec 14) (age : BitVec 64) (ecc : List Ecc)
  /-- USB_ISO_OUT_PACKET (R504) -/
  | usbIsoOutPacket (e : Fin 4) (l : List Byte) (ok : Bool)
  /-- USB_FEEDBACK_WINDOW (R505) -/
  | usbFeedbackWindow (e : Fin 4)
  /-- USB_TRANSFER (R502) -/
  | usbTransfer (e : Fin 16) (out : Bool) (x : UsbXfer)
  /-- USB_ROLE_CHANGE (R514) -/
  | usbRoleChange (r : UsbRole)
  /-- PCIE_LINK_TRAIN (R507) -/
  | pcieLinkTrain (gen : BitVec 2) (width : BitVec 2)
  /-- PCIE_INBOUND_READ (R509) -/
  | pcieInboundRead (bar2 : Bool) (off : BitVec 22) (wide : Bool) (v : Word) (ok : Bool)
  /-- PCIE_INBOUND_WRITE (R509) -/
  | pcieInboundWrite (bar2 : Bool) (off : BitVec 22) (wide : Bool) (v : Word) (ok : Bool)
  /-- PCIE_COMPLETION (R510) -/
  | pcieCompletion (tag : Byte) (ok : Bool) (data : List Byte)
  /-- PCIE_COMPLETION_TIMEOUT (R510) -/
  | pcieCompletionTimeout (tag : Byte)
  /-- PCIE_FLR (R515) -/
  | pcieFlr
  /-- SDK_PORT_ENABLE (R526) -/
  | sdkPortEnable (n : Fin 2)
  /-- SDK_SIGNAL_DETECT (R526) -/
  | sdkSignalDetect (n : Fin 2)
  /-- SDK_LOCK_TIMEOUT (R526) -/
  | sdkLockTimeout (n : Fin 2)
  /-- SDK_DOWN_WAIT_END (R526) -/
  | sdkDownWaitEnd (n : Fin 2)
  /-- SDK_IDLE_BLOCK (R521) -/
  | sdkIdleBlock (n : Fin 2)
  /-- SDK_ALIGN_BLOCK (R522) -/
  | sdkAlignBlock (n : Fin 2)
  /-- SDK_TS1 (R521) -/
  | sdkTs1 (n : Fin 2) (b : BitVec 24)
  /-- SDK_TS2 (R526) -/
  | sdkTs2 (n : Fin 2) (b : BitVec 24)
  /-- CELL_NULL (R528) -/
  | cellNull (n : Fin 2) (c : List Byte)
  /-- CELL_STREAM (R543) -/
  | cellStream (n : Fin 2) (c : List Byte)
  /-- CELL_ORDER_DOOR (R542) -/
  | cellOrderDoor (n : Fin 2) (c : List Byte)
  /-- CELL_ORDER_RESULT (R542) -/
  | cellOrderResult (n : Fin 2) (c : List Byte)
  /-- CELL_MEM_WRITE (R540) -/
  | cellMemWrite (n : Fin 2) (c : List Byte)
  /-- CELL_MEM_READ (R540) -/
  | cellMemRead (n : Fin 2) (c : List Byte)
  /-- CELL_MEM_RESP (R541) -/
  | cellMemResp (n : Fin 2) (c : List Byte)
  /-- CELL_TIME_MARK (R548) -/
  | cellTimeMark (n : Fin 2) (c : List Byte)
  /-- CELL_DELAY_REQ (R546) -/
  | cellDelayReq (n : Fin 2) (c : List Byte)
  /-- CELL_DELAY_RESP (R546) -/
  | cellDelayResp (n : Fin 2) (c : List Byte)
  /-- CELL_NAK (R529) -/
  | cellNak (n : Fin 2) (c : List Byte)
  /-- CELL_AUTH (R534) -/
  | cellAuth (n : Fin 2) (c : List Byte)
  /-- CELL_BOOT_REQ (R550) -/
  | cellBootReq (n : Fin 2) (c : List Byte)
  /-- CELL_BOOT_DATA (R551) -/
  | cellBootData (n : Fin 2) (c : List Byte)
  /-- SDK_REPLAY_TIMEOUT (R529) -/
  | sdkReplayTimeout (n : Fin 2)
  /-- SDK_ACK_TIMEOUT (R529) -/
  | sdkAckTimeout (n : Fin 2)
  /-- SDK_DELAY_TIMER (R546) -/
  | sdkDelayTimer (n : Fin 2)
  /-- SDK_MARK_TIMER (R547) -/
  | sdkMarkTimer
  /-- SDK_REQUEST_TIMEOUT (R541) -/
  | sdkRequestTimeout (tag : Byte)
  /-- SDK_OFWD (R542) -/
  | sdkOfwd (q : RegAcc)
  /-- SDK_BOOT_RETRY (R551) -/
  | sdkBootRetry
  /-- SDK_STREAM_SEND (R543) -/
  | sdkStreamSend (c : Fin 8)
  /-- TAP_ENABLE (R569) -/
  | tapEnable (q : RegAcc) (e : Fin 16)
  /-- TAP_DISABLE (R572) -/
  | tapDisable (q : RegAcc) (e : Fin 16)
  /-- TAP_HALT (R571) -/
  | tapHalt (q : RegAcc) (e : Fin 16)
  /-- TAP_RESUME (R571) -/
  | tapResume (q : RegAcc) (e : Fin 16)
  /-- TAP_REWIND (R572) -/
  | tapRewind (q : RegAcc) (e : Fin 16)
  /-- TAP_PMEM_WRITE (R570) -/
  | tapPmemWrite (q : RegAcc) (b : Fin 4) (w : Fin 64)
  /-- TAP_NOP (R559) -/
  | tapNop (e : Fin 16)
  /-- TAP_SHIFT_IN (R562) -/
  | tapShiftIn (e : Fin 16) (pins : List (BitVec 48))
  /-- TAP_SHIFT_OUT (R562) -/
  | tapShiftOut (e : Fin 16) (k : Fin 33)
  /-- TAP_WAITPIN (R560) -/
  | tapWaitpin (e : Fin 16)
  /-- TAP_WAITEVT (R560) -/
  | tapWaitevt (e : Fin 16)
  /-- TAP_WAIT_MET (R560) -/
  | tapWaitMet (e : Fin 16)
  /-- TAP_SETPIN (R560) -/
  | tapSetpin (e : Fin 16)
  /-- TAP_JUMPIF (R560) -/
  | tapJumpif (e : Fin 16) (pins : BitVec 48)
  /-- TAP_COUNT (R560) -/
  | tapCount (e : Fin 16)
  /-- TAP_EMIT (R560) -/
  | tapEmit (e : Fin 16)
  /-- TAP_DELAY_EXPIRY (R559) -/
  | tapDelayExpiry (e : Fin 16)
  /-- TAP_STALL_END (R564) -/
  | tapStallEnd (e : Fin 16)
  /-- GPIO_FUNC_WRITE (R555) -/
  | gpioFuncWrite (q : RegAcc) (n : Fin 48)
  /-- GPIO_EDGE (R313) -/
  | gpioEdge (n : Fin 48) (high : Bool)
  /-- HCP_IDENT (R586) -/
  | hcpIdent (b : List Byte)
  /-- HCP_STATUS (R580) -/
  | hcpStatus (b : List Byte)
  /-- HCP_LOGREAD (R625) -/
  | hcpLogread (b : List Byte)
  /-- HCP_MODE (R586) -/
  | hcpMode (b : List Byte)
  /-- HCP_SELFTEST (R589) -/
  | hcpSelftest (b : List Byte)
  /-- HCP_ORDER (R588) -/
  | hcpOrder (b : List Byte)
  /-- HCP_ATTEST (R586) -/
  | hcpAttest (b : List Byte)
  /-- HCP_FLASHWRITE (R592) -/
  | hcpFlashwrite (b : List Byte)
  /-- HCP_KEEVEWRITE (R586) -/
  | hcpKeevewrite (b : List Byte)
  /-- PROVISION_CHALLENGE (R590) -/
  | provisionChallenge (b : List Byte)
  /-- PROVISION_TOKEN (R590) -/
  | provisionToken (b : List Byte)
  /-- PROVISION_LIFECYCLE (R54) -/
  | provisionLifecycle (b : List Byte)
  /-- PROVISION_ROOTHASH (R56) -/
  | provisionRoothash (b : List Byte)
  /-- PROVISION_POLICY (R590) -/
  | provisionPolicy (b : List Byte)
  /-- PROVISION_VENDOR (R590) -/
  | provisionVendor (b : List Byte)
  /-- PROVISION_REPAIR (R590) -/
  | provisionRepair (b : List Byte)
  /-- HCP_RESET (R586) -/
  | hcpReset (b : List Byte)
  /-- HCP_RESET_START (R586) -/
  | hcpResetStart
  /-- SESSION_OPEN (R582) -/
  | sessionOpen (b : List Byte)
  /-- SESSION_PROVE (R583) -/
  | sessionProve (b : List Byte)
  /-- SESSION_CLOSE (R585) -/
  | sessionClose (b : List Byte)
  /-- HCP_CFG_CLOSE (R585) -/
  | hcpCfgClose (q : RegAcc)
  /-- HCP_SESSION_IDLE_TIMEOUT (R582) -/
  | hcpSessionIdleTimeout
  /-- HCP_READ (R587) -/
  | hcpRead (b : List Byte)
  /-- HCP_WRITE (R587) -/
  | hcpWrite (b : List Byte)
  /-- LOAD_CHUNK (R591) -/
  | loadChunk (b : List Byte)
  /-- LOAD_EXEC (R591) -/
  | loadExec (b : List Byte)
  /-- HCP_UNKNOWN_FRAME (R578) -/
  | hcpUnknownFrame (b : List Byte)
  /-- HCP_COMMAND_DONE (R580) -/
  | hcpCommandDone (flashOk : Bool)
  /-- HCP_RESPONSE_READ (R576) -/
  | hcpResponseRead
  /-- HCP_FRAME_ABORT (R594) -/
  | hcpFrameAbort (badSync : Bool)
  /-- AON_OSC_FAILOVER (R692) -/
  | aonOscFailover
  /-- AON_OSC_RETURN (R692) -/
  | aonOscReturn
  /-- VDDIO_AON_LOSS (R671) -/
  | vddioAonLoss
  /-- VDD_SOC_DISCHARGED (R674) -/
  | vddSocDischarged
  /-- DEBUG_RESUME (R631) -/
  | debugResume (p : Fin 14)
  /-- PCIE_LINK_DOWN (R326) -/
  | pcieLinkDown
  /-- PCIE_CONFIG_REQUEST (R507) -/
  | pcieConfigRequest (c : PcieConf)
  /-- PCIE_MALFORMED_TLP (R516) -/
  | pcieMalformedTlp (poisoned : Bool)
  /-- USB_VBUS_CHANGE (R683) -/
  | usbVbusChange (valid : Bool)
  /-- SDK_INVALID_HEADER (R553) -/
  | sdkInvalidHeader (n : Fin 2) (lane : Fin 4)
  /-- CELL_CRC_ERROR (R554) -/
  | cellCrcError (n : Fin 2) (c : List Byte)
  /-- CELL_UNKNOWN_TYPE (R554) -/
  | cellUnknownType (n : Fin 2) (c : List Byte)
  /-- SDK_AUTH_VERIFIED (R534) -/
  | sdkAuthVerified (n : Fin 2)
  deriving DecidableEq, Repr

end Sys2Proof
end

