-- ==== Sys2Proof/Decode.lean ====
section
/-! DEFINITION. Commands as words of the table's bits. The table of this block gives no row any bits (log entry 1), so
no word spells a command. -/
namespace Sys2Proof

/-- The command that a word spells by the table's bits: none, since no row of the table has bits. -/
def decodeTableWord (_nbits _w : Nat) : Option Instr := none

end Sys2Proof
end

