-- ==== Sys2Proof/Machine/State.lean ====
section
/-! DEFINITION. The state of the block, as plain data: everything the spec gives the machine, the queue of waiting
commands, and the state right after a cold reset. -/
namespace Sys2Proof.Machine

/-- A sparse table: key and value pairs with strictly rising keys; a key that is not listed has a default value
that the reader of the table names. -/
abbrev Map (α : Type) := List (Nat × α)

/-- The three variants of the device (R14). -/
inductive Variant where | zm8640 | zm8620 | zm8610
  deriving DecidableEq, Repr

/-- The world of an access (R35). -/
inductive World where | normal | secure
  deriving DecidableEq, Repr

/-- The level of an access, T < N < S < M (R35). -/
inductive Level where | t | n | s | m
  deriving DecidableEq, Repr

/-- An access as PART sees it: who makes it, its identity under R114, its world, level and firkin attribute (R35). -/
structure Req where
  who : Requester
  id : Byte
  world : World
  level : Level
  firkin : Option (Fin 16)
  deriving DecidableEq, Repr

/-- What becomes of warm reset in a register row (R9, R22). -/
inductive Keep where
  /-- the cold value applies again -/
  | same
  /-- kept across warm reset -/
  | kept
  /-- in the always-on domain: cleared by VDDIO_AON power-on only -/
  | always
  deriving DecidableEq, Repr

/-- One row of a unit's register table: offset, number of instances and stride, 64-bit or not, the reset value, and the
bits that each access code of R1 covers. -/
structure RegRow where
  off : Nat
  count : Nat
  stride : Nat
  wide : Bool
  reset : Word
  keep : Keep
  rw : Word
  ro : Word
  w1c : Word
  w1s : Word
  wb : Word
  wo : Word
  rc : Word
  deriving DecidableEq, Repr

/-- A cause of a bus error, in the encoding order of R298. -/
inductive BusErr where
  | absentUnit | unmappedAddr | firkinAccess | worldDenied | regionDenied | sealFault | unsealedFetch
  | steeping | retiredUnit | regWidth | keeveDirect | cxNotHolder | eccUncorrected
  deriving DecidableEq, Repr

/-- A synchronous exception of a bundle (R286, R296): event code, sub-cause, faulting address, trap number. -/
structure Exc where
  code : Byte
  sub : Byte := 0
  eaddr : Nat := 0
  trapno : BitVec 6 := 0
  deriving DecidableEq, Repr

/-- Where a result in flight goes when it lands (R163, R164). -/
inductive Dest where
  | g (r : BitVec 6)
  | p (r : BitVec 3)
  /-- floating-point and saturation flags, ORed into FSTAT (R235) -/
  | flags
  /-- an MTC to FSTAT (R235) -/
  | fstat
  /-- an MTC to a control register that needs no SETTLE (R173) -/
  | creg (n : Nat)
  /-- XCLR of accumulator n (R219) -/
  | xclr (n : BitVec 2)
  /-- an exact accumulation into XAn (R219) -/
  | xadd (n : BitVec 2) (x : Xacc)
  /-- the record of XAn in XASTAT cleared by XCLR, and bits set in it by an accumulation (R255, R259) -/
  | xrecClr (n : BitVec 2)
  | xrec (n : BitVec 2) (r : BitVec 5)
  deriving DecidableEq, Repr

/-- A result in flight: the slot of its syllable, its destination, its value, and the issue cycle at whose end it lands
(R164, R166). -/
structure InFlight where
  slot : Nat
  dest : Dest
  val : Word
  due : Nat
  deriving DecidableEq, Repr

/-- An effect of a syllable, carried out when its bundle issues whole (R169). -/
inductive Eff where
  | res (d : Dest) (v : Word) (lat : Nat)
  /-- a write to a register marked SETTLE (R173) -/
  | settleWrite (n : Nat) (v : Word)
  | load (d : BitVec 6) (addr size : Nat) (sgn : Bool) (ecc : Ecc)
  | store (addr size : Nat) (v : Word)
  | gpop (d : BitVec 6) (side : Option (BitVec 6)) (n : BitVec 6) (ecc : Ecc)
  | gpush (n : BitVec 6) (v : Word) (side : Option Word)
  | glevel (d : BitVec 6) (n : BitVec 6)
  | gspace (d : BitVec 6) (n : BitVec 6)
  | spgo (addr : Nat) (c : BitVec 5)
  | spwait (c : BitVec 5)
  /-- a taken branch with its target and, for CALL and JALR, the link register (R225) -/
  | branch (target : Nat) (link : Option (BitVec 6))
  | loop (k : BitVec 2) (lend : Nat) (count : Word)
  | settle
  | eret
  | wait
  | odone (status : Byte)
  | fence
  | dclean (addr : Nat) (clean inval : Bool)
  | mfcDtb (d : BitVec 6)
  /-- MFC of CYCLES or STALLS, which count time (log entry 13) -/
  | mfcFree (d : BitVec 6)
  deriving DecidableEq, Repr

/-- A syllable of the bundle being gathered: the slot numbers its class may take (R155), the K syllables before it and
how many of them its format allows (R157), whether it is a K syllable that extends nothing, whether its guard read one
(R161), whether it is a long operation of R236, and what it does: an exception or its effects. -/
structure Staged where
  slots : List Nat
  ks : Nat
  kmax : Nat
  strayK : Bool
  guard : Bool
  long : Bool
  out : Sum Exc (List Eff)
  deriving DecidableEq, Repr

/-- Why a core is stalled (R171, R185). -/
inductive StallWhy where
  /-- a divide, square root or read-out that has issued -/
  | long
  | grant (n : BitVec 6)
  | spPost (c : BitVec 5)
  | spWait (c : BitVec 5)
  | dcache (line : Nat)
  | wait
  /-- an outbound PCIe or Sundik read that waits for its completion (R510, R541) -/
  | remote
  deriving DecidableEq, Repr

/-- The delay window of a taken branch (R168, R170) or of ODONE (R230): where issue goes on, the delay bundles still to
issue, the link register, and the software status when it is an ODONE. -/
structure Delay where
  target : Nat
  left : Nat
  link : Option (BitVec 6)
  odone : Option Byte
  deriving DecidableEq, Repr

/-- An event accepted by a core whose entry has not been made (R290, R295): ECAUSE so far and EADDR. -/
structure EventRec where
  code : Byte
  ecause : Word
  eaddr : Nat
  deriving DecidableEq, Repr

/-- What a core is doing (R22, R24, R153, R306, R357, R602). -/
inductive CorePhase where
  /-- held in reset: not released, or absent -/
  | held
  | running
  /-- part-reset; a control core then waits for its release (R24) -/
  | partReset
  | wedged
  /-- halted by DEBUG (R61) -/
  | halted
  /-- gated by REST, or powered off by CONDITION (R602, R603) -/
  | off
  deriving DecidableEq, Repr

/-- A line of a control core's data cache: the world that filled it (R52), whether it is dirty, its 64 bytes. -/
structure DLine where
  world : World
  dirty : Bool
  bytes : List Byte
  deriving DecidableEq, Repr

/-- One core, a control core or a tun. -/
structure Core where
  phase : CorePhase := .held
  pc : Nat := 0
  /-- G1 to G62 of the main file, and G63 of level v at key 64 + v -/
  g : Map Word := []
  /-- P1 to P7 of the main file, by bit -/
  p : BitVec 8 := 1
  /-- fast bank: G48 to G63, and P4 to P7 by bit (R293) -/
  fastG : Map Word := []
  fastP : BitVec 8 := 0
  /-- control registers in effect, by number (R190) -/
  creg : Map Word := []
  /-- writes pending until SETTLE, by number (R173) -/
  settle : Map Word := []
  /-- exact accumulators -/
  xa : Map Xacc := []
  inflight : List InFlight := []
  /-- number of the bundle to issue next; counts issued bundles since release -/
  cycle : Nat := 0
  /-- syllables of the bundle being gathered, in bundle order -/
  bundle : List Staged := []
  stall : Option StallWhy := none
  delay : Option Delay := none
  event : Option EventRec := none
  /-- a tun in its order fetcher (R230) -/
  fetching : Bool := false
  /-- journal index of the order attempted here -/
  order : Option Nat := none
  /-- the attempt's ODONE has drained -/
  odone : Bool := false
  /-- status of an ODONE whose delay window an event interrupted (R170, R230) -/
  odoneHeld : Option Byte := none
  /-- DTB[31:0] latched by the latest MFC of DTB_NS (R385) -/
  dtbFrac : BitVec 32 := 0
  /-- lines held by the instruction cache and its line buffer: the line's address, plus one for the secure world (R52) -/
  icache : List Nat := []
  /-- a fetch refused on a line, raised when a bundle of it is issued (R183); keyed as `icache` -/
  fetchErr : Map BusErr := []
  dcache : Map DLine := []
  /-- EDT entries in the EDT buffer, by entry address (R289), most recent first -/
  edt : Map (List Byte) := []
  /-- 1 KiB blocks of local memory written since the last scrub (R51), and the firkin slot of lines written by firkin
  execution (R43), by line -/
  written : List Nat := []
  fkLines : Map Nat := []
  /-- world and firkin slot of the previous order (R51) -/
  lastWorld : World := .secure
  lastFk : Option (Fin 16) := none
  /-- DEBUG has asked for a halt that is held (R61) -/
  haltHeld : Bool := false
  /-- NONLOCAL_ACCESS has been logged in this order (R265) -/
  nonlocalSeen : Bool := false
  deriving DecidableEq, Repr

/-- An entry of a log ring (R618): SEQ is kept whole. -/
structure LogEntry where
  time : Word
  seq : Word
  code : BitVec 16
  req : Byte
  flags : Byte
  arg0 : Word
  arg1 : Word
  deriving DecidableEq, Repr

/-- The state of a bung (R323). -/
inductive BungState where
  | free
  | held (id : Byte) (w : World)
  | broken (id : Byte) (w : World)
  deriving DecidableEq, Repr

/-- One entry of a grant: the value, its sideband (R379), and the DTB at its push (R380). -/
structure GEntry where
  val : Word
  side : Word
  pushed : Nat
  deriving DecidableEq, Repr

/-- One grant: its entries, oldest first; how many of them the reader does not see yet; how many popped places the
writer does not see freed yet (R374, R375); the drift meter (R380, R381): entries to pop before its next window starts,
entries of the window popped so far, the DTB at push and pop of its first entry, and the spans of a window that has
ended but is not yet in GRANT_DRIFTn. -/
structure Grant where
  q : List GEntry := []
  hidden : Nat := 0
  unfreed : Nat := 0
  skip : Nat := 0
  count : Nat := 0
  pushFirst : Nat := 0
  popFirst : Nat := 0
  ended : Option (Nat × Nat) := none
  /-- clock domains of the writer's and the reader's side at the enable (R371, R422) -/
  wdom : Nat := 0
  rdom : Nat := 0
  deriving DecidableEq, Repr

/-- A sparge descriptor (the table under "Descriptor format", R271). -/
structure SpDesc where
  src : Word
  dst : Word
  rowLen : BitVec 32
  rows : BitVec 16
  flags : BitVec 16
  srcStride : BitVec 32
  dstStride : BitVec 32
  next : Word
  doneGt : Byte
  zero29 : BitVec 56
  doneTag : Word
  zero38 : Word
  deriving DecidableEq, Repr

/-- Where a posted descriptor stands (R267, R274, R701): queued; running; its chain's next descriptor is to be read;
ended. -/
inductive SpPhase where | queued | running | chain | ended
  deriving DecidableEq, Repr

/-- A posted descriptor of a sparge channel: its post's attributes (R35), the tun that posted it, the journal index
and gyle of that tun's order and whether that order is rackable (R277), the descriptor in progress, how many of its
bytes have been moved, and the finished descriptors of its chain that have not completed yet, oldest first, with their
status and whether their completion entry is withheld (R271, R273, R276). -/
structure SpEntry where
  req : Req
  tun : Option (Fin 12)
  order : Option Nat
  gyle : Nat
  rackable : Bool
  desc : SpDesc
  phase : SpPhase
  moved : Nat
  fin : List (SpDesc × Byte × Bool)
  /-- the stream, the direction (true an output push) and the block, where a stream's engine posted it (R400, R403) -/
  stream : Option (Nat × Bool × Nat) := none
  /-- who posted, with the world and level that its chain is read with (R701) -/
  post : Req := req
  deriving DecidableEq, Repr

/-- The state of a journal entry that is not FREE (R340). -/
inductive JSt where | accepted | running | staged | racking
  deriving DecidableEq, Repr

/-- A journal entry (the table under "Journal"): the fields of the table, its descriptor's 64 bytes as ORDER last read
them from the ring, the processor that runs it, whether it ends FAILED, whether a transfer of its attempt ended
STAGING_ONLY (R345), whether it was replayed (R354). -/
structure JEntry where
  gyle : Nat
  queue : Nat
  desc : Nat
  st : JSt
  attempts : Nat
  tried : List Nat
  cause : Nat
  sw : Byte
  acceptNs : Nat
  d : List Byte
  proc : Option Nat
  failed : Bool
  stagingOnly : Bool
  replayed : Bool
  /-- the completion record, once the rack mover has begun to write it (R347) -/
  record : List Byte := []
  deriving DecidableEq, Repr

/-- STEEP's state that no register shows: tuns that must steep next, in order (R366); the tun out of turn (R364);
whether a swap is in progress and its tun's test has started (R358). -/
structure Steep where
  must : List Nat := []
  direct : Option Nat := none
  swapping : Bool := false
  /-- the tun that the swap in progress takes out -/
  out : Nat := 0
  deriving DecidableEq, Repr

/-- A log ring (R620): entries held, oldest first, of the main part and of the guest part, and the queue of entries
that have not reached the ring (R624). -/
structure Ring where
  main : List LogEntry := []
  guest : List LogEntry := []
  queue : List LogEntry := []
  deriving DecidableEq, Repr

/-- The claim of an active EIC source (R319): claimant and its world. -/
structure Claim where
  core : Nat
  world : World
  deriving DecidableEq, Repr

/-- The DTB servo's state that no register shows (R389, R390). -/
structure Servo where
  /-- a measurement has been taken under the present SRC -/
  measured : Bool := false
  /-- consecutive measurements within LOCK_NS -/
  good : Nat := 0
  /-- the grid of SRC 3 and 4 -/
  grid : Option Dtb := none
  /-- CLK_SOC cycle of the latest measurement under the present SRC, or of the write of SRC (R389) -/
  last : Nat := 0
  /-- the DTB_INC that PLL_A's and PLL_B's fractions follow (R368) -/
  pllA : Nat := 0x140000000
  pllB : Nat := 0x140000000
  /-- DTB_NOWF of the normal and of the secure world (R385) -/
  nowfN : BitVec 32 := 0
  nowfS : BitVec 32 := 0
  deriving DecidableEq, Repr

/-- OTP (R53, R91, R696): never cleared. -/
structure Otp where
  deviceId : Word := 0
  lifecycle : BitVec 4 := 0
  vendorHash : List Byte := []
  deriving DecidableEq, Repr

/-- A maker root-key hash slot of Keeve sector 2 (R94, R97). -/
structure RootSlot where
  hash : List Byte
  revoked : Bool
  deriving DecidableEq, Repr

/-- A retired-tun entry of Keeve sector 6 (R361). -/
structure RetiredRec where
  count : Nat
  rtc : Word
  sig : Nat
  deriving DecidableEq, Repr

/-- A write that Keeve carries out: a software command's or an internal request's (R96, R99). -/
inductive KeeveReq where
  | program (off : Nat) (data : List Byte)
  | erase (sector : Nat)
  | policy (slotB : Word) (timeoutMs : Nat)
  | counter (i : Nat) (v : Nat)
  | revoke (r : Nat)
  | root (r : Nat) (hash : List Byte)
  | retire (tun : Nat) (sig : Nat) (rtc : Word)
  | licence (i : Nat) (rec : List Byte)
  | unlicence (i : Nat)
  | vendor (salt cert : List Byte)
  deriving DecidableEq, Repr

/-- Keeve: its records and data, never cleared by a reset, and the operation in progress with the internal requests
that wait behind it (R94, R99). A record not listed has never been written. -/
structure Keeve where
  policy : Option (Word × Nat) := none
  counters : Map Nat := []
  roots : Map RootSlot := []
  salt : Option (List Byte) := none
  cert : List Byte := []
  retired : Map RetiredRec := []
  lastRetired : Option Nat := none
  licences : Map (List Byte) := []
  data : Map Byte := []
  running : Option KeeveReq := none
  queue : List KeeveReq := []
  /-- system records of which both copies failed (R127): 0 the boot policy, 0x100 + i counter i, 0x200 + r root slot r,
  0x800 + i licence record i -/
  lost : List Nat := []
  deriving DecidableEq, Repr

/-- A message bound to a Copper context (R111): its algorithm and the key slot it uses. The other parameters stand in the
context's registers, which do not change while it is bound. -/
structure CxMsg where
  alg : Nat
  key : Option Nat
  deriving DecidableEq, Repr

/-- A Copper context: its holder and the order in which it was claimed (R115), and its bound message. -/
structure Cx where
  holder : Option Req := none
  since : Nat := 0
  msg : Option CxMsg := none
  deriving DecidableEq, Repr

/-- A loaded firkin slot (R139, R142): the header's licence, product, version, entry. -/
structure FkSlot where
  licenceId : List Byte
  product : Nat
  version : Nat
  entry : Nat
  deriving DecidableEq, Repr

/-- A firkin command that is running (R138, R139, R143): its slot, whether it is a LOAD, and of a LOAD the header as Copper
copied it, the licence record it named and the image's address. -/
structure FkJob where
  slot : Nat
  load : Bool
  hdr : List Byte := []
  licence : Nat := 0
  src : Nat := 0
  deriving DecidableEq, Repr

/-- Copper's state that no register shows. -/
structure Copper where
  /-- secrets of KS0 to KS31 -/
  keys : Map (List Byte) := []
  cx : Map Cx := []
  claims : Nat := 0
  /-- PARK, drawn at boot, and the outstanding park serials (R90, R119) -/
  parkKey : List Byte := []
  serials : List Nat := []
  nextSerial : Nat := 1
  fk : Map FkSlot := []
  fkJob : Option FkJob := none
  /-- RESEALs in progress, by region (R137) -/
  reseals : List Nat := []
  /-- ATTEST and its device key have been erased on entry to RETURNED (R55) -/
  attestErased : Bool := false
  deriving DecidableEq, Repr

/-- TRNG and DRBG (R100 to R104). -/
structure Trng where
  /-- health failures in a row with no passing start-up test between them -/
  row : Nat := 0
  /-- generate requests since the latest reseed -/
  requests : Nat := 0
  reseeds : Nat := 0
  deriving DecidableEq, Repr

/-- Where the device stands between a reset and Stage 1 (R23, R69, R82, R83, R671). -/
inductive BootPhase where
  /-- held in reset: a supply is not valid, RESET_N is low, or the device is in DORMANT -/
  | held
  /-- the scrubs of a warm reset run -/
  | scrub
  /-- the cold reset of a verification failure is held -/
  | retry
  /-- Stage 0 may start -/
  | ready
  /-- Stage 0 waits for the slot over the link (R82) -/
  | link
  /-- Stage 0 has ended -/
  | running
  deriving DecidableEq, Repr

/-- The boot chain's state that no register shows. -/
structure Boot where
  phase : BootPhase := .ready
  /-- VDD_SOC and VDDIO_AON are valid, RESET_N is high, the device is in DORMANT -/
  soc : Bool := true
  aon : Bool := true
  resetN : Bool := true
  dormant : Bool := false
  /-- the sources of the latest reset, which a reset that overtakes it records too (R21) -/
  causes : Nat := 0
  /-- the latest reset was cold; TEST_MODE was high at the latest rise of RESET_N (R666) -/
  cold : Bool := true
  testMode : Bool := false
  /-- SOC_PWR_EN is high; in DORMANT, VDD_SOC has fallen below 0.3 V and a wake is still to be served (R609, R674) -/
  pwrEn : Bool := true
  low : Bool := false
  wakeDue : Bool := false
  /-- the wake's time has come; the settings that entry to DORMANT latched (R609) -/
  wakeReady : Bool := false
  wakeCfg : BitVec 10 := 0
  /-- the always-on domain runs from its internal oscillator (R692) -/
  internalOsc : Bool := false
  /-- levels of the strap balls: BOOTSEL in [1:0], KILN_EN, HCP_SEL, HCP_ADDR in [5:4] (R656) -/
  straps : BitVec 6 := 0
  /-- the reset that has just ended followed a wake from DORMANT (R81) -/
  wake : Bool := false
  /-- what verified in this boot: the root slot (4 the vendor key), VERSION of Stage 1, COUNTER and VERSION of the manifest
  (R73, R97) -/
  root : Nat := 0
  ver1 : Nat := 0
  manifest : Option (Nat × Nat) := none
  /-- the boot load service has been called (R70); its call waits for the link, with the manifest's offset -/
  called : Bool := false
  waiting : Option Nat := none
  /-- offset of the slot's block that the link is to bring next (R551) -/
  need : Option Nat := none
  /-- the result of the signature checks that run: 0 a pass, else the reason of a failure (R78) -/
  sigs : Option Nat := none
  /-- key slots filled by the service in this boot (R71) -/
  filled : List Nat := []
  /-- header digests and image digests of this boot, for the wake record (R80) -/
  digest0 : List Byte := []
  digest1 : List Byte := []
  images : List (List Byte) := []
  /-- bytes of the slot that the link has delivered, by slot offset (R551) -/
  linkBuf : Map Byte := []
  deriving DecidableEq, Repr

/-- DEBUG's state that no register shows (R58 to R63). -/
structure Dbg where
  valid : Bool := false
  /-- a token is being verified -/
  busy : Bool := false
  /-- instruction in the JTAG instruction register, by its place in R63's list -/
  ir : Nat := 1
  deriving DecidableEq, Repr

/-- PCC's state that no register shows (R598 to R615). -/
structure Pcc where
  /-- the mode that a transition in progress goes to -/
  target : Option Nat := none
  /-- latest answers of the normal and of the secure world -/
  ansN : Nat := 0
  ansS : Nat := 0
  /-- trims by target: the shadow that waits, and the one applied (R614) -/
  shadow : Map (BitVec 16) := []
  trim : Map (BitVec 16) := []
  /-- a reading above 110 °C has been logged in this excursion (R613) -/
  limit : Bool := false
  /-- MON's sensors s and channels 8 + v whose extremes hold a reading (R633) -/
  seen : List Nat := []
  deriving DecidableEq, Repr

/-- A request through the PCIe outbound window or a Sundik remote window (R510, R541): who made it, one piece of its range,
a write's bytes, the device it goes to (`none` the PCIe host), its tag, and its answer once there is one. -/
structure RemReq where
  id : Byte
  world : World
  addr : Nat
  len : Nat
  data : Option (List Byte)
  dev : Option Nat
  tag : Nat
  answer : Option (Sum BusErr (List Byte))
  deriving DecidableEq, Repr

/-- The configuration space of the PCIe function as far as the spec names its state (R507, R510). -/
structure PcieCfg where
  busMaster : Bool := false
  perstN : Bool := false
  deriving DecidableEq, Repr

/-- One Sundik port's state that no register shows (R526 to R536). -/
structure SdkPort where
  /-- extended SEQ of the next cell sent and of the next cell expected -/
  next : Nat := 0
  x : Nat := 0
  /-- sent cells that no ACK has passed, by extended SEQ, and cells that wait for credit -/
  replay : Map (List Byte) := []
  waiting : List (List Byte) := []
  /-- credits held per class, credits that the partner holds, and credits to return -/
  credit : Map Nat := []
  peer : Map Nat := []
  owed : Map Nat := []
  /-- ALIGNs and headers counted for LOCK, TS2s in a row, invalid headers in a row per lane -/
  aligns : Nat := 0
  ts2 : Nat := 0
  bad : Map Nat := []
  /-- what the latest TS1 and TS2 named: number offered, boot client, resume -/
  offered : Nat := 15
  client : Bool := false
  resume : Bool := false
  /-- NAKs in a row and the SEQ they named; retrains in a row; a retrain from UP is in progress -/
  naks : Nat := 0
  nakSeq : Nat := 0
  retrains : Nat := 0
  fromUp : Bool := false
  /-- returns to UP since AUTH; the sealed NULL that follows one is still to open -/
  ups : Nat := 0
  nullDue : Bool := false
  /-- waits in DOWN that are running (R526) -/
  down : Bool := false
  /-- held DOWN for its number (R518); SDK_PDELAY holds a sample (R546) -/
  held : Bool := false
  sampled : Bool := false
  /-- AUTH: own nonce and ephemeral private key, bytes still to send, bytes received, own message sent whole -/
  nonce : List Byte := []
  eph : List Byte := []
  out : List Byte := []
  sig : Bool := false
  got : List Byte := []
  /-- session keys of the two directions; this side has the lower DEVICE_ID -/
  txKey : List Byte := []
  rxKey : List Byte := []
  lower : Bool := false
  deriving DecidableEq, Repr

/-- A stream's run, beside its registers (R400 to R418). Instants are in DTB units. -/
structure Stream where
  /-- capture instants of blocks in flight -/
  cap : Map Nat := []
  /-- next block to get an input descriptor; blocks of the run once it stops -/
  nextIn : Nat := 0
  total : Option Nat := none
  /-- blocks captured and not yet submitted; whether the wait of the first has been logged (R401) -/
  captured : List Nat := []
  waitLogged : Bool := false
  /-- submitted blocks by gyle, and records taken from the rack mover, in gyle order -/
  submitted : List (Nat × Nat) := []
  racked : List (Nat × Bool) := []
  /-- blocks whose push is posted, blocks pushed, and the latest block pushed from its slot -/
  nextOut : Nat := 0
  pushed : Nat := 0
  lastGood : Option Nat := none
  /-- next block to play, and the entries of the block being played that are still to pop -/
  play : Nat := 0
  data : Nat := 0
  /-- entries played of this block, the entries of the latest block played whole, and how many of these the present fill has
  repeated (R403, R471) -/
  cur : List Word := []
  last : List Word := []
  fill : Nat := 0
  /-- a stop by OVER or BACKLOG is due (R416, R417) -/
  stopping : Bool := false
  /-- E_n of the run that ended, for its grid (R409), and that run's BPER and RESERVE -/
  stopAt : Option Nat := none
  bper : Nat := 0
  reserve : Nat := 0
  /-- STR_CFG, STR_FMT and STR_EPS as the latest run latched them, with which its sink plays (R404, R410) -/
  latched : Option (Word × Word × Word) := none
  /-- STREAM_QUEUE_BUSY and STREAM_LIVE_WRITE logged in this run -/
  busyLogged : Bool := false
  liveLogged : Bool := false
  deriving DecidableEq, Repr

/-- A pending scene (R407): its streams, instants, and the streams that have still to restart or stop. -/
structure Scene where
  mask : List Nat
  t1 : Nat
  t2 : Nat
  left : List Nat
  deriving DecidableEq, Repr

/-- One serial audio port: the configuration and masks that its frames run with, and whether it stops at the end of the
frame in progress (R447, R448). -/
structure Sap where
  cfg : Word := 0
  rx : Word := 0
  tx : Word := 0
  ending : Bool := false
  deriving DecidableEq, Repr

/-- One AES3 receiver (R431, R432, R450 to R452): frames with valid preambles in a row, bad preambles in a row, frames of
the block so far and its channel-status bits, the previous good samples, the frame rate at lock, FLY frames still due;
it stops at the end of the frame; a lock loss has been logged since LOCK_CHG was set. -/
structure AesRx where
  good : Nat := 0
  bad : Nat := 0
  pos : Nat := 0
  csA : BitVec 192 := 0
  csB : BitVec 192 := 0
  prevA : BitVec 24 := 0
  prevB : BitVec 24 := 0
  rate : Nat := 0
  fly : Nat := 0
  ending : Bool := false
  lost : Bool := false
  deriving DecidableEq, Repr

/-- One AES3 transmitter (R434, R435): its configuration, the frame of the block, the active channel-status buffers. -/
structure AesTx where
  cfg : Word := 0
  n : Nat := 0
  csA : List Byte := []
  csB : List Byte := []
  ending : Bool := false
  deriving DecidableEq, Repr

/-- MADI (R437 to R439, R450, R451): the configurations that the receiver and the transmitter run with. -/
structure Madi where
  rx : Word := 0
  tx : Word := 0
  rxOn : Bool := false
  txOn : Bool := false
  rxEnding : Bool := false
  txEnding : Bool := false
  prev : Map (BitVec 24) := []
  fly : Nat := 0
  lost : Bool := false
  deriving DecidableEq, Repr

/-- PDM (R440 to R443, R454): its configuration, zero samples still due, and the channels that are stuck. -/
structure Pdm where
  cfg : Word := 0
  zero : Nat := 0
  stuck : List Nat := []
  ending : Bool := false
  deriving DecidableEq, Repr

/-- One SDI receiver (R459 to R465, R481, R482): the next active line of the frame, where one is in progress; the raster
and sampling detected; the rest of the frame is frozen; lines of the band so far with their stamp; FLY frames and
freeze lines still due; previous good audio samples. -/
structure SdiRx where
  y : Option Nat := none
  code : Nat := 0
  samp : Nat := 0
  freeze : Bool := false
  rows : List (List Word) := []
  stamp : Word := 0
  fly : Nat := 0
  owed : Nat := 0
  prev : Map (BitVec 24) := []
  lost : Bool := false
  deriving DecidableEq, Repr

/-- One SDI transmitter: its next active line (R470), and its LOOP source is lost (R480). -/
structure SdiTx where
  y : Nat := 0
  loopLost : Bool := false
  deriving DecidableEq, Repr

/-- One pixel stage (R467 to R469): the active configuration, coefficients and LUTs, and the shadow LUTs. A LUT entry's
key is table · 65,536 + index. -/
structure Pix where
  cfg : Word := 0
  mat : List Word := []
  lut : Map Nat := []
  shadow : Map Nat := []
  deriving DecidableEq, Repr

/-- A built RTP packet that waits for its launch: the frame without FCS and the reference time it is due (R497, R498). -/
structure RtpOut where
  bytes : List Byte
  due : Int
  deriving DecidableEq, Repr

/-- A packet in a receive flow's reorder window (R499): sequence number, RTP timestamp, payload, arrival (DTB ns). -/
structure RtpIn where
  seq : Nat
  ts : Int
  data : List Byte
  at' : Nat
  deriving DecidableEq, Repr

/-- A flow's progress: transmit, the samples gathered so far with their stamps, the line of the video frame, the packet of
the frame, the stamp of the frame's first line; receive, the reorder window, the next sequence number, the samples of
the latest packet and the timestamp expected next. -/
structure Flow where
  got : List (Word × Word) := []
  line : Nat := 0
  pkt : Nat := 0
  first : Word := 0
  built : List RtpOut := []
  window : List RtpIn := []
  next : Option Nat := none
  len : Nat := 0
  ts : Nat := 0
  deriving DecidableEq, Repr

/-- One Ethernet MAC (R492 to R495): credit in bits of each TXQ with the DTB count at its latest change; DTB count until
which a PAUSE holds the transmitter; the running gate cycle's entry and start; RTP frames launched into each TXQ;
flows, transmit at f and receive at 4 + f. -/
structure Eth where
  credit : Map Int := []
  at' : Map Nat := []
  pause : Nat := 0
  entry : Option Nat := none
  cycle : Int := 0
  ready : Map (List (List Byte)) := []
  flows : Map Flow := []
  deriving DecidableEq, Repr

/-- USB (R501 to R505, R683): levels of USB_ID (host selected) and of VBUS; the DTB count of the latest SOF; of each OUT
endpoint the intervals and the DTB span of the feedback window; OUT endpoints whose packet this interval has come. -/
structure Usb where
  idHost : Bool := false
  vbus : Bool := false
  sof : Option Nat := none
  count : Map Nat := []
  start : Map Nat := []
  got : List Nat := []
  deriving DecidableEq, Repr

/-- How far a tap has come with the instruction at its PC (R571). -/
inductive TapProg where
  | start
  /-- steps of a shift still to do -/
  | shift (left : Nat)
  | wait
  /-- the DELAY runs; the next address -/
  | delay (next : Nat)
  deriving DecidableEq, Repr

/-- One tap (R562 to R574): its progress; the input FIFO, oldest first, with the instants of the words; the output FIFO;
levels and output enables it has set, by pin; the instant of the first bit in ISR; the word at PC was rewritten while
it was halted. -/
structure Tap where
  prog : TapProg := .start
  ififo : List (Word × Word) := []
  ofifo : List Word := []
  level : BitVec 48 := 0
  oe : BitVec 48 := 0
  first : Word := 0
  rewritten : Bool := false
  deriving DecidableEq, Repr

/-- A running HCP command (R580): its code, SEQ in a session, when it began (DTB ns), its status and response body as far
as they are known, and what its end still waits for: 0 nothing, 1 Keeve, to issue, 2 Keeve, to end, 3 a directed test of
processor `n`, 4 a remote access; the Copper context it uses; the part of its request that its end needs. -/
structure HcpRun where
  cmd : Nat
  seq : Option (BitVec 32)
  start : Nat
  status : Byte
  body : List Byte
  waits : Nat
  n : Nat := 0
  cx : Option Nat := none
  arg : List Byte := []
  deriving DecidableEq, Repr

/-- HCP: the running command and the held response (R593); the session's challenge, ephemeral key and keys (R582 to
R584), SEQ accepted last, root slot, world, and its latest use in DTB ns; a reset that follows the response (R586); a
frame whose sync was skipped. -/
structure Hcp where
  run : Option HcpRun := none
  held : Option (List Byte) := none
  challenge : Option (List Byte) := none
  eph : List Byte := []
  ephPub : List Byte := []
  reqKey : List Byte := []
  rspKey : List Byte := []
  seq : Nat := 0
  root : Nat := 0
  used : Nat := 0
  reset : Option Bool := none
  resetRead : Bool := false
  maker : Bool := false
  deriving DecidableEq, Repr

/-- The ports', taps', GPIO's and HCP's state that no register shows. Cleared by every reset. `outq` holds the entries
that wait in a port to be pushed, with their stamps, and `held` those that a port has popped ahead of use, by endpoint
code. -/
structure Io where
  sap : Map Sap := []
  aesRx : Map AesRx := []
  aesTx : Map AesTx := []
  madi : Madi := {}
  pdm : Pdm := {}
  sdiRx : Map SdiRx := []
  sdiTx : Map SdiTx := []
  pix : Map Pix := []
  vref : List Nat := []
  eth : Map Eth := []
  usb : Usb := {}
  taps : Map Tap := []
  hcp : Hcp := {}
  outq : Map (List (Word × Option Word)) := []
  held : Map (List (Option Word)) := []
  deriving DecidableEq, Repr

/-- The block. -/
structure State where
  variant : Variant
  /-- commands that are waiting, first in, first out -/
  pending : List Instr
  /-- index of the next free value (log entry 3) -/
  freeIx : Nat := 0
  /-- the registers of the unit windows, by physical address; a register not listed holds its reset value -/
  regs : Map Word := []
  /-- addressed memory, in canonical form; what an unlisted address reads as is `memDefault` -/
  mem : List Host.Cell := []
  /-- installed LPDDR in bytes (R19) -/
  lpddr : Nat := 0x200000000
  /-- the DTB count (R382) -/
  dtb : Dtb := 0
  /-- CLK_SOC cycles counted by steps on an empty queue -/
  ticks : Nat := 0
  servo : Servo := {}
  /-- cores by processor number -/
  cores : Map Core := []
  /-- log rings 0 normal, 1 secure, 2 always-on -/
  ring0 : Ring := {}
  ring1 : Ring := {}
  ring2 : Ring := {}
  claims : Map Claim := []
  bungs : Map BungState := []
  grants : Map Grant := []
  sparge : Map (List SpEntry) := []
  /-- journal entries that are not FREE, by journal index; doorbell counts not yet served, by queue -/
  journal : Map JEntry := []
  doors : Map (List Nat) := []
  /-- by queue, gyles whose record is written and that SAFE has not passed, each with the address it still flushes (R355, R511) -/
  safeWait : Map (List (Nat × Option Nat)) := []
  steep : Steep := {}
  /-- granules whose corrected data has not been written back (R281) -/
  eccPend : List Nat := []
  /-- tuns whose RETIRED_UNIT access has been logged since reset (R32) -/
  retiredSeen : List Nat := []
  otp : Otp := {}
  /-- what each output of the device sent last, by wire number (log entry 9) -/
  wire : Map (List Word) := []
  keeve : Keeve := {}
  copper : Copper := {}
  trng : Trng := {}
  /-- the attestation key and seed of OTP have been written (R54) -/
  dukWritten : Bool := false
  /-- what the latest register read made by a command of its own returned to its requester -/
  lastRead : Word := 0
  boot : Boot := {}
  dbg : Dbg := {}
  pcc : Pcc := {}
  /-- requests through the outbound and remote windows, and the next tag -/
  remote : List RemReq := []
  nextTag : Nat := 0
  pcie : PcieCfg := {}
  sdk : Map SdkPort := []
  /-- TIME_MARKs sent as device 0, 16 bits (R547) -/
  sdkMarks : Nat := 0
  /-- runs of streams, and the scenes of the secure (0) and the normal (1) block -/
  streams : Map Stream := []
  scenes : Map Scene := []
  io : Io := {}
  /-- session proofs refused since cold reset (R583) -/
  hcpRefused : Nat := 0
  /-- levels of the tap pins' balls (R556) -/
  balls : BitVec 48 := 0
  deriving DecidableEq, Repr

/-- Why the machine stops with a fault. No command of this block does: a refused access, a rejected command and an
exception of a core are all effects on the state. -/
inductive Fault where
  /-- raised by nothing; it stands here because the interface asks for a type of faults (safe) -/
  | never
  deriving DecidableEq, Repr

/-- Why a command has no meaning. -/
inductive Refusal where
  /-- raised by an arm of `exec` whose command is not modelled yet (safe) -/
  | notModelled (mnemonic : String)
  deriving DecidableEq, Repr

/-- The device right after the cold reset of its first power-on, VDD_SOC and VDDIO_AON together: no register written, no
memory written, DTB at zero, every core held in reset, BOOT_PHASE 0, before STAGE0_START; the entry RESET that names both
sources (R21, R621) is on its way to the secure ring, its copy to the always-on ring (R622). The variant is the ZM-8640 (log entry 2). -/
def State.reset : State :=
  { variant := .zm8640, pending := [], ring1 := { queue := [⟨0, 0, 5, 0xFE, 1, 0, 3⟩] }, ring2 := { queue := [⟨0, 0, 5, 0xFE, 5, 0, 3⟩] } }

end Sys2Proof.Machine
end

