-- ==== Sys2Proof/Machine/Codes.lean ====
section
/-! DEFINITION. The log codes (R619): CODE is (k << 8) + i for unit window k and the code's place i in the unit's list. -/
namespace Sys2Proof.Machine

abbrev Code.ABSENT_UNIT : Nat := 0x0001
abbrev Code.UNMAPPED_ADDR : Nat := 0x0002
abbrev Code.RETIRED_UNIT : Nat := 0x0003
abbrev Code.RESET_REFUSED : Nat := 0x0004
abbrev Code.RESET : Nat := 0x0005
abbrev Code.KILN_ONLY : Nat := 0x0006
abbrev Code.WEDGE : Nat := 0x0101
abbrev Code.PCC_DEFERRED : Nat := 0x0102
abbrev Code.PCC_KEEP : Nat := 0x0103
abbrev Code.THERMAL_THROTTLE : Nat := 0x0104
abbrev Code.THERMAL_LIMIT : Nat := 0x0105
abbrev Code.MODE_CHANGE : Nat := 0x0106
abbrev Code.SEALED_WRITE : Nat := 0x0201
abbrev Code.WORLD_DENIED : Nat := 0x0202
abbrev Code.REGION_DENIED : Nat := 0x0203
abbrev Code.FIRKIN_ACCESS : Nat := 0x0204
abbrev Code.PART_ENTRY_BAD : Nat := 0x0205
abbrev Code.LIFECYCLE_INVALID : Nat := 0x0206
abbrev Code.EIC_STRAY : Nat := 0x0301
abbrev Code.BUNG_BAD_RELEASE : Nat := 0x0401
abbrev Code.BUNG_BROKEN : Nat := 0x0402
abbrev Code.BUNG_FORCED : Nat := 0x0403
abbrev Code.LOG_CLEARED : Nat := 0x0501
abbrev Code.COPPER_POLICY : Nat := 0x0601
abbrev Code.COPPER_NOT_HOLDER : Nat := 0x0602
abbrev Code.LIC_REJECT : Nat := 0x0603
abbrev Code.LIC_RECORD_BAD : Nat := 0x0604
abbrev Code.SEAL_FAULT : Nat := 0x0605
abbrev Code.SEAL_NOKEY : Nat := 0x0606
abbrev Code.UNSEALED_FETCH : Nat := 0x0607
abbrev Code.FK_CMD_DENIED : Nat := 0x0608
abbrev Code.FK_REJECT : Nat := 0x0609
abbrev Code.FIRKIN_EXCEPTION : Nat := 0x060a
abbrev Code.SEAL_EPOCH_END : Nat := 0x060b
abbrev Code.KEEVE_DIRECT : Nat := 0x0701
abbrev Code.KEEVE_ECC_FIXED : Nat := 0x0702
abbrev Code.KEEVE_ECC_FATAL : Nat := 0x0703
abbrev Code.KEEVE_ECC_DATA : Nat := 0x0704
abbrev Code.KEEVE_REFUSED : Nat := 0x0705
abbrev Code.VERSION_HOLD : Nat := 0x0706
abbrev Code.TRNG_HEALTH : Nat := 0x0801
abbrev Code.TRNG_DEAD : Nat := 0x0802
abbrev Code.DTB_STEP : Nat := 0x0901
abbrev Code.DTB_STATE : Nat := 0x0902
abbrev Code.JOURNAL_FULL : Nat := 0x0a01
abbrev Code.STAGING_BAD : Nat := 0x0a02
abbrev Code.ORDER_DESC_BAD : Nat := 0x0a03
abbrev Code.ORDER_RERUN : Nat := 0x0a04
abbrev Code.ORDER_FAILED : Nat := 0x0a05
abbrev Code.RACK_DENIED : Nat := 0x0a06
abbrev Code.JOURNAL_ECC : Nat := 0x0a07
abbrev Code.ORDER_REPLAY : Nat := 0x0a08
abbrev Code.RACK_WRITE_REFUSED : Nat := 0x0a09
abbrev Code.STREAM_START_BAD : Nat := 0x0a0a
abbrev Code.STREAM_SUBMIT_WAIT : Nat := 0x0a0b
abbrev Code.STREAM_BLOCK_FAILED : Nat := 0x0a0c
abbrev Code.SLIP : Nat := 0x0a0d
abbrev Code.STREAM_OVERSLIP : Nat := 0x0a0e
abbrev Code.STREAM_BACKLOG : Nat := 0x0a0f
abbrev Code.STREAM_LIVE_WRITE : Nat := 0x0a10
abbrev Code.STREAM_QUEUE_BUSY : Nat := 0x0a11
abbrev Code.GRANT_CFG_BAD : Nat := 0x0b01
abbrev Code.GRANT_OVERRUN : Nat := 0x0b02
abbrev Code.GRANT_UNDERRUN : Nat := 0x0b03
abbrev Code.NONLOCAL_ACCESS : Nat := 0x0c01
abbrev Code.SPARGE_DESC_BAD : Nat := 0x0c02
abbrev Code.ECC_UNCORRECTED : Nat := 0x0c03
abbrev Code.TAP_CFG_BAD : Nat := 0x0d01
abbrev Code.TAP_PMEM_BUSY : Nat := 0x0d02
abbrev Code.TAP_FAULT : Nat := 0x0d03
abbrev Code.TAP_PIN_DENIED : Nat := 0x1101
abbrev Code.SAP_MCLK_LOST : Nat := 0x1201
abbrev Code.SAP_CFG_BAD : Nat := 0x1202
abbrev Code.SAP_FRAME : Nat := 0x1203
abbrev Code.SAP_CLOCK_LOST : Nat := 0x1204
abbrev Code.AES3_BIPHASE : Nat := 0x1301
abbrev Code.AES3_PARITY : Nat := 0x1302
abbrev Code.AES3_PREAMBLE : Nat := 0x1303
abbrev Code.AES3_LOCK_LOST : Nat := 0x1304
abbrev Code.AES3_RATE_CHANGE : Nat := 0x1305
abbrev Code.AES3_CS_CRC : Nat := 0x1306
abbrev Code.MADI_LOCK_LOST : Nat := 0x1401
abbrev Code.MADI_FORMAT : Nat := 0x1402
abbrev Code.MADI_CODE : Nat := 0x1403
abbrev Code.MADI_PARITY : Nat := 0x1404
abbrev Code.PDM_STUCK : Nat := 0x1501
abbrev Code.SDI_CRC : Nat := 0x1601
abbrev Code.SDI_EDH : Nat := 0x1602
abbrev Code.SDI_TRS : Nat := 0x1603
abbrev Code.SDI_LENGTH : Nat := 0x1604
abbrev Code.SDI_VPID : Nat := 0x1605
abbrev Code.SDI_FORMAT : Nat := 0x1606
abbrev Code.SDI_ANC_CS : Nat := 0x1607
abbrev Code.SDI_AUDIO : Nat := 0x1608
abbrev Code.SDI_LOCK_LOST : Nat := 0x1609
abbrev Code.SDI_CFG_BAD : Nat := 0x160a
abbrev Code.VREF_LOST : Nat := 0x160b
abbrev Code.SDI_GENLOCK : Nat := 0x160c
abbrev Code.ETH_CFG_BAD : Nat := 0x1701
abbrev Code.ETH_LINK : Nat := 0x1702
abbrev Code.ETH_RX_ERROR : Nat := 0x1703
abbrev Code.ETH_RX_DROP : Nat := 0x1704
abbrev Code.ETH_GATE_OVERSIZE : Nat := 0x1705
abbrev Code.RTP_SEQ : Nat := 0x1706
abbrev Code.RTP_LATE : Nat := 0x1707
abbrev Code.RTP_FORMAT : Nat := 0x1708
abbrev Code.USB_ISO_MISSED : Nat := 0x1901
abbrev Code.USB_CRC : Nat := 0x1902
abbrev Code.PCIE_MALFORMED : Nat := 0x1a01
abbrev Code.PCIE_POISONED : Nat := 0x1a02
abbrev Code.PCIE_UR : Nat := 0x1a03
abbrev Code.PCIE_CA : Nat := 0x1a04
abbrev Code.PCIE_OUT_REFUSED : Nat := 0x1a05
abbrev Code.PCIE_MSIX_SRC : Nat := 0x1a06
abbrev Code.SDK_CRC : Nat := 0x1b01
abbrev Code.SDK_SEQ : Nat := 0x1b02
abbrev Code.SDK_CREDIT : Nat := 0x1b03
abbrev Code.SDK_TYPE : Nat := 0x1b04
abbrev Code.SDK_SEAL : Nat := 0x1b05
abbrev Code.SDK_AUTH_FAIL : Nat := 0x1b06
abbrev Code.SDK_NUMBER : Nat := 0x1b07
abbrev Code.SDK_ROUTE : Nat := 0x1b08
abbrev Code.SDK_TIMEOUT : Nat := 0x1b09
abbrev Code.SDK_STREAM_STRAY : Nat := 0x1b0a
abbrev Code.SDK_LINK : Nat := 0x1b0b
abbrev Code.HCP_CRC : Nat := 0x1e01
abbrev Code.HCP_FRAME : Nat := 0x1e02
abbrev Code.HCP_AUTH_FAIL : Nat := 0x1e03
abbrev Code.HCP_SESSION : Nat := 0x1e04
abbrev Code.WDT_FIRST : Nat := 0x1f01
abbrev Code.WDT_FINAL : Nat := 0x1f02
abbrev Code.WDT_BADKICK : Nat := 0x1f03
abbrev Code.MON_TEMP_ALARM : Nat := 0x2001
abbrev Code.MON_VOLT_ALARM : Nat := 0x2002
abbrev Code.MON_SENSOR_FAIL : Nat := 0x2003
abbrev Code.DEBUG_AUTH_FAIL : Nat := 0x2101
abbrev Code.JTAG_REFUSED : Nat := 0x2102
abbrev Code.TUN_RETIRED : Nat := 0x2201
abbrev Code.BOOT_FAIL : Nat := 0x2301
abbrev Code.BOOTSEL_INVALID : Nat := 0x2302
abbrev Code.LOAD_REPEAT : Nat := 0x2303
abbrev Code.WAKE_RECORD_STALE : Nat := 0x2304

/-- The codes marked A in R619, which are also written to the always-on ring (R622). -/
def alwaysCodes : List Nat :=
  [Code.RESET, Code.WEDGE, Code.THERMAL_LIMIT, Code.LIFECYCLE_INVALID, Code.KEEVE_ECC_FATAL, Code.TRNG_DEAD, Code.WDT_FINAL, Code.MON_SENSOR_FAIL, Code.TUN_RETIRED]

end Sys2Proof.Machine
end

