-- ==== Sys2Proof/Machine/Regs.lean ====
section
/-! DEFINITION. The register map: the physical address of every register the spec names, and for each
unit window the table of its registers: offset, instances, width, field masks by access code (R1) and
reset value with what warm reset does to it (R9). Written from the register tables of spec/. -/
namespace Sys2Proof.Machine

/-! Physical addresses of the registers, by the spec's own names (unit window `k` lies at
`0x40000000 + k * 0x10000`, R17). -/

abbrev R.SYSCON_ID : Nat := 0x40000000
abbrev R.SYSCON_CAPS0 : Nat := 0x40000004
abbrev R.SYSCON_CAPS1 : Nat := 0x40000008
abbrev R.SYSCON_SELF : Nat := 0x4000000c
abbrev R.SYSCON_RESET_CAUSE : Nat := 0x40000010
abbrev R.SYSCON_RESET_REQ : Nat := 0x40000014
abbrev R.SYSCON_PROMISE : Nat := 0x40000018
abbrev R.SYSCON_ABSENT_SEEN : Nat := 0x40000020
abbrev R.SYSCON_ABSENT_HITS : Nat := 0x40000028
abbrev R.SYSCON_CC1_VECTOR : Nat := 0x40000030
abbrev R.SYSCON_CC_RELEASE : Nat := 0x40000038
abbrev R.SYSCON_TUN_VECTOR : Nat := 0x40000040
abbrev R.SYSCON_TUN_RELEASE : Nat := 0x40000048
abbrev R.SYSCON_GBASE_0_0 (n : Nat) : Nat := 0x40001000 + 0x10 * n
abbrev R.SYSCON_GLIMIT_0_0 (n : Nat) : Nat := 0x40001008 + 0x10 * n
abbrev R.SYSCON_GBASE_0_1 (n : Nat) : Nat := 0x40001200 + 0x10 * n
abbrev R.SYSCON_GLIMIT_0_1 (n : Nat) : Nat := 0x40001208 + 0x10 * n
abbrev R.SYSCON_GBASE_0_2 (n : Nat) : Nat := 0x40001400 + 0x10 * n
abbrev R.SYSCON_GLIMIT_0_2 (n : Nat) : Nat := 0x40001408 + 0x10 * n
abbrev R.SYSCON_GBASE_0_3 (n : Nat) : Nat := 0x40001600 + 0x10 * n
abbrev R.SYSCON_GLIMIT_0_3 (n : Nat) : Nat := 0x40001608 + 0x10 * n
abbrev R.SYSCON_GBASE_1_0 (n : Nat) : Nat := 0x40001800 + 0x10 * n
abbrev R.SYSCON_GLIMIT_1_0 (n : Nat) : Nat := 0x40001808 + 0x10 * n
abbrev R.SYSCON_GBASE_1_1 (n : Nat) : Nat := 0x40001a00 + 0x10 * n
abbrev R.SYSCON_GLIMIT_1_1 (n : Nat) : Nat := 0x40001a08 + 0x10 * n
abbrev R.SYSCON_GBASE_1_2 (n : Nat) : Nat := 0x40001c00 + 0x10 * n
abbrev R.SYSCON_GLIMIT_1_2 (n : Nat) : Nat := 0x40001c08 + 0x10 * n
abbrev R.SYSCON_GBASE_1_3 (n : Nat) : Nat := 0x40001e00 + 0x10 * n
abbrev R.SYSCON_GLIMIT_1_3 (n : Nat) : Nat := 0x40001e08 + 0x10 * n
abbrev R.SYSCON_PADV : Nat := 0x40002000
abbrev R.SYSCON_PADDS : Nat := 0x40002004
abbrev R.SYSCON_PADSLEW : Nat := 0x40002008
abbrev R.PCC_MODE : Nat := 0x40010000
abbrev R.PCC_ANSWER : Nat := 0x40010004
abbrev R.PCC_STAT : Nat := 0x40010008
abbrev R.PCC_REQ : Nat := 0x40010010
abbrev R.PCC_GATED : Nat := 0x40010018
abbrev R.PCC_PWROFF : Nat := 0x40010020
abbrev R.PCC_DEFER : Nat := 0x40010028
abbrev R.PCC_DEFACT : Nat := 0x40010030
abbrev R.PCC_DEFRESP : Nat := 0x40010038
abbrev R.PCC_KEEP : Nat := 0x40010040
abbrev R.PCC_KEEPSTAT : Nat := 0x40010044
abbrev R.PCC_CONSENT : Nat := 0x40010048
abbrev R.PCC_TRIMSEL : Nat := 0x40010050
abbrev R.PCC_TRIMVAL : Nat := 0x40010054
abbrev R.PCC_TRIMCTL : Nat := 0x40010058
abbrev R.PCC_WEDGE : Nat := 0x40010060
abbrev R.PCC_WEDGECNT : Nat := 0x40010064
abbrev R.PART_PHASE : Nat := 0x40020000
abbrev R.PART_SEAL : Nat := 0x40020004
abbrev R.PART_LIFECYCLE : Nat := 0x40020008
abbrev R.PART_UNIT_OWN : Nat := 0x40020010
abbrev R.PART_OQ_OWN : Nat := 0x40020018
abbrev R.PART_GT_OWN : Nat := 0x40020020
abbrev R.PART_BUNG_OWN : Nat := 0x40020028
abbrev R.PART_SPG_OWN : Nat := 0x40020030
abbrev R.PART_TUN_SECURE : Nat := 0x40020034
abbrev R.PART_ESC_PC : Nat := 0x40020040
abbrev R.PART_ESC_SP : Nat := 0x40020048
abbrev R.PART_ESC_SPT : Nat := 0x40020050
abbrev R.PART_RGN_BASE (n : Nat) : Nat := 0x40020200 + 0x20 * n
abbrev R.PART_RGN_LIMIT (n : Nat) : Nat := 0x40020208 + 0x20 * n
abbrev R.PART_RGN_ATTR (n : Nat) : Nat := 0x40020210 + 0x20 * n
abbrev R.PART_FK_TUN (n : Nat) : Nat := 0x40020600 + 0x4 * n
abbrev R.EIC_CFG (n : Nat) : Nat := 0x40030000 + 0x4 * n
abbrev R.EIC_PEND (n : Nat) : Nat := 0x40030400 + 0x4 * n
abbrev R.EIC_CLR (n : Nat) : Nat := 0x40030420 + 0x4 * n
abbrev R.EIC_ACTIVE (n : Nat) : Nat := 0x40030440 + 0x4 * n
abbrev R.EIC_CLAIM (n : Nat) : Nat := 0x40030600 + 0x10 * n
abbrev R.EIC_FCLAIM (n : Nat) : Nat := 0x40030604 + 0x10 * n
abbrev R.EIC_DONE (n : Nat) : Nat := 0x40030608 + 0x10 * n
abbrev R.EIC_STRAY : Nat := 0x40030700
abbrev R.EIC_STRAY_LAST : Nat := 0x40030704
abbrev R.BUNG (n : Nat) : Nat := 0x40040000 + 0x8 * n
abbrev R.BUNG_STATE (n : Nat) : Nat := 0x40040004 + 0x8 * n
abbrev R.BUNG_BREAK : Nat := 0x40040400
abbrev R.LOG_WSEQ0 : Nat := 0x40050100
abbrev R.LOG_RSEQ0 : Nat := 0x40050108
abbrev R.LOG_LOST0 : Nat := 0x40050110
abbrev R.LOG_GUESTLOST0 : Nat := 0x40050114
abbrev R.LOG_THRESH0 : Nat := 0x40050118
abbrev R.LOG_CTRL0 : Nat := 0x4005011c
abbrev R.LOG_RDATA0 (n : Nat) : Nat := 0x40050120 + 0x8 * n
abbrev R.LOG_WSEQ1 : Nat := 0x40050140
abbrev R.LOG_RSEQ1 : Nat := 0x40050148
abbrev R.LOG_LOST1 : Nat := 0x40050150
abbrev R.LOG_GUESTLOST1 : Nat := 0x40050154
abbrev R.LOG_THRESH1 : Nat := 0x40050158
abbrev R.LOG_CTRL1 : Nat := 0x4005015c
abbrev R.LOG_RDATA1 (n : Nat) : Nat := 0x40050160 + 0x8 * n
abbrev R.LOG_WSEQ2 : Nat := 0x40050180
abbrev R.LOG_RSEQ2 : Nat := 0x40050188
abbrev R.LOG_LOST2 : Nat := 0x40050190
abbrev R.LOG_GUESTLOST2 : Nat := 0x40050194
abbrev R.LOG_THRESH2 : Nat := 0x40050198
abbrev R.LOG_CTRL2 : Nat := 0x4005019c
abbrev R.LOG_RDATA2 (n : Nat) : Nat := 0x400501a0 + 0x8 * n
abbrev R.COPPER_STATUS : Nat := 0x40060000
abbrev R.COPPER_CLAIM : Nat := 0x40060004
abbrev R.COPPER_KS_SECURE : Nat := 0x40060008
abbrev R.COPPER_CX_RESERVE : Nat := 0x4006000c
abbrev R.COPPER_KS_CMD : Nat := 0x40060010
abbrev R.COPPER_KS_RESULT : Nat := 0x40060018
abbrev R.COPPER_KS_DATA (n : Nat) : Nat := 0x40060040 + 0x8 * n
abbrev R.COPPER_KS_POLICY (n : Nat) : Nat := 0x40060100 + 0x4 * n
abbrev R.COPPER_HOLDER (n : Nat) : Nat := 0x40060200 + 0x4 * n
abbrev R.COPPER_MEAS (n : Nat) : Nat := 0x40060400 + 0x8 * n
abbrev R.CX_CTRL (n : Nat) : Nat := 0x40061000 + 0x100 * n
abbrev R.CX_STATUS (n : Nat) : Nat := 0x40061004 + 0x100 * n
abbrev R.CX_RESULT (n : Nat) : Nat := 0x40061008 + 0x100 * n
abbrev R.CX_OP (n : Nat) : Nat := 0x4006100c + 0x100 * n
abbrev R.CX_SRC (n : Nat) : Nat := 0x40061010 + 0x100 * n
abbrev R.CX_DST (n : Nat) : Nat := 0x40061018 + 0x100 * n
abbrev R.CX_LEN (n : Nat) : Nat := 0x40061020 + 0x100 * n
abbrev R.CX_AUX (n : Nat) : Nat := 0x40061028 + 0x100 * n
abbrev R.CX_DONE (n : Nat) : Nat := 0x40061030 + 0x100 * n
abbrev R.CX_PARK (n : Nat) : Nat := 0x40061038 + 0x100 * n
abbrev R.COPPER_SEAL_EPOCH (n : Nat) : Nat := 0x40062000 + 0x4 * n
abbrev R.COPPER_SEAL_REVOKED : Nat := 0x40062080
abbrev R.COPPER_SEAL_FAULTS : Nat := 0x40062084
abbrev R.COPPER_SEAL_FADDR : Nat := 0x40062088
abbrev R.COPPER_SEAL_CMD : Nat := 0x40062090
abbrev R.COPPER_SEAL_TAG (n : Nat) : Nat := 0x40062100 + 0x8 * n
abbrev R.COPPER_FK_CMD : Nat := 0x40063000
abbrev R.COPPER_FK_RESULT : Nat := 0x40063004
abbrev R.COPPER_FK_SRC : Nat := 0x40063008
abbrev R.COPPER_FK_STATE : Nat := 0x40063010
abbrev R.KEEVE_STATUS : Nat := 0x40070000
abbrev R.KEEVE_CMD : Nat := 0x40070004
abbrev R.KEEVE_ADDR : Nat := 0x40070008
abbrev R.KEEVE_LEN : Nat := 0x4007000c
abbrev R.KEEVE_ECC_COUNT : Nat := 0x40070010
abbrev R.KEEVE_BUF (n : Nat) : Nat := 0x40070100 + 0x8 * n
abbrev R.TRNG_STATUS : Nat := 0x40080000
abbrev R.TRNG_OUT : Nat := 0x40080008
abbrev R.TRNG_FAILS : Nat := 0x40080010
abbrev R.DTB_CTRL : Nat := 0x40090000
abbrev R.DTB_STATE : Nat := 0x40090004
abbrev R.DTB_NOW : Nat := 0x40090008
abbrev R.DTB_NOWF : Nat := 0x40090010
abbrev R.DTB_INC : Nat := 0x40090018
abbrev R.DTB_FREQ : Nat := 0x40090020
abbrev R.DTB_EPOCH : Nat := 0x40090028
abbrev R.DTB_EPOCHF : Nat := 0x40090030
abbrev R.DTB_MEAS : Nat := 0x40090038
abbrev R.DTB_SERVO : Nat := 0x40090040
abbrev R.DTB_STEP_US : Nat := 0x40090044
abbrev R.DTB_HOLD_MS : Nat := 0x40090048
abbrev R.DTB_REFPER : Nat := 0x40090050
abbrev R.DTB_ERR : Nat := 0x40090058
abbrev R.DTB_ALARM : Nat := 0x40090060
abbrev R.DTB_ALARMCTL : Nat := 0x40090068
abbrev R.DTB_STEPS : Nat := 0x4009006c
abbrev R.ORDER_CTRL : Nat := 0x400a0000
abbrev R.ORDER_STATUS : Nat := 0x400a0004
abbrev R.ORDER_BUDGET (n : Nat) : Nat := 0x400a0010 + 0x4 * n
abbrev R.ORDER_STR_OWN : Nat := 0x400a0020
abbrev R.ORDER_QCFG (n : Nat) : Nat := 0x400a0100 + 0x80 * n
abbrev R.ORDER_QRING (n : Nat) : Nat := 0x400a0108 + 0x80 * n
abbrev R.ORDER_QCPL (n : Nat) : Nat := 0x400a0110 + 0x80 * n
abbrev R.ORDER_QSTG (n : Nat) : Nat := 0x400a0118 + 0x80 * n
abbrev R.ORDER_QSTGCFG (n : Nat) : Nat := 0x400a0120 + 0x80 * n
abbrev R.ORDER_QELIG (n : Nat) : Nat := 0x400a0124 + 0x80 * n
abbrev R.ORDER_QPTR (n : Nat) : Nat := 0x400a012c + 0x80 * n
abbrev R.ORDER_QGYLE (n : Nat) : Nat := 0x400a0130 + 0x80 * n
abbrev R.ORDER_QSAFE (n : Nat) : Nat := 0x400a0138 + 0x80 * n
abbrev R.ORDER_QEDTT (n : Nat) : Nat := 0x400a0140 + 0x80 * n
abbrev R.ORDER_QEDTH (n : Nat) : Nat := 0x400a0148 + 0x80 * n
abbrev R.ORDER_QREFUSED (n : Nat) : Nat := 0x400a0150 + 0x80 * n
abbrev R.ORDER_QSTAT (n : Nat) : Nat := 0x400a0154 + 0x80 * n
abbrev R.ORDER_QDOOR (n : Nat) : Nat := 0x400a0128 + 0x80 * n
abbrev R.STR_CFG (n : Nat) : Nat := 0x400a2000 + 0x80 * n
abbrev R.STR_FMT (n : Nat) : Nat := 0x400a2004 + 0x80 * n
abbrev R.STR_EPS (n : Nat) : Nat := 0x400a2008 + 0x80 * n
abbrev R.STR_INLOCAL (n : Nat) : Nat := 0x400a200c + 0x80 * n
abbrev R.STR_ENTRY (n : Nat) : Nat := 0x400a2010 + 0x80 * n
abbrev R.STR_INRING (n : Nat) : Nat := 0x400a2018 + 0x80 * n
abbrev R.STR_OUTRING (n : Nat) : Nat := 0x400a2020 + 0x80 * n
abbrev R.STR_BPER (n : Nat) : Nat := 0x400a2028 + 0x80 * n
abbrev R.STR_STATE (n : Nat) : Nat := 0x400a2030 + 0x80 * n
abbrev R.STR_BLOCK (n : Nat) : Nat := 0x400a2038 + 0x80 * n
abbrev R.STR_SLIP (n : Nat) : Nat := 0x400a2040 + 0x80 * n
abbrev R.STR_LIVE (n : Nat) : Nat := 0x400a2044 + 0x80 * n
abbrev R.STR_BFAIL (n : Nat) : Nat := 0x400a2048 + 0x80 * n
abbrev R.STR_GAP (n : Nat) : Nat := 0x400a2050 + 0x80 * n
abbrev R.SCENE_MASK (n : Nat) : Nat := 0x400a4000 + 0x40 * n
abbrev R.SCENE_T1 (n : Nat) : Nat := 0x400a4008 + 0x40 * n
abbrev R.SCENE_T2 (n : Nat) : Nat := 0x400a4010 + 0x40 * n
abbrev R.SCENE_CTRL (n : Nat) : Nat := 0x400a4018 + 0x40 * n
abbrev R.SCENE_STATUS (n : Nat) : Nat := 0x400a401c + 0x40 * n
abbrev R.GRANT_CFG (n : Nat) : Nat := 0x400b0100 + 0x40 * n
abbrev R.GRANT_BASE (n : Nat) : Nat := 0x400b0104 + 0x40 * n
abbrev R.GRANT_LEVEL (n : Nat) : Nat := 0x400b0108 + 0x40 * n
abbrev R.GRANT_THRESH (n : Nat) : Nat := 0x400b010c + 0x40 * n
abbrev R.GRANT_STAT (n : Nat) : Nat := 0x400b0110 + 0x40 * n
abbrev R.GRANT_OVER (n : Nat) : Nat := 0x400b0114 + 0x40 * n
abbrev R.GRANT_UNDER (n : Nat) : Nat := 0x400b0118 + 0x40 * n
abbrev R.GRANT_DCFG (n : Nat) : Nat := 0x400b011c + 0x40 * n
abbrev R.GRANT_DRIFT (n : Nat) : Nat := 0x400b0120 + 0x40 * n
abbrev R.GRANT_DSTAT (n : Nat) : Nat := 0x400b0124 + 0x40 * n
abbrev R.GRANT_PUSH (n : Nat) : Nat := 0x400b0128 + 0x40 * n
abbrev R.GRANT_POP (n : Nat) : Nat := 0x400b0130 + 0x40 * n
abbrev R.GRANT_POPTS (n : Nat) : Nat := 0x400b0138 + 0x40 * n
abbrev R.SPARGE_CAPS : Nat := 0x400c0000
abbrev R.SPARGE_POST (n : Nat) : Nat := 0x400c0100 + 0x20 * n
abbrev R.SPARGE_CHSTAT (n : Nat) : Nat := 0x400c0108 + 0x20 * n
abbrev R.SPARGE_CHCTL (n : Nat) : Nat := 0x400c010c + 0x20 * n
abbrev R.SPARGE_DONE (n : Nat) : Nat := 0x400c0110 + 0x20 * n
abbrev R.SPARGE_ECC_CEL (n : Nat) : Nat := 0x400c0800 + 0x4 * n
abbrev R.SPARGE_ECC_TUN (n : Nat) : Nat := 0x400c0900 + 0x4 * n
abbrev R.SPARGE_UE_LAST : Nat := 0x400c0c00
abbrev R.SPARGE_UE_COUNT : Nat := 0x400c0c08
abbrev R.TAP0_MERGE : Nat := 0x400d0000
abbrev R.TAP0_ORDER : Nat := 0x400d0008
abbrev R.TAP0_BSTAT : Nat := 0x400d000c
abbrev R.TAP0_CTRL (n : Nat) : Nat := 0x400d0100 + 0x40 * n
abbrev R.TAP0_WRAP (n : Nat) : Nat := 0x400d0104 + 0x40 * n
abbrev R.TAP0_WIN (n : Nat) : Nat := 0x400d0108 + 0x40 * n
abbrev R.TAP0_CLK (n : Nat) : Nat := 0x400d010c + 0x40 * n
abbrev R.TAP0_SHIFT (n : Nat) : Nat := 0x400d0110 + 0x40 * n
abbrev R.TAP0_STAT (n : Nat) : Nat := 0x400d0114 + 0x40 * n
abbrev R.TAP0_ISR (n : Nat) : Nat := 0x400d0118 + 0x40 * n
abbrev R.TAP0_OSR (n : Nat) : Nat := 0x400d011c + 0x40 * n
abbrev R.TAP0_CNT (n : Nat) : Nat := 0x400d0120 + 0x40 * n
abbrev R.TAP0_X (n : Nat) : Nat := 0x400d0124 + 0x40 * n
abbrev R.TAP0_Y (n : Nat) : Nat := 0x400d0128 + 0x40 * n
abbrev R.TAP0_TIME (n : Nat) : Nat := 0x400d0130 + 0x40 * n
abbrev R.TAP0_TSTEP (n : Nat) : Nat := 0x400d0138 + 0x40 * n
abbrev R.TAP0_PMEM (n : Nat) : Nat := 0x400d0400 + 0x4 * n
abbrev R.TAP1_MERGE : Nat := 0x400e0000
abbrev R.TAP1_ORDER : Nat := 0x400e0008
abbrev R.TAP1_BSTAT : Nat := 0x400e000c
abbrev R.TAP1_CTRL (n : Nat) : Nat := 0x400e0100 + 0x40 * n
abbrev R.TAP1_WRAP (n : Nat) : Nat := 0x400e0104 + 0x40 * n
abbrev R.TAP1_WIN (n : Nat) : Nat := 0x400e0108 + 0x40 * n
abbrev R.TAP1_CLK (n : Nat) : Nat := 0x400e010c + 0x40 * n
abbrev R.TAP1_SHIFT (n : Nat) : Nat := 0x400e0110 + 0x40 * n
abbrev R.TAP1_STAT (n : Nat) : Nat := 0x400e0114 + 0x40 * n
abbrev R.TAP1_ISR (n : Nat) : Nat := 0x400e0118 + 0x40 * n
abbrev R.TAP1_OSR (n : Nat) : Nat := 0x400e011c + 0x40 * n
abbrev R.TAP1_CNT (n : Nat) : Nat := 0x400e0120 + 0x40 * n
abbrev R.TAP1_X (n : Nat) : Nat := 0x400e0124 + 0x40 * n
abbrev R.TAP1_Y (n : Nat) : Nat := 0x400e0128 + 0x40 * n
abbrev R.TAP1_TIME (n : Nat) : Nat := 0x400e0130 + 0x40 * n
abbrev R.TAP1_TSTEP (n : Nat) : Nat := 0x400e0138 + 0x40 * n
abbrev R.TAP1_PMEM (n : Nat) : Nat := 0x400e0400 + 0x4 * n
abbrev R.TAP2_MERGE : Nat := 0x400f0000
abbrev R.TAP2_ORDER : Nat := 0x400f0008
abbrev R.TAP2_BSTAT : Nat := 0x400f000c
abbrev R.TAP2_CTRL (n : Nat) : Nat := 0x400f0100 + 0x40 * n
abbrev R.TAP2_WRAP (n : Nat) : Nat := 0x400f0104 + 0x40 * n
abbrev R.TAP2_WIN (n : Nat) : Nat := 0x400f0108 + 0x40 * n
abbrev R.TAP2_CLK (n : Nat) : Nat := 0x400f010c + 0x40 * n
abbrev R.TAP2_SHIFT (n : Nat) : Nat := 0x400f0110 + 0x40 * n
abbrev R.TAP2_STAT (n : Nat) : Nat := 0x400f0114 + 0x40 * n
abbrev R.TAP2_ISR (n : Nat) : Nat := 0x400f0118 + 0x40 * n
abbrev R.TAP2_OSR (n : Nat) : Nat := 0x400f011c + 0x40 * n
abbrev R.TAP2_CNT (n : Nat) : Nat := 0x400f0120 + 0x40 * n
abbrev R.TAP2_X (n : Nat) : Nat := 0x400f0124 + 0x40 * n
abbrev R.TAP2_Y (n : Nat) : Nat := 0x400f0128 + 0x40 * n
abbrev R.TAP2_TIME (n : Nat) : Nat := 0x400f0130 + 0x40 * n
abbrev R.TAP2_TSTEP (n : Nat) : Nat := 0x400f0138 + 0x40 * n
abbrev R.TAP2_PMEM (n : Nat) : Nat := 0x400f0400 + 0x4 * n
abbrev R.TAP3_MERGE : Nat := 0x40100000
abbrev R.TAP3_ORDER : Nat := 0x40100008
abbrev R.TAP3_BSTAT : Nat := 0x4010000c
abbrev R.TAP3_CTRL (n : Nat) : Nat := 0x40100100 + 0x40 * n
abbrev R.TAP3_WRAP (n : Nat) : Nat := 0x40100104 + 0x40 * n
abbrev R.TAP3_WIN (n : Nat) : Nat := 0x40100108 + 0x40 * n
abbrev R.TAP3_CLK (n : Nat) : Nat := 0x4010010c + 0x40 * n
abbrev R.TAP3_SHIFT (n : Nat) : Nat := 0x40100110 + 0x40 * n
abbrev R.TAP3_STAT (n : Nat) : Nat := 0x40100114 + 0x40 * n
abbrev R.TAP3_ISR (n : Nat) : Nat := 0x40100118 + 0x40 * n
abbrev R.TAP3_OSR (n : Nat) : Nat := 0x4010011c + 0x40 * n
abbrev R.TAP3_CNT (n : Nat) : Nat := 0x40100120 + 0x40 * n
abbrev R.TAP3_X (n : Nat) : Nat := 0x40100124 + 0x40 * n
abbrev R.TAP3_Y (n : Nat) : Nat := 0x40100128 + 0x40 * n
abbrev R.TAP3_TIME (n : Nat) : Nat := 0x40100130 + 0x40 * n
abbrev R.TAP3_TSTEP (n : Nat) : Nat := 0x40100138 + 0x40 * n
abbrev R.TAP3_PMEM (n : Nat) : Nat := 0x40100400 + 0x4 * n
abbrev R.GPIO_FUNC (n : Nat) : Nat := 0x40110000 + 0x4 * n
abbrev R.GPIO_OUT : Nat := 0x40110100
abbrev R.GPIO_OE : Nat := 0x40110108
abbrev R.GPIO_IN : Nat := 0x40110110
abbrev R.GPIO_EDGE (n : Nat) : Nat := 0x40110200 + 0x4 * n
abbrev R.GPIO_EVT : Nat := 0x40110300
abbrev R.SAP_MCLK : Nat := 0x40120000
abbrev R.SAP_WCLK : Nat := 0x40120004
abbrev R.SAP_CFG (n : Nat) : Nat := 0x40120100 + 0x20 * n
abbrev R.SAP_RXMASK (n : Nat) : Nat := 0x40120104 + 0x20 * n
abbrev R.SAP_TXMASK (n : Nat) : Nat := 0x40120108 + 0x20 * n
abbrev R.SAP_STAT (n : Nat) : Nat := 0x4012010c + 0x20 * n
abbrev R.SAP_IRQ (n : Nat) : Nat := 0x40120110 + 0x20 * n
abbrev R.SAP_FRAMEERR (n : Nat) : Nat := 0x40120114 + 0x20 * n
abbrev R.AES3_RXCFG (n : Nat) : Nat := 0x40130100 + 0x80 * n
abbrev R.AES3_RXSTAT (n : Nat) : Nat := 0x40130104 + 0x80 * n
abbrev R.AES3_RXFREQ (n : Nat) : Nat := 0x40130108 + 0x80 * n
abbrev R.AES3_RXSEQ (n : Nat) : Nat := 0x4013010c + 0x80 * n
abbrev R.AES3_RXBIPHASE (n : Nat) : Nat := 0x40130110 + 0x80 * n
abbrev R.AES3_RXPARITY (n : Nat) : Nat := 0x40130114 + 0x80 * n
abbrev R.AES3_RXPREAMBLE (n : Nat) : Nat := 0x40130118 + 0x80 * n
abbrev R.AES3_RXLOCK (n : Nat) : Nat := 0x4013011c + 0x80 * n
abbrev R.AES3_RXCSCRC (n : Nat) : Nat := 0x40130120 + 0x80 * n
abbrev R.AES3_RXCSA0 (n : Nat) : Nat := 0x40130140 + 0x80 * n
abbrev R.AES3_RXCSB0 (n : Nat) : Nat := 0x40130158 + 0x80 * n
abbrev R.AES3_RXCSA1 (n : Nat) : Nat := 0x40130144 + 0x80 * n
abbrev R.AES3_RXCSB1 (n : Nat) : Nat := 0x4013015c + 0x80 * n
abbrev R.AES3_RXCSA2 (n : Nat) : Nat := 0x40130148 + 0x80 * n
abbrev R.AES3_RXCSB2 (n : Nat) : Nat := 0x40130160 + 0x80 * n
abbrev R.AES3_RXCSA3 (n : Nat) : Nat := 0x4013014c + 0x80 * n
abbrev R.AES3_RXCSB3 (n : Nat) : Nat := 0x40130164 + 0x80 * n
abbrev R.AES3_RXCSA4 (n : Nat) : Nat := 0x40130150 + 0x80 * n
abbrev R.AES3_RXCSB4 (n : Nat) : Nat := 0x40130168 + 0x80 * n
abbrev R.AES3_RXCSA5 (n : Nat) : Nat := 0x40130154 + 0x80 * n
abbrev R.AES3_RXCSB5 (n : Nat) : Nat := 0x4013016c + 0x80 * n
abbrev R.AES3_TXCFG (n : Nat) : Nat := 0x40130400 + 0x80 * n
abbrev R.AES3_TXSTAT (n : Nat) : Nat := 0x40130404 + 0x80 * n
abbrev R.AES3_TXCSA0 (n : Nat) : Nat := 0x40130440 + 0x80 * n
abbrev R.AES3_TXCSB0 (n : Nat) : Nat := 0x40130458 + 0x80 * n
abbrev R.AES3_TXCSA1 (n : Nat) : Nat := 0x40130444 + 0x80 * n
abbrev R.AES3_TXCSB1 (n : Nat) : Nat := 0x4013045c + 0x80 * n
abbrev R.AES3_TXCSA2 (n : Nat) : Nat := 0x40130448 + 0x80 * n
abbrev R.AES3_TXCSB2 (n : Nat) : Nat := 0x40130460 + 0x80 * n
abbrev R.AES3_TXCSA3 (n : Nat) : Nat := 0x4013044c + 0x80 * n
abbrev R.AES3_TXCSB3 (n : Nat) : Nat := 0x40130464 + 0x80 * n
abbrev R.AES3_TXCSA4 (n : Nat) : Nat := 0x40130450 + 0x80 * n
abbrev R.AES3_TXCSB4 (n : Nat) : Nat := 0x40130468 + 0x80 * n
abbrev R.AES3_TXCSA5 (n : Nat) : Nat := 0x40130454 + 0x80 * n
abbrev R.AES3_TXCSB5 (n : Nat) : Nat := 0x4013046c + 0x80 * n
abbrev R.MADI_CFG : Nat := 0x40140000
abbrev R.MADI_STAT : Nat := 0x40140004
abbrev R.MADI_RXFREQ : Nat := 0x40140008
abbrev R.MADI_CODEERR : Nat := 0x40140010
abbrev R.MADI_PARITYERR : Nat := 0x40140014
abbrev R.MADI_SYNCERR : Nat := 0x40140018
abbrev R.MADI_FORMATERR : Nat := 0x4014001c
abbrev R.MADI_LOCKLOSS : Nat := 0x40140020
abbrev R.PDM_CFG : Nat := 0x40150000
abbrev R.PDM_STAT : Nat := 0x40150004
abbrev R.PDM_STUCKCNT : Nat := 0x40150008
abbrev R.SDI_VREF : Nat := 0x40160000
abbrev R.SDI_VREFSTAT : Nat := 0x40160004
abbrev R.SDI_VREFPER : Nat := 0x40160008
abbrev R.SDI_RXCFG (n : Nat) : Nat := 0x40161000 + 0x400 * n
abbrev R.SDI_RXFMT (n : Nat) : Nat := 0x40161004 + 0x400 * n
abbrev R.SDI_RXSTAT (n : Nat) : Nat := 0x40161008 + 0x400 * n
abbrev R.SDI_RXIRQ (n : Nat) : Nat := 0x4016100c + 0x400 * n
abbrev R.SDI_RXVPID (n : Nat) : Nat := 0x40161010 + 0x400 * n
abbrev R.SDI_RXCRC (n : Nat) : Nat := 0x40161020 + 0x400 * n
abbrev R.SDI_RXEDH (n : Nat) : Nat := 0x40161024 + 0x400 * n
abbrev R.SDI_RXTRS (n : Nat) : Nat := 0x40161028 + 0x400 * n
abbrev R.SDI_RXLEN (n : Nat) : Nat := 0x4016102c + 0x400 * n
abbrev R.SDI_RXVPIDERR (n : Nat) : Nat := 0x40161030 + 0x400 * n
abbrev R.SDI_RXANCCS (n : Nat) : Nat := 0x40161034 + 0x400 * n
abbrev R.SDI_RXLOCK (n : Nat) : Nat := 0x40161038 + 0x400 * n
abbrev R.SDI_RXAUDERR (n : Nat) : Nat := 0x4016103c + 0x400 * n
abbrev R.SDI_ANCFILT0 (n : Nat) : Nat := 0x40161040 + 0x400 * n
abbrev R.SDI_ANCFILT1 (n : Nat) : Nat := 0x40161044 + 0x400 * n
abbrev R.SDI_ANCFILT2 (n : Nat) : Nat := 0x40161048 + 0x400 * n
abbrev R.SDI_ANCFILT3 (n : Nat) : Nat := 0x4016104c + 0x400 * n
abbrev R.SDI_ANCFILT4 (n : Nat) : Nat := 0x40161050 + 0x400 * n
abbrev R.SDI_ANCFILT5 (n : Nat) : Nat := 0x40161054 + 0x400 * n
abbrev R.SDI_ANCFILT6 (n : Nat) : Nat := 0x40161058 + 0x400 * n
abbrev R.SDI_ANCFILT7 (n : Nat) : Nat := 0x4016105c + 0x400 * n
abbrev R.SDI_RXAUD (n : Nat) : Nat := 0x40161060 + 0x400 * n
abbrev R.SDI_TXCFG (n : Nat) : Nat := 0x40161080 + 0x400 * n
abbrev R.SDI_TXFMT (n : Nat) : Nat := 0x40161084 + 0x400 * n
abbrev R.SDI_TXSTAT (n : Nat) : Nat := 0x40161088 + 0x400 * n
abbrev R.SDI_TXOFS (n : Nat) : Nat := 0x4016108c + 0x400 * n
abbrev R.SDI_TXVPID (n : Nat) : Nat := 0x40161090 + 0x400 * n
abbrev R.SDI_TXAUD (n : Nat) : Nat := 0x40161094 + 0x400 * n
abbrev R.SDI_TXANCDROP (n : Nat) : Nat := 0x40161098 + 0x400 * n
abbrev R.SDI_TXCLIP (n : Nat) : Nat := 0x4016109c + 0x400 * n
abbrev R.SDI_PIXCFG (n : Nat) : Nat := 0x40161100 + 0x400 * n
abbrev R.SDI_PIXCTL (n : Nat) : Nat := 0x40161104 + 0x400 * n
abbrev R.SDI_MAT0 (n : Nat) : Nat := 0x40161110 + 0x400 * n
abbrev R.SDI_MAT1 (n : Nat) : Nat := 0x40161114 + 0x400 * n
abbrev R.SDI_MAT2 (n : Nat) : Nat := 0x40161118 + 0x400 * n
abbrev R.SDI_MAT3 (n : Nat) : Nat := 0x4016111c + 0x400 * n
abbrev R.SDI_MAT4 (n : Nat) : Nat := 0x40161120 + 0x400 * n
abbrev R.SDI_MAT5 (n : Nat) : Nat := 0x40161124 + 0x400 * n
abbrev R.SDI_MAT6 (n : Nat) : Nat := 0x40161128 + 0x400 * n
abbrev R.SDI_MAT7 (n : Nat) : Nat := 0x4016112c + 0x400 * n
abbrev R.SDI_MAT8 (n : Nat) : Nat := 0x40161130 + 0x400 * n
abbrev R.SDI_MAT9 (n : Nat) : Nat := 0x40161134 + 0x400 * n
abbrev R.SDI_MAT10 (n : Nat) : Nat := 0x40161138 + 0x400 * n
abbrev R.SDI_MAT11 (n : Nat) : Nat := 0x4016113c + 0x400 * n
abbrev R.SDI_LUTADDR (n : Nat) : Nat := 0x40161140 + 0x400 * n
abbrev R.SDI_LUTDATA (n : Nat) : Nat := 0x40161148 + 0x400 * n
abbrev R.ETHA_CFG : Nat := 0x40170000
abbrev R.ETHA_STAT : Nat := 0x40170004
abbrev R.ETHA_MACADDR : Nat := 0x40170008
abbrev R.ETHA_MCHASH : Nat := 0x40170010
abbrev R.ETHA_TSLAT : Nat := 0x40170018
abbrev R.ETHA_MDIO : Nat := 0x40170020
abbrev R.ETHA_TXQ_BASE (n : Nat) : Nat := 0x40170040 + 0x20 * n
abbrev R.ETHA_TXQ_SIZE (n : Nat) : Nat := 0x40170048 + 0x20 * n
abbrev R.ETHA_TXQ_PTR (n : Nat) : Nat := 0x4017004c + 0x20 * n
abbrev R.ETHA_TXQ_IDLESLOPE (n : Nat) : Nat := 0x40170050 + 0x20 * n
abbrev R.ETHA_TXQ_CBS_HI (n : Nat) : Nat := 0x40170054 + 0x20 * n
abbrev R.ETHA_TXQ_CBS_LO (n : Nat) : Nat := 0x40170058 + 0x20 * n
abbrev R.ETHA_RX_BASE : Nat := 0x401700c0
abbrev R.ETHA_RX_SIZE : Nat := 0x401700c8
abbrev R.ETHA_RX_PTR : Nat := 0x401700cc
abbrev R.ETHA_GCTL : Nat := 0x40170100
abbrev R.ETHA_GBASE (n : Nat) : Nat := 0x40170108 + 0x8 * n
abbrev R.ETHA_GCYCLE (n : Nat) : Nat := 0x40170118 + 0x4 * n
abbrev R.ETHA_RXDROP : Nat := 0x40170200
abbrev R.ETHA_RXERR : Nat := 0x40170204
abbrev R.ETHA_GATEDROP (n : Nat) : Nat := 0x40170208 + 0x4 * n
abbrev R.ETHA_TXF_CFG (n : Nat) : Nat := 0x40170400 + 0x80 * n
abbrev R.ETHA_TXF_PT (n : Nat) : Nat := 0x40170404 + 0x80 * n
abbrev R.ETHA_TXF_SSRC (n : Nat) : Nat := 0x40170408 + 0x80 * n
abbrev R.ETHA_TXF_OFFSET (n : Nat) : Nat := 0x4017040c + 0x80 * n
abbrev R.ETHA_TXF_CLKRATE (n : Nat) : Nat := 0x40170410 + 0x80 * n
abbrev R.ETHA_TXF_NSAMP (n : Nat) : Nat := 0x40170414 + 0x80 * n
abbrev R.ETHA_TXF_LAUNCH (n : Nat) : Nat := 0x40170418 + 0x80 * n
abbrev R.ETHA_TXF_NPKT (n : Nat) : Nat := 0x4017041c + 0x80 * n
abbrev R.ETHA_TXF_WH (n : Nat) : Nat := 0x40170420 + 0x80 * n
abbrev R.ETHA_TXF_GCYCLEF (n : Nat) : Nat := 0x40170424 + 0x80 * n
abbrev R.ETHA_TXF_SEQ (n : Nat) : Nat := 0x40170428 + 0x80 * n
abbrev R.ETHA_TXF_TEMPLATE0 (n : Nat) : Nat := 0x40170440 + 0x80 * n
abbrev R.ETHA_TXF_TEMPLATE1 (n : Nat) : Nat := 0x40170448 + 0x80 * n
abbrev R.ETHA_TXF_TEMPLATE2 (n : Nat) : Nat := 0x40170450 + 0x80 * n
abbrev R.ETHA_TXF_TEMPLATE3 (n : Nat) : Nat := 0x40170458 + 0x80 * n
abbrev R.ETHA_TXF_TEMPLATE4 (n : Nat) : Nat := 0x40170460 + 0x80 * n
abbrev R.ETHA_TXF_TEMPLATE5 (n : Nat) : Nat := 0x40170468 + 0x80 * n
abbrev R.ETHA_TXF_TEMPLATE6 (n : Nat) : Nat := 0x40170470 + 0x80 * n
abbrev R.ETHA_TXF_TEMPLATE7 (n : Nat) : Nat := 0x40170478 + 0x80 * n
abbrev R.ETHA_RXF_CFG (n : Nat) : Nat := 0x40170600 + 0x40 * n
abbrev R.ETHA_RXF_IP (n : Nat) : Nat := 0x40170604 + 0x40 * n
abbrev R.ETHA_RXF_PORT (n : Nat) : Nat := 0x40170608 + 0x40 * n
abbrev R.ETHA_RXF_SSRC (n : Nat) : Nat := 0x4017060c + 0x40 * n
abbrev R.ETHA_RXF_OFFSET (n : Nat) : Nat := 0x40170610 + 0x40 * n
abbrev R.ETHA_RXF_CLKRATE (n : Nat) : Nat := 0x40170614 + 0x40 * n
abbrev R.ETHA_RXF_LOST (n : Nat) : Nat := 0x40170618 + 0x40 * n
abbrev R.ETHA_RXF_LATE (n : Nat) : Nat := 0x4017061c + 0x40 * n
abbrev R.ETHA_RXF_BAD (n : Nat) : Nat := 0x40170620 + 0x40 * n
abbrev R.ETHA_GCLA (n : Nat) : Nat := 0x40171000 + 0x4 * n
abbrev R.ETHA_GCLB (n : Nat) : Nat := 0x40171100 + 0x4 * n
abbrev R.ETHB_CFG : Nat := 0x40180000
abbrev R.ETHB_STAT : Nat := 0x40180004
abbrev R.ETHB_MACADDR : Nat := 0x40180008
abbrev R.ETHB_MCHASH : Nat := 0x40180010
abbrev R.ETHB_TSLAT : Nat := 0x40180018
abbrev R.ETHB_MDIO : Nat := 0x40180020
abbrev R.ETHB_TXQ_BASE (n : Nat) : Nat := 0x40180040 + 0x20 * n
abbrev R.ETHB_TXQ_SIZE (n : Nat) : Nat := 0x40180048 + 0x20 * n
abbrev R.ETHB_TXQ_PTR (n : Nat) : Nat := 0x4018004c + 0x20 * n
abbrev R.ETHB_TXQ_IDLESLOPE (n : Nat) : Nat := 0x40180050 + 0x20 * n
abbrev R.ETHB_TXQ_CBS_HI (n : Nat) : Nat := 0x40180054 + 0x20 * n
abbrev R.ETHB_TXQ_CBS_LO (n : Nat) : Nat := 0x40180058 + 0x20 * n
abbrev R.ETHB_RX_BASE : Nat := 0x401800c0
abbrev R.ETHB_RX_SIZE : Nat := 0x401800c8
abbrev R.ETHB_RX_PTR : Nat := 0x401800cc
abbrev R.ETHB_GCTL : Nat := 0x40180100
abbrev R.ETHB_GBASE (n : Nat) : Nat := 0x40180108 + 0x8 * n
abbrev R.ETHB_GCYCLE (n : Nat) : Nat := 0x40180118 + 0x4 * n
abbrev R.ETHB_RXDROP : Nat := 0x40180200
abbrev R.ETHB_RXERR : Nat := 0x40180204
abbrev R.ETHB_GATEDROP (n : Nat) : Nat := 0x40180208 + 0x4 * n
abbrev R.ETHB_TXF_CFG (n : Nat) : Nat := 0x40180400 + 0x80 * n
abbrev R.ETHB_TXF_PT (n : Nat) : Nat := 0x40180404 + 0x80 * n
abbrev R.ETHB_TXF_SSRC (n : Nat) : Nat := 0x40180408 + 0x80 * n
abbrev R.ETHB_TXF_OFFSET (n : Nat) : Nat := 0x4018040c + 0x80 * n
abbrev R.ETHB_TXF_CLKRATE (n : Nat) : Nat := 0x40180410 + 0x80 * n
abbrev R.ETHB_TXF_NSAMP (n : Nat) : Nat := 0x40180414 + 0x80 * n
abbrev R.ETHB_TXF_LAUNCH (n : Nat) : Nat := 0x40180418 + 0x80 * n
abbrev R.ETHB_TXF_NPKT (n : Nat) : Nat := 0x4018041c + 0x80 * n
abbrev R.ETHB_TXF_WH (n : Nat) : Nat := 0x40180420 + 0x80 * n
abbrev R.ETHB_TXF_GCYCLEF (n : Nat) : Nat := 0x40180424 + 0x80 * n
abbrev R.ETHB_TXF_SEQ (n : Nat) : Nat := 0x40180428 + 0x80 * n
abbrev R.ETHB_TXF_TEMPLATE0 (n : Nat) : Nat := 0x40180440 + 0x80 * n
abbrev R.ETHB_TXF_TEMPLATE1 (n : Nat) : Nat := 0x40180448 + 0x80 * n
abbrev R.ETHB_TXF_TEMPLATE2 (n : Nat) : Nat := 0x40180450 + 0x80 * n
abbrev R.ETHB_TXF_TEMPLATE3 (n : Nat) : Nat := 0x40180458 + 0x80 * n
abbrev R.ETHB_TXF_TEMPLATE4 (n : Nat) : Nat := 0x40180460 + 0x80 * n
abbrev R.ETHB_TXF_TEMPLATE5 (n : Nat) : Nat := 0x40180468 + 0x80 * n
abbrev R.ETHB_TXF_TEMPLATE6 (n : Nat) : Nat := 0x40180470 + 0x80 * n
abbrev R.ETHB_TXF_TEMPLATE7 (n : Nat) : Nat := 0x40180478 + 0x80 * n
abbrev R.ETHB_RXF_CFG (n : Nat) : Nat := 0x40180600 + 0x40 * n
abbrev R.ETHB_RXF_IP (n : Nat) : Nat := 0x40180604 + 0x40 * n
abbrev R.ETHB_RXF_PORT (n : Nat) : Nat := 0x40180608 + 0x40 * n
abbrev R.ETHB_RXF_SSRC (n : Nat) : Nat := 0x4018060c + 0x40 * n
abbrev R.ETHB_RXF_OFFSET (n : Nat) : Nat := 0x40180610 + 0x40 * n
abbrev R.ETHB_RXF_CLKRATE (n : Nat) : Nat := 0x40180614 + 0x40 * n
abbrev R.ETHB_RXF_LOST (n : Nat) : Nat := 0x40180618 + 0x40 * n
abbrev R.ETHB_RXF_LATE (n : Nat) : Nat := 0x4018061c + 0x40 * n
abbrev R.ETHB_RXF_BAD (n : Nat) : Nat := 0x40180620 + 0x40 * n
abbrev R.ETHB_GCLA (n : Nat) : Nat := 0x40181000 + 0x4 * n
abbrev R.ETHB_GCLB (n : Nat) : Nat := 0x40181100 + 0x4 * n
abbrev R.USB_CFG : Nat := 0x40190000
abbrev R.USB_STAT : Nat := 0x40190004
abbrev R.USB_SOFTS : Nat := 0x40190008
abbrev R.USB_FRNUM : Nat := 0x40190010
abbrev R.USB_MISSED : Nat := 0x40190020
abbrev R.USB_CRCERR : Nat := 0x40190024
abbrev R.USB_EP_BASE (n : Nat) : Nat := 0x40191000 + 0x20 * n
abbrev R.USB_EP_SIZE (n : Nat) : Nat := 0x40191008 + 0x20 * n
abbrev R.USB_EP_PTR (n : Nat) : Nat := 0x4019100c + 0x20 * n
abbrev R.USB_EP_IDLESLOPE (n : Nat) : Nat := 0x40191010 + 0x20 * n
abbrev R.USB_EP_CBS_HI (n : Nat) : Nat := 0x40191014 + 0x20 * n
abbrev R.USB_EP_CBS_LO (n : Nat) : Nat := 0x40191018 + 0x20 * n
abbrev R.USB_IN_CFG (n : Nat) : Nat := 0x40190400 + 0x20 * n
abbrev R.USB_IN_FSNOM (n : Nat) : Nat := 0x40190404 + 0x20 * n
abbrev R.USB_IN_INDELAY (n : Nat) : Nat := 0x40190408 + 0x20 * n
abbrev R.USB_IN_MAXFRAMES (n : Nat) : Nat := 0x4019040c + 0x20 * n
abbrev R.USB_OUT_CFG (n : Nat) : Nat := 0x40190480 + 0x20 * n
abbrev R.USB_OUT_FSNOM (n : Nat) : Nat := 0x40190484 + 0x20 * n
abbrev R.USB_OUT_FBCFG (n : Nat) : Nat := 0x40190490 + 0x20 * n
abbrev R.USB_OUT_FB (n : Nat) : Nat := 0x40190494 + 0x20 * n
abbrev R.PCIE_IDS : Nat := 0x401a0000
abbrev R.PCIE_CLASS : Nat := 0x401a0008
abbrev R.PCIE_STAT : Nat := 0x401a000c
abbrev R.PCIE_OUTXLAT : Nat := 0x401a0010
abbrev R.PCIE_VECSRC (n : Nat) : Nat := 0x401a0100 + 0x4 * n
abbrev R.PCIE_URCNT : Nat := 0x401a0200
abbrev R.PCIE_CACNT : Nat := 0x401a0204
abbrev R.PCIE_MALCNT : Nat := 0x401a0208
abbrev R.PCIE_POISCNT : Nat := 0x401a020c
abbrev R.PCIE_OUTCNT : Nat := 0x401a0210
abbrev R.PCIE_MSIX (n : Nat) : Nat := 0x401a8000 + 0x8 * n
abbrev R.PCIE_PBA : Nat := 0x401a8200
abbrev R.SDK_CFG : Nat := 0x401b0000
abbrev R.SDK_STAT : Nat := 0x401b0004
abbrev R.SDK_ROUTE : Nat := 0x401b0008
abbrev R.SDK_MARKPER : Nat := 0x401b000c
abbrev R.SDK_RTIMEOUT : Nat := 0x401b0010
abbrev R.SDK_CERT : Nat := 0x401b0018
abbrev R.SDK_TRUST : Nat := 0x401b0020
abbrev R.SDK_BOOTA : Nat := 0x401b0028
abbrev R.SDK_BOOTASIZE : Nat := 0x401b0030
abbrev R.SDK_BOOTB : Nat := 0x401b0038
abbrev R.SDK_BOOTBSIZE : Nat := 0x401b0040
abbrev R.SDK_BOOTCTL : Nat := 0x401b0048
abbrev R.SDK_OFWD : Nat := 0x401b0050
abbrev R.SDK_OFWDSTAT : Nat := 0x401b0058
abbrev R.SDK_OFWDGYLE : Nat := 0x401b0060
abbrev R.SDK_PSTATE (n : Nat) : Nat := 0x401b0100 + 0x80 * n
abbrev R.SDK_PEVT (n : Nat) : Nat := 0x401b0104 + 0x80 * n
abbrev R.SDK_PDELAY (n : Nat) : Nat := 0x401b0108 + 0x80 * n
abbrev R.SDK_PASYM (n : Nat) : Nat := 0x401b0110 + 0x80 * n
abbrev R.SDK_PPEER (n : Nat) : Nat := 0x401b0114 + 0x80 * n
abbrev R.SDK_PPEERID (n : Nat) : Nat := 0x401b0118 + 0x80 * n
abbrev R.SDK_CRCERR (n : Nat) : Nat := 0x401b0120 + 0x80 * n
abbrev R.SDK_NAKTX (n : Nat) : Nat := 0x401b0124 + 0x80 * n
abbrev R.SDK_NAKRX (n : Nat) : Nat := 0x401b0128 + 0x80 * n
abbrev R.SDK_REPLAY (n : Nat) : Nat := 0x401b012c + 0x80 * n
abbrev R.SDK_SEQERR (n : Nat) : Nat := 0x401b0130 + 0x80 * n
abbrev R.SDK_CREDERR (n : Nat) : Nat := 0x401b0134 + 0x80 * n
abbrev R.SDK_TYPEERR (n : Nat) : Nat := 0x401b0138 + 0x80 * n
abbrev R.SDK_SEALERR (n : Nat) : Nat := 0x401b013c + 0x80 * n
abbrev R.SDK_RETRAINS (n : Nat) : Nat := 0x401b0140 + 0x80 * n
abbrev R.SDK_STR (n : Nat) : Nat := 0x401b0300 + 0x10 * n
abbrev R.HCP_CFG : Nat := 0x401e0000
abbrev R.HCP_STAT : Nat := 0x401e0004
abbrev R.HCP_CRCERR : Nat := 0x401e0008
abbrev R.HCP_FRAMEERR : Nat := 0x401e000c
abbrev R.HCP_AUTHERR : Nat := 0x401e0010
abbrev R.WDT_CTRL : Nat := 0x401f0000
abbrev R.WDT_FIRST : Nat := 0x401f0004
abbrev R.WDT_FINAL : Nat := 0x401f0008
abbrev R.WDT_KICK : Nat := 0x401f000c
abbrev R.WDT_STAT : Nat := 0x401f0010
abbrev R.WDT_COUNT : Nat := 0x401f0014
abbrev R.MON_TEMP (n : Nat) : Nat := 0x40200000 + 0x4 * n
abbrev R.MON_TALARM (n : Nat) : Nat := 0x40200020 + 0x4 * n
abbrev R.MON_TMAX (n : Nat) : Nat := 0x40200040 + 0x4 * n
abbrev R.MON_VOLT (n : Nat) : Nat := 0x40200060 + 0x4 * n
abbrev R.MON_VLIM (n : Nat) : Nat := 0x40200080 + 0x4 * n
abbrev R.MON_VMIN (n : Nat) : Nat := 0x402000a0 + 0x4 * n
abbrev R.MON_STAT : Nat := 0x402000c0
abbrev R.MON_IRQ : Nat := 0x402000c4
abbrev R.DEBUG_STATUS : Nat := 0x40210000
abbrev R.DEBUG_CHALLENGE (n : Nat) : Nat := 0x40210010 + 0x4 * n
abbrev R.DEBUG_TOKEN_GO : Nat := 0x40210020
abbrev R.DEBUG_LOCK : Nat := 0x40210024
abbrev R.DEBUG_TOKEN (n : Nat) : Nat := 0x40212000 + 0x8 * n
abbrev R.STEEP_CTRL : Nat := 0x40220000
abbrev R.STEEP_PERIOD : Nat := 0x40220004
abbrev R.STEEP_STATUS : Nat := 0x40220008
abbrev R.STEEP_POOL : Nat := 0x4022000c
abbrev R.STEEP_RETIRED : Nat := 0x40220010
abbrev R.STEEP_DIRECT : Nat := 0x40220014
abbrev R.STEEP_COUNT : Nat := 0x40220018
abbrev R.STEEP_FAILS : Nat := 0x4022001c
abbrev R.AON_RTC : Nat := 0x40230000
abbrev R.AON_RTCALARM : Nat := 0x40230008
abbrev R.AON_WAKECFG : Nat := 0x40230010
abbrev R.AON_WAKESRC : Nat := 0x40230014
abbrev R.AON_DORMCNT : Nat := 0x40230018
abbrev R.AON_BOOT_STATUS : Nat := 0x40230100
abbrev R.AON_BOOT_ATTEMPTS : Nat := 0x40230104
abbrev R.AON_BOOT_LAST : Nat := 0x40230108
abbrev R.AON_BOOT_CONFIRM : Nat := 0x40230110
abbrev R.AON_BOOT_CONFIRM_TAG : Nat := 0x40230118

/-- The register rows of unit window `k` (the chapter of each unit, under "Registers"). -/

def regRows00a : List RegRow := [
  ⟨0x0, 1, 0x0, false, 0x0, .same, 0x0, 0xffffffff, 0x0, 0x0, 0x0, 0x0, 0x0⟩,
  ⟨0x4, 1, 0x0, false, 0x0, .same, 0x0, 0xffffffff, 0x0, 0x0, 0x0, 0x0, 0x0⟩,
  ⟨0x8, 1, 0x0, false, 0x0, .same, 0x0, 0xffffffff, 0x0, 0x0, 0x0, 0x0, 0x0⟩,
  ⟨0xc, 1, 0x0, false, 0x0, .same, 0x0, 0xf, 0x0, 0x0, 0x0, 0x0, 0x0⟩,
  ⟨0x10, 1, 0x0, false, 0x3, .kept, 0x0, 0x0, 0x1ff, 0x0, 0x0, 0x0, 0x0⟩,
  ⟨0x14, 1, 0x0, false, 0x0, .same, 0x0, 0x0, 0x0, 0x0, 0x0, 0xffff0003, 0x0⟩,
  ⟨0x18, 1, 0x0, false, 0x0, .same, 0x0, 0x3, 0x0, 0x0, 0x0, 0x0, 0x0⟩,
  ⟨0x20, 1, 0x0, true, 0x0, .same, 0x0, 0x1ffffffffffff, 0x0, 0x0, 0x0, 0x0, 0x0⟩,
  ⟨0x28, 1, 0x0, false, 0x0, .same, 0x0, 0xffffffff, 0x0, 0x0, 0x0, 0x0, 0x0⟩,
  ⟨0x30, 1, 0x0, true, 0x0, .same, 0x0, 0x0, 0x0, 0x0, 0xfffffffffc, 0x0, 0x0⟩,
  ⟨0x38, 1, 0x0, false, 0x1, .same, 0x0, 0x0, 0x0, 0x3, 0x0, 0x0, 0x0⟩,
  ⟨0x40, 1, 0x0, true, 0x0, .same, 0xfffffffffc, 0x0, 0x0, 0x0, 0x0, 0x0, 0x0⟩,
  ⟨0x48, 1, 0x0, false, 0x0, .same, 0x0, 0x0, 0x0, 0x1, 0x0, 0x0, 0x0⟩,
  ⟨0x1000, 16, 0x10, true, 0x0, .same, 0xfffffff00f, 0x0, 0x0, 0x0, 0x0, 0x0, 0x0⟩,
  ⟨0x1008, 16, 0x10, true, 0x0, .same, 0xfffffff000, 0x0, 0x0, 0x0, 0x0, 0x0, 0x0⟩,
  ⟨0x1200, 16, 0x10, true, 0x0, .same, 0xfffffff00f, 0x0, 0x0, 0x0, 0x0, 0x0, 0x0⟩,
  ⟨0x1208, 16, 0x10, true, 0x0, .same, 0xfffffff000, 0x0, 0x0, 0x0, 0x0, 0x0, 0x0⟩,
  ⟨0x1400, 16, 0x10, true, 0x0, .same, 0xfffffff00f, 0x0, 0x0, 0x0, 0x0, 0x0, 0x0⟩,
  ⟨0x1408, 16, 0x10, true, 0x0, .same, 0xfffffff000, 0x0, 0x0, 0x0, 0x0, 0x0, 0x0⟩,
  ⟨0x1600, 16, 0x10, true, 0x0, .same, 0xfffffff00f, 0x0, 0x0, 0x0, 0x0, 0x0, 0x0⟩,
  ⟨0x1608, 16, 0x10, true, 0x0, .same, 0xfffffff000, 0x0, 0x0, 0x0, 0x0, 0x0, 0x0⟩,
  ⟨0x1800, 16, 0x10, true, 0x0, .same, 0xfffffff00f, 0x0, 0x0, 0x0, 0x0, 0x0, 0x0⟩,
  ⟨0x1808, 16, 0x10, true, 0x0, .same, 0xfffffff000, 0x0, 0x0, 0x0, 0x0, 0x0, 0x0⟩,
  ⟨0x1a00, 16, 0x10, true, 0x0, .same, 0xfffffff00f, 0x0, 0x0, 0x0, 0x0, 0x0, 0x0⟩,
  ⟨0x1a08, 16, 0x10, true, 0x0, .same, 0xfffffff000, 0x0, 0x0, 0x0, 0x0, 0x0, 0x0⟩,
  ⟨0x1c00, 16, 0x10, true, 0x0, .same, 0xfffffff00f, 0x0, 0x0, 0x0, 0x0, 0x0, 0x0⟩,
  ⟨0x1c08, 16, 0x10, true, 0x0, .same, 0xfffffff000, 0x0, 0x0, 0x0, 0x0, 0x0, 0x0⟩,
  ⟨0x1e00, 16, 0x10, true, 0x0, .same, 0xfffffff00f, 0x0, 0x0, 0x0, 0x0, 0x0, 0x0⟩,
  ⟨0x1e08, 16, 0x10, true, 0x0, .same, 0xfffffff000, 0x0, 0x0, 0x0, 0x0, 0x0, 0x0⟩,
  ⟨0x2000, 1, 0x0, false, 0x1555, .kept, 0x0, 0x3fff, 0x0, 0x0, 0x0, 0x0, 0x0⟩,
  ⟨0x2004, 1, 0x0, false, 0x555, .same, 0xfff, 0x0, 0x0, 0x0, 0x0, 0x0, 0x0⟩,
  ⟨0x2008, 1, 0x0, false, 0x0, .same, 0x3f, 0x0, 0x0, 0x0, 0x0, 0x0, 0x0⟩]

def regRows01a : List RegRow := [
  ⟨0x0, 1, 0x0, false, 0x0, .same, 0x0, 0x0, 0x0, 0x0, 0x0, 0x7, 0x0⟩,
  ⟨0x4, 1, 0x0, false, 0x0, .same, 0x0, 0xf, 0x0, 0x0, 0x0, 0x0, 0x0⟩,
  ⟨0x8, 1, 0x0, false, 0x0, .same, 0x0, 0x3777, 0x0, 0x0, 0x0, 0x0, 0x0⟩,
  ⟨0x10, 1, 0x0, false, 0x0, .same, 0x0, 0x0, 0x0, 0x0, 0x0, 0x33f, 0x0⟩,
  ⟨0x18, 1, 0x0, true, 0x0, .same, 0x0, 0xfffffffff, 0x0, 0x0, 0x0, 0x0, 0x0⟩,
  ⟨0x20, 1, 0x0, true, 0x0, .same, 0x0, 0xfffffffff, 0x0, 0x0, 0x0, 0x0, 0x0⟩,
  ⟨0x28, 1, 0x0, true, 0x0, .same, 0x0, 0xfffffffff, 0x0, 0x0, 0x0, 0x0, 0x0⟩,
  ⟨0x30, 1, 0x0, true, 0x0, .same, 0x0, 0xfffffffff, 0x0, 0x0, 0x0, 0x0, 0x0⟩,
  ⟨0x38, 1, 0x0, false, 0x0, .same, 0x0, 0x0, 0x0, 0x0, 0x0, 0x33f, 0x0⟩,
  ⟨0x40, 1, 0x0, false, 0x0, .same, 0xffff, 0x0, 0x0, 0x0, 0x0, 0x0, 0x0⟩,
  ⟨0x44, 1, 0x0, false, 0x0, .same, 0x0, 0x7ffff, 0x0, 0x0, 0x0, 0x0, 0x0⟩,
  ⟨0x48, 1, 0x0, false, 0x0, .same, 0x3, 0x0, 0x0, 0x0, 0x0, 0x0, 0x0⟩,
  ⟨0x50, 1, 0x0, false, 0x0, .same, 0x7, 0x0, 0x0, 0x0, 0x0, 0x0, 0x0⟩,
  ⟨0x54, 1, 0x0, false, 0x0, .same, 0xffff, 0x0, 0x0, 0x0, 0x0, 0x0, 0x0⟩,
  ⟨0x58, 1, 0x0, false, 0x0, .same, 0x0, 0x1, 0x2, 0x0, 0x0, 0x0, 0x0⟩,
  ⟨0x60, 1, 0x0, false, 0x0, .kept, 0x0, 0x0, 0x3fff, 0x0, 0x0, 0x0, 0x0⟩,
  ⟨0x64, 1, 0x0, false, 0x0, .kept, 0x0, 0xffffffff, 0x0, 0x0, 0x0, 0x0, 0x0⟩]

def regRows02a : List RegRow := [
  ⟨0x0, 1, 0x0, false, 0x0, .same, 0x0, 0x3, 0x0, 0x0, 0x0, 0x0, 0x0⟩,
  ⟨0x4, 1, 0x0, false, 0x0, .same, 0x0, 0x0, 0x0, 0x0, 0x0, 0xffff0003, 0x0⟩,
  ⟨0x8, 1, 0x0, false, 0x0, .same, 0x0, 0x7f, 0x0, 0x0, 0x0, 0x0, 0x0⟩,
  ⟨0x10, 1, 0x0, true, 0xfffffe385, .same, 0x0, 0x0, 0x0, 0x0, 0xfffffffff, 0x0, 0x0⟩,
  ⟨0x18, 1, 0x0, false, 0xffffffff, .same, 0x0, 0x0, 0x0, 0x0, 0xffffffff, 0x0, 0x0⟩,
  ⟨0x20, 1, 0x0, true, 0xffffffffffffffff, .same, 0x0, 0x0, 0x0, 0x0, 0xffffffffffffffff, 0x0, 0x0⟩,
  ⟨0x28, 1, 0x0, true, 0xffffffffffffffff, .same, 0x0, 0x0, 0x0, 0x0, 0xffffffffffffffff, 0x0, 0x0⟩,
  ⟨0x30, 1, 0x0, false, 0xffffffff, .same, 0x0, 0x0, 0x0, 0x0, 0xffffffff, 0x0, 0x0⟩,
  ⟨0x34, 1, 0x0, false, 0x3ffc, .same, 0x0, 0x0, 0x0, 0x0, 0x3ffc, 0x0, 0x0⟩,
  ⟨0x40, 1, 0x0, true, 0x0, .same, 0x0, 0x0, 0x0, 0x0, 0xfffffffffc, 0x0, 0x0⟩,
  ⟨0x48, 1, 0x0, true, 0x0, .same, 0x0, 0x0, 0x0, 0x0, 0xfffffffff0, 0x0, 0x0⟩,
  ⟨0x50, 1, 0x0, false, 0x0, .same, 0x0, 0x0, 0x0, 0x0, 0x3fff0, 0x0, 0x0⟩,
  ⟨0x200, 32, 0x20, true, 0x0, .same, 0x0, 0x0, 0x0, 0x0, 0xfffffff000, 0x0, 0x0⟩,
  ⟨0x208, 32, 0x20, true, 0x0, .same, 0x0, 0x0, 0x0, 0x0, 0xfffffff000, 0x0, 0x0⟩,
  ⟨0x210, 32, 0x20, false, 0x0, .same, 0x0, 0x0, 0x0, 0x0, 0x1f0fff, 0x0, 0x0⟩,
  ⟨0x600, 16, 0x4, false, 0x0, .same, 0x0, 0x0, 0x0, 0x0, 0x3ffc, 0x0, 0x0⟩]

def regRows03a : List RegRow := [
  ⟨0x0, 256, 0x4, false, 0x0, .same, 0xe0003fff, 0x0, 0x0, 0x0, 0x0, 0x0, 0x0⟩,
  ⟨0x400, 8, 0x4, false, 0x0, .same, 0x0, 0x0, 0x0, 0xffffffff, 0x0, 0x0, 0x0⟩,
  ⟨0x420, 8, 0x4, false, 0x0, .same, 0x0, 0x0, 0x0, 0x0, 0x0, 0xffffffff, 0x0⟩,
  ⟨0x440, 8, 0x4, false, 0x0, .same, 0x0, 0xffffffff, 0x0, 0x0, 0x0, 0x0, 0x0⟩,
  ⟨0x600, 2, 0x10, false, 0x0, .same, 0x0, 0x1ff, 0x0, 0x0, 0x0, 0x0, 0x0⟩,
  ⟨0x604, 2, 0x10, false, 0x0, .same, 0x0, 0x1ff, 0x0, 0x0, 0x0, 0x0, 0x0⟩,
  ⟨0x608, 2, 0x10, false, 0x0, .same, 0x0, 0x0, 0x0, 0x0, 0x0, 0xff, 0x0⟩,
  ⟨0x700, 1, 0x0, false, 0x0, .same, 0x0, 0xffff, 0x0, 0x0, 0x0, 0x80000000, 0x0⟩,
  ⟨0x704, 1, 0x0, false, 0x0, .same, 0x0, 0x1ffff, 0x0, 0x0, 0x0, 0x0, 0x0⟩]

def regRows04a : List RegRow := [
  ⟨0x0, 64, 0x8, false, 0x0, .same, 0x0, 0x1ff03, 0x0, 0x0, 0x0, 0x80000000, 0x0⟩,
  ⟨0x4, 64, 0x8, false, 0x0, .same, 0x0, 0x1ff03, 0x0, 0x0, 0x0, 0x0, 0x0⟩,
  ⟨0x400, 1, 0x0, false, 0x0, .same, 0x0, 0x0, 0x0, 0x0, 0x0, 0x8000003f, 0x0⟩]

def regRows05a : List RegRow := [
  ⟨0x100, 1, 0x0, true, 0x0, .kept, 0x0, 0xffffffffffffffff, 0x0, 0x0, 0x0, 0x0, 0x0⟩,
  ⟨0x108, 1, 0x0, true, 0x0, .kept, 0xffffffffffffffff, 0x0, 0x0, 0x0, 0x0, 0x0, 0x0⟩,
  ⟨0x110, 1, 0x0, false, 0x0, .kept, 0x0, 0xffffffff, 0x0, 0x0, 0x0, 0x0, 0x0⟩,
  ⟨0x114, 1, 0x0, false, 0x0, .kept, 0x0, 0xffffffff, 0x0, 0x0, 0x0, 0x0, 0x0⟩,
  ⟨0x118, 1, 0x0, false, 0x0, .kept, 0xfff, 0x0, 0x0, 0x0, 0x0, 0x0, 0x0⟩,
  ⟨0x11c, 1, 0x0, false, 0x0, .kept, 0x2, 0x0, 0x0, 0x1, 0x0, 0x0, 0x0⟩,
  ⟨0x120, 4, 0x8, true, 0x0, .kept, 0x0, 0xffffffffffffffff, 0x0, 0x0, 0x0, 0x0, 0x0⟩,
  ⟨0x140, 1, 0x0, true, 0x0, .kept, 0x0, 0xffffffffffffffff, 0x0, 0x0, 0x0, 0x0, 0x0⟩,
  ⟨0x148, 1, 0x0, true, 0x0, .kept, 0xffffffffffffffff, 0x0, 0x0, 0x0, 0x0, 0x0, 0x0⟩,
  ⟨0x150, 1, 0x0, false, 0x0, .kept, 0x0, 0xffffffff, 0x0, 0x0, 0x0, 0x0, 0x0⟩,
  ⟨0x154, 1, 0x0, false, 0x0, .kept, 0x0, 0xffffffff, 0x0, 0x0, 0x0, 0x0, 0x0⟩,
  ⟨0x158, 1, 0x0, false, 0x0, .kept, 0xfff, 0x0, 0x0, 0x0, 0x0, 0x0, 0x0⟩,
  ⟨0x15c, 1, 0x0, false, 0x0, .kept, 0x2, 0x0, 0x0, 0x1, 0x0, 0x0, 0x0⟩,
  ⟨0x160, 4, 0x8, true, 0x0, .kept, 0x0, 0xffffffffffffffff, 0x0, 0x0, 0x0, 0x0, 0x0⟩,
  ⟨0x180, 1, 0x0, true, 0x0, .always, 0x0, 0xffffffffffffffff, 0x0, 0x0, 0x0, 0x0, 0x0⟩,
  ⟨0x188, 1, 0x0, true, 0x0, .always, 0xffffffffffffffff, 0x0, 0x0, 0x0, 0x0, 0x0, 0x0⟩,
  ⟨0x190, 1, 0x0, false, 0x0, .always, 0x0, 0xffffffff, 0x0, 0x0, 0x0, 0x0, 0x0⟩,
  ⟨0x194, 1, 0x0, false, 0x0, .always, 0x0, 0xffffffff, 0x0, 0x0, 0x0, 0x0, 0x0⟩,
  ⟨0x198, 1, 0x0, false, 0x0, .always, 0xfff, 0x0, 0x0, 0x0, 0x0, 0x0, 0x0⟩,
  ⟨0x19c, 1, 0x0, false, 0x0, .always, 0x2, 0x0, 0x0, 0x1, 0x0, 0x0, 0x0⟩,
  ⟨0x1a0, 4, 0x8, true, 0x0, .always, 0x0, 0xffffffffffffffff, 0x0, 0x0, 0x0, 0x0, 0x0⟩]

def regRows06a : List RegRow := [
  ⟨0x0, 1, 0x0, false, 0xff00, .same, 0x0, 0xff7f, 0x0, 0x0, 0x0, 0x0, 0x0⟩,
  ⟨0x4, 1, 0x0, false, 0x0, .same, 0x0, 0x0, 0x0, 0x0, 0x0, 0x0, 0xff80000f⟩,
  ⟨0x8, 1, 0x0, false, 0xffffffff, .same, 0xffffffff, 0x0, 0x0, 0x0, 0x0, 0x0, 0x0⟩,
  ⟨0xc, 1, 0x0, false, 0x2, .same, 0xf, 0x0, 0x0, 0x0, 0x0, 0x0, 0x0⟩,
  ⟨0x10, 1, 0x0, true, 0x0, .same, 0x0, 0x0, 0x0, 0x0, 0x0, 0xffffffff001f000f, 0x0⟩,
  ⟨0x18, 1, 0x0, false, 0x0, .same, 0x0, 0xff, 0x0, 0x0, 0x0, 0x0, 0x0⟩,
  ⟨0x40, 8, 0x8, true, 0x0, .same, 0x0, 0x0, 0x0, 0x0, 0x0, 0xffffffffffffffff, 0x0⟩,
  ⟨0x100, 32, 0x4, false, 0x0, .same, 0x0, 0xffff30ff, 0x0, 0x0, 0x0, 0x0, 0x0⟩,
  ⟨0x200, 8, 0x4, false, 0xff, .same, 0x0, 0x1ff, 0x0, 0x0, 0x0, 0x0, 0x0⟩,
  ⟨0x400, 64, 0x8, true, 0x0, .same, 0x0, 0xffffffffffffffff, 0x0, 0x0, 0x0, 0x0, 0x0⟩,
  ⟨0x1000, 8, 0x100, false, 0x0, .same, 0x0, 0x0, 0x0, 0x0, 0x0, 0x3f, 0x0⟩,
  ⟨0x1004, 8, 0x100, false, 0x0, .same, 0x0, 0xffffffff, 0x0, 0x0, 0x0, 0x0, 0x0⟩,
  ⟨0x1008, 8, 0x100, false, 0x0, .same, 0x0, 0x3ff, 0x0, 0x0, 0x0, 0x0, 0x0⟩,
  ⟨0x100c, 8, 0x100, false, 0x0, .same, 0xff1ff9ff, 0x0, 0x0, 0x0, 0x0, 0x0, 0x0⟩,
  ⟨0x1010, 8, 0x100, true, 0x0, .same, 0xffffffffff, 0x0, 0x0, 0x0, 0x0, 0x0, 0x0⟩,
  ⟨0x1018, 8, 0x100, true, 0x0, .same, 0xffffffffff, 0x0, 0x0, 0x0, 0x0, 0x0, 0x0⟩,
  ⟨0x1020, 8, 0x100, true, 0x0, .same, 0xffffffffffff, 0x0, 0x0, 0x0, 0x0, 0x0, 0x0⟩,
  ⟨0x1028, 8, 0x100, true, 0x0, .same, 0xffffffffff, 0x0, 0x0, 0x0, 0x0, 0x0, 0x0⟩,
  ⟨0x1030, 8, 0x100, true, 0x0, .same, 0x0, 0xffffffffffff, 0x0, 0x0, 0x0, 0x0, 0x0⟩,
  ⟨0x1038, 8, 0x100, true, 0x0, .same, 0xffffffffffffffff, 0x0, 0x0, 0x0, 0x0, 0x0, 0x0⟩,
  ⟨0x2000, 32, 0x4, false, 0x0, .same, 0x0, 0xffffffff, 0x0, 0x0, 0x0, 0x0, 0x0⟩,
  ⟨0x2080, 1, 0x0, false, 0x0, .same, 0x0, 0xffffffff, 0x0, 0x0, 0x0, 0x0, 0x0⟩,
  ⟨0x2084, 1, 0x0, false, 0x0, .same, 0x0, 0xffffffff, 0x0, 0x0, 0x0, 0x0, 0x0⟩,
  ⟨0x2088, 1, 0x0, true, 0x0, .same, 0x0, 0xffffffffc0, 0x0, 0x0, 0x0, 0x0, 0x0⟩,
  ⟨0x2090, 1, 0x0, false, 0x0, .same, 0x0, 0x0, 0x0, 0x0, 0x0, 0x11f, 0x0⟩,
  ⟨0x2100, 32, 0x8, true, 0x0, .same, 0x0, 0x0, 0x0, 0x0, 0xfffffff000, 0x0, 0x0⟩,
  ⟨0x3000, 1, 0x0, false, 0x0, .same, 0x0, 0x0, 0x0, 0x0, 0x0, 0x3f0f07, 0x0⟩,
  ⟨0x3004, 1, 0x0, false, 0x0, .same, 0x0, 0x1ff, 0x0, 0x0, 0x0, 0x0, 0x0⟩,
  ⟨0x3008, 1, 0x0, true, 0x0, .same, 0xffffffffff, 0x0, 0x0, 0x0, 0x0, 0x0, 0x0⟩,
  ⟨0x3010, 1, 0x0, true, 0x0, .same, 0x0, 0xffffffffffffffff, 0x0, 0x0, 0x0, 0x0, 0x0⟩]

def regRows07a : List RegRow := [
  ⟨0x0, 1, 0x0, false, 0x0, .same, 0x0, 0x1ff, 0x0, 0x0, 0x0, 0x0, 0x0⟩,
  ⟨0x4, 1, 0x0, false, 0x0, .same, 0x0, 0x0, 0x0, 0x0, 0x0, 0xff0f, 0x0⟩,
  ⟨0x8, 1, 0x0, false, 0x0, .same, 0x3fff8, 0x0, 0x0, 0x0, 0x0, 0x0, 0x0⟩,
  ⟨0xc, 1, 0x0, false, 0x0, .same, 0x1ff, 0x0, 0x0, 0x0, 0x0, 0x0, 0x0⟩,
  ⟨0x10, 1, 0x0, false, 0x0, .same, 0x0, 0xffffffff, 0x0, 0x0, 0x0, 0x0, 0x0⟩,
  ⟨0x100, 32, 0x8, true, 0x0, .same, 0x0, 0x0, 0x0, 0x0, 0x0, 0xffffffffffffffff, 0x0⟩]

def regRows08a : List RegRow := [
  ⟨0x0, 1, 0x0, false, 0x0, .same, 0x0, 0xb, 0x4, 0x0, 0x0, 0x0, 0x0⟩,
  ⟨0x8, 1, 0x0, true, 0x0, .same, 0x0, 0x0, 0x0, 0x0, 0x0, 0x0, 0xffffffffffffffff⟩,
  ⟨0x10, 1, 0x0, false, 0x0, .kept, 0x0, 0xffffffff, 0x0, 0x0, 0x0, 0x0, 0x0⟩]

def regRows09a : List RegRow := [
  ⟨0x0, 1, 0x0, false, 0x0, .kept, 0x307, 0x0, 0x0, 0x0, 0x0, 0x0, 0x0⟩,
  ⟨0x4, 1, 0x0, false, 0x0, .kept, 0x0, 0x3, 0x0, 0x0, 0x0, 0x0, 0x0⟩,
  ⟨0x8, 1, 0x0, true, 0x0, .same, 0x0, 0xffffffffffffffff, 0x0, 0x0, 0x0, 0x0, 0x0⟩,
  ⟨0x10, 1, 0x0, false, 0x0, .same, 0x0, 0xffffffff, 0x0, 0x0, 0x0, 0x0, 0x0⟩,
  ⟨0x18, 1, 0x0, true, 0x140000000, .kept, 0x0, 0xffffffffff, 0x0, 0x0, 0x0, 0x0, 0x0⟩,
  ⟨0x20, 1, 0x0, true, 0x0, .kept, 0xffffffffff, 0x0, 0x0, 0x0, 0x0, 0x0, 0x0⟩,
  ⟨0x28, 1, 0x0, true, 0x0, .kept, 0xffffffffffffffff, 0x0, 0x0, 0x0, 0x0, 0x0, 0x0⟩,
  ⟨0x30, 1, 0x0, false, 0x0, .kept, 0x0, 0xffffffff, 0x0, 0x0, 0x0, 0x0, 0x0⟩,
  ⟨0x38, 1, 0x0, true, 0x0, .same, 0x0, 0x0, 0x0, 0x0, 0x0, 0xffffffffffffffff, 0x0⟩,
  ⟨0x40, 1, 0x0, false, 0x640401, .kept, 0xffff0f0f, 0x0, 0x0, 0x0, 0x0, 0x0, 0x0⟩,
  ⟨0x44, 1, 0x0, false, 0x3e8, .kept, 0xffff, 0x0, 0x0, 0x0, 0x0, 0x0, 0x0⟩,
  ⟨0x48, 1, 0x0, false, 0x7d0, .kept, 0xffff, 0x0, 0x0, 0x0, 0x0, 0x0, 0x0⟩,
  ⟨0x50, 1, 0x0, true, 0x0, .kept, 0xffffffffffffffff, 0x0, 0x0, 0x0, 0x0, 0x0, 0x0⟩,
  ⟨0x58, 1, 0x0, true, 0x0, .kept, 0x0, 0xffffffffffffffff, 0x0, 0x0, 0x0, 0x0, 0x0⟩,
  ⟨0x60, 1, 0x0, true, 0x0, .same, 0xffffffffffffffff, 0x0, 0x0, 0x0, 0x0, 0x0, 0x0⟩,
  ⟨0x68, 1, 0x0, false, 0x0, .same, 0x1, 0x0, 0x0, 0x0, 0x0, 0x0, 0x0⟩,
  ⟨0x6c, 1, 0x0, false, 0x0, .kept, 0x0, 0xffffffff, 0x0, 0x0, 0x0, 0x0, 0x0⟩]

def regRows0Aa : List RegRow := [
  ⟨0x0, 1, 0x0, false, 0x1, .same, 0x1, 0x0, 0x0, 0x0, 0x0, 0x0, 0x0⟩,
  ⟨0x4, 1, 0x0, false, 0x0, .kept, 0x0, 0x107ff, 0x0, 0x0, 0x0, 0x0, 0x0⟩,
  ⟨0x10, 4, 0x4, false, 0x0, .kept, 0xffff, 0x0, 0x0, 0x0, 0x0, 0x0, 0x0⟩,
  ⟨0x20, 1, 0x0, true, 0xffffffffffffffff, .kept, 0xffffffffffffffff, 0x0, 0x0, 0x0, 0x0, 0x0, 0x0⟩,
  ⟨0x100, 32, 0x80, false, 0x0, .kept, 0xf1f, 0x0, 0x0, 0x0, 0x0, 0x0, 0x0⟩,
  ⟨0x108, 32, 0x80, true, 0x0, .kept, 0xffffffffc0, 0x0, 0x0, 0x0, 0x0, 0x0, 0x0⟩,
  ⟨0x110, 32, 0x80, true, 0x0, .kept, 0xffffffffe0, 0x0, 0x0, 0x0, 0x0, 0x0, 0x0⟩,
  ⟨0x118, 32, 0x80, true, 0x0, .kept, 0xfffffff000, 0x0, 0x0, 0x0, 0x0, 0x0, 0x0⟩,
  ⟨0x120, 32, 0x80, false, 0xc00, .kept, 0x1f07, 0x0, 0x0, 0x0, 0x0, 0x0, 0x0⟩,
  ⟨0x124, 32, 0x80, false, 0x0, .kept, 0x3ffc, 0x0, 0x0, 0x0, 0x0, 0x0, 0x0⟩,
  ⟨0x12c, 32, 0x80, false, 0x0, .kept, 0x0, 0x1ffffff, 0x0, 0x0, 0x0, 0x0, 0x0⟩,
  ⟨0x130, 32, 0x80, true, 0x0, .kept, 0xffffffffffffffff, 0x0, 0x0, 0x0, 0x0, 0x0, 0x0⟩,
  ⟨0x138, 32, 0x80, true, 0x0, .kept, 0x0, 0xffffffffffffffff, 0x0, 0x0, 0x0, 0x0, 0x0⟩,
  ⟨0x140, 32, 0x80, true, 0x0, .kept, 0xfffffff800, 0x0, 0x0, 0x0, 0x0, 0x0, 0x0⟩,
  ⟨0x148, 32, 0x80, true, 0x0, .kept, 0xfffffff800, 0x0, 0x0, 0x0, 0x0, 0x0, 0x0⟩,
  ⟨0x150, 32, 0x80, false, 0x0, .kept, 0x0, 0xffffffff, 0x0, 0x0, 0x0, 0x0, 0x0⟩,
  ⟨0x154, 32, 0x80, false, 0x2, .kept, 0x0, 0x2, 0x5, 0x0, 0x0, 0x0, 0x0⟩,
  ⟨0x128, 32, 0x80, false, 0x0, .same, 0x0, 0x0, 0x0, 0x0, 0x0, 0x1ff, 0x0⟩,
  ⟨0x2000, 64, 0x80, false, 0x0, .kept, 0x1f1f3f3f, 0x0, 0x0, 0x0, 0x0, 0x0, 0x0⟩,
  ⟨0x2004, 64, 0x80, false, 0x0, .kept, 0xfffffff, 0x0, 0x0, 0x0, 0x0, 0x0, 0x0⟩,
  ⟨0x2008, 64, 0x80, false, 0x0, .kept, 0xfff0fff, 0x0, 0x0, 0x0, 0x0, 0x0, 0x0⟩,
  ⟨0x200c, 64, 0x80, false, 0x0, .kept, 0x3fff8, 0x0, 0x0, 0x0, 0x0, 0x0, 0x0⟩,
  ⟨0x2010, 64, 0x80, true, 0x0, .kept, 0xfffffffffc, 0x0, 0x0, 0x0, 0x0, 0x0, 0x0⟩,
  ⟨0x2018, 64, 0x80, true, 0x0, .kept, 0xffffffffc0, 0x0, 0x0, 0x0, 0x0, 0x0, 0x0⟩,
  ⟨0x2020, 64, 0x80, true, 0x0, .kept, 0xffffffffc0, 0x0, 0x0, 0x0, 0x0, 0x0, 0x0⟩,
  ⟨0x2028, 64, 0x80, true, 0x0, .kept, 0xffffffffffffffff, 0x0, 0x0, 0x0, 0x0, 0x0, 0x0⟩,
  ⟨0x2030, 64, 0x80, false, 0x0, .kept, 0x0, 0xff0f07, 0x3000, 0x0, 0x0, 0x0, 0x0⟩,
  ⟨0x2038, 64, 0x80, true, 0x0, .kept, 0x0, 0xffffffffffffff, 0x0, 0x0, 0x0, 0x0, 0x0⟩,
  ⟨0x2040, 64, 0x80, false, 0x0, .kept, 0x0, 0xffffffff, 0x0, 0x0, 0x0, 0x0, 0x0⟩,
  ⟨0x2044, 64, 0x80, false, 0x0, .kept, 0x0, 0xffffffff, 0x0, 0x0, 0x0, 0x0, 0x0⟩,
  ⟨0x2048, 64, 0x80, false, 0x0, .kept, 0x0, 0xffffffff, 0x0, 0x0, 0x0, 0x0, 0x0⟩,
  ⟨0x2050, 64, 0x80, true, 0x0, .kept, 0x0, 0xffffffffffffffff, 0x0, 0x0, 0x0, 0x0, 0x0⟩,
  ⟨0x4000, 2, 0x40, true, 0x0, .same, 0xffffffffffffffff, 0x0, 0x0, 0x0, 0x0, 0x0, 0x0⟩,
  ⟨0x4008, 2, 0x40, true, 0x0, .same, 0xffffffffffffffff, 0x0, 0x0, 0x0, 0x0, 0x0, 0x0⟩,
  ⟨0x4010, 2, 0x40, true, 0x0, .same, 0xffffffffffffffff, 0x0, 0x0, 0x0, 0x0, 0x0, 0x0⟩,
  ⟨0x4018, 2, 0x40, false, 0x0, .same, 0x0, 0x0, 0x0, 0x0, 0x0, 0x1, 0x0⟩,
  ⟨0x401c, 2, 0x40, false, 0x0, .same, 0x0, 0xff07, 0x0, 0x0, 0x0, 0x0, 0x0⟩]

def regRows0Ba : List RegRow := [
  ⟨0x100, 64, 0x40, false, 0x0, .same, 0x7ffff3f, 0x0, 0x0, 0x0, 0x0, 0x0, 0x0⟩,
  ⟨0x104, 64, 0x40, false, 0x0, .same, 0xfff8, 0x0, 0x0, 0x0, 0x0, 0x0, 0x0⟩,
  ⟨0x108, 64, 0x40, false, 0x0, .same, 0x0, 0xfff0fff, 0x0, 0x0, 0x0, 0x0, 0x0⟩,
  ⟨0x10c, 64, 0x40, false, 0x0, .same, 0xfff, 0x0, 0x0, 0x0, 0x0, 0x0, 0x0⟩,
  ⟨0x110, 64, 0x40, false, 0x0, .same, 0x0, 0x10, 0x6f, 0x0, 0x0, 0x0, 0x0⟩,
  ⟨0x114, 64, 0x40, false, 0x0, .same, 0x0, 0x0, 0xffffffff, 0x0, 0x0, 0x0, 0x0⟩,
  ⟨0x118, 64, 0x40, false, 0x0, .same, 0x0, 0x0, 0xffffffff, 0x0, 0x0, 0x0, 0x0⟩,
  ⟨0x11c, 64, 0x40, false, 0xc, .same, 0x1f, 0x0, 0x0, 0x0, 0x0, 0x0, 0x0⟩,
  ⟨0x120, 64, 0x40, false, 0x0, .same, 0x0, 0xffffffff, 0x0, 0x0, 0x0, 0x0, 0x0⟩,
  ⟨0x124, 64, 0x40, false, 0x0, .same, 0x0, 0x1, 0x0, 0x0, 0x0, 0x0, 0x0⟩,
  ⟨0x128, 64, 0x40, true, 0x0, .same, 0x0, 0x0, 0x0, 0x0, 0x0, 0xffffffffffffffff, 0x0⟩,
  ⟨0x130, 64, 0x40, true, 0x0, .same, 0x0, 0xffffffffffffffff, 0x0, 0x0, 0x0, 0x0, 0x0⟩,
  ⟨0x138, 64, 0x40, true, 0x0, .same, 0x0, 0xffffffffffffffff, 0x0, 0x0, 0x0, 0x0, 0x0⟩]

def regRows0Ca : List RegRow := [
  ⟨0x0, 1, 0x0, false, 0x0, .same, 0x0, 0x3f, 0x0, 0x0, 0x0, 0x0, 0x0⟩,
  ⟨0x100, 32, 0x20, true, 0x0, .same, 0x0, 0x0, 0x0, 0x0, 0x0, 0xffffffffc0, 0x0⟩,
  ⟨0x108, 32, 0x20, false, 0x0, .same, 0x0, 0xff00ff1f, 0x20, 0x0, 0x0, 0x0, 0x0⟩,
  ⟨0x10c, 32, 0x20, false, 0x1, .same, 0x1, 0x0, 0x0, 0x0, 0x0, 0x2, 0x0⟩,
  ⟨0x110, 32, 0x20, false, 0x0, .same, 0x0, 0xffffffff, 0x0, 0x0, 0x0, 0x0, 0x0⟩,
  ⟨0x800, 16, 0x4, false, 0x0, .same, 0x0, 0x0, 0xffffffff, 0x0, 0x0, 0x0, 0x0⟩,
  ⟨0x900, 96, 0x4, false, 0x0, .same, 0x0, 0x0, 0xffffffff, 0x0, 0x0, 0x0, 0x0⟩,
  ⟨0xc00, 1, 0x0, true, 0x0, .same, 0x0, 0xfffffffffff8, 0x0, 0x0, 0x0, 0x0, 0x0⟩,
  ⟨0xc08, 1, 0x0, false, 0x0, .same, 0x0, 0xffffffff, 0x0, 0x0, 0x0, 0x0, 0x0⟩]

def regRows0Da : List RegRow := [
  ⟨0x0, 1, 0x0, true, 0x0, .same, 0xffffffffffff, 0x0, 0x0, 0x0, 0x0, 0x0, 0x0⟩,
  ⟨0x8, 1, 0x0, false, 0xe4, .same, 0xff, 0x0, 0x0, 0x0, 0x0, 0x0, 0x0⟩,
  ⟨0xc, 1, 0x0, false, 0x0, .same, 0xff00, 0x0, 0x1, 0x0, 0x0, 0x0, 0x0⟩,
  ⟨0x100, 4, 0x40, false, 0x0, .same, 0x1b, 0x0, 0x0, 0x4, 0x0, 0x0, 0x0⟩,
  ⟨0x104, 4, 0x40, false, 0x0, .same, 0x3f3f3f, 0x0, 0x0, 0x0, 0x0, 0x0, 0x0⟩,
  ⟨0x108, 4, 0x40, false, 0x0, .same, 0x1f3f1f3f, 0x0, 0x0, 0x0, 0x0, 0x0, 0x0⟩,
  ⟨0x10c, 4, 0x40, false, 0x10000, .same, 0xffffff03, 0x0, 0x0, 0x0, 0x0, 0x0, 0x0⟩,
  ⟨0x110, 4, 0x40, false, 0x1f1f, .same, 0x1f1f, 0x0, 0x0, 0x0, 0x0, 0x0, 0x0⟩,
  ⟨0x114, 4, 0x40, false, 0x0, .same, 0x0, 0xf0073f, 0x30000, 0x0, 0x0, 0x0, 0x0⟩,
  ⟨0x118, 4, 0x40, false, 0x0, .same, 0x0, 0xffffffff, 0x0, 0x0, 0x0, 0x0, 0x0⟩,
  ⟨0x11c, 4, 0x40, false, 0x0, .same, 0x0, 0xffffffff, 0x0, 0x0, 0x0, 0x0, 0x0⟩,
  ⟨0x120, 4, 0x40, false, 0x0, .same, 0x0, 0x3f3f, 0x0, 0x0, 0x0, 0x0, 0x0⟩,
  ⟨0x124, 4, 0x40, false, 0x0, .same, 0x0, 0xffffffff, 0x0, 0x0, 0x0, 0x0, 0x0⟩,
  ⟨0x128, 4, 0x40, false, 0x0, .same, 0x0, 0xffffffff, 0x0, 0x0, 0x0, 0x0, 0x0⟩,
  ⟨0x130, 4, 0x40, true, 0x0, .same, 0xffffffffffffffff, 0x0, 0x0, 0x0, 0x0, 0x0, 0x0⟩,
  ⟨0x138, 4, 0x40, false, 0x0, .same, 0xffffffff, 0x0, 0x0, 0x0, 0x0, 0x0, 0x0⟩,
  ⟨0x400, 64, 0x4, false, 0x0, .same, 0xffffff, 0x0, 0x0, 0x0, 0x0, 0x0, 0x0⟩]

def regRows0Ea : List RegRow := [
  ⟨0x0, 1, 0x0, true, 0x0, .same, 0xffffffffffff, 0x0, 0x0, 0x0, 0x0, 0x0, 0x0⟩,
  ⟨0x8, 1, 0x0, false, 0xe4, .same, 0xff, 0x0, 0x0, 0x0, 0x0, 0x0, 0x0⟩,
  ⟨0xc, 1, 0x0, false, 0x0, .same, 0xff00, 0x0, 0x1, 0x0, 0x0, 0x0, 0x0⟩,
  ⟨0x100, 4, 0x40, false, 0x0, .same, 0x1b, 0x0, 0x0, 0x4, 0x0, 0x0, 0x0⟩,
  ⟨0x104, 4, 0x40, false, 0x0, .same, 0x3f3f3f, 0x0, 0x0, 0x0, 0x0, 0x0, 0x0⟩,
  ⟨0x108, 4, 0x40, false, 0x0, .same, 0x1f3f1f3f, 0x0, 0x0, 0x0, 0x0, 0x0, 0x0⟩,
  ⟨0x10c, 4, 0x40, false, 0x10000, .same, 0xffffff03, 0x0, 0x0, 0x0, 0x0, 0x0, 0x0⟩,
  ⟨0x110, 4, 0x40, false, 0x1f1f, .same, 0x1f1f, 0x0, 0x0, 0x0, 0x0, 0x0, 0x0⟩,
  ⟨0x114, 4, 0x40, false, 0x0, .same, 0x0, 0xf0073f, 0x30000, 0x0, 0x0, 0x0, 0x0⟩,
  ⟨0x118, 4, 0x40, false, 0x0, .same, 0x0, 0xffffffff, 0x0, 0x0, 0x0, 0x0, 0x0⟩,
  ⟨0x11c, 4, 0x40, false, 0x0, .same, 0x0, 0xffffffff, 0x0, 0x0, 0x0, 0x0, 0x0⟩,
  ⟨0x120, 4, 0x40, false, 0x0, .same, 0x0, 0x3f3f, 0x0, 0x0, 0x0, 0x0, 0x0⟩,
  ⟨0x124, 4, 0x40, false, 0x0, .same, 0x0, 0xffffffff, 0x0, 0x0, 0x0, 0x0, 0x0⟩,
  ⟨0x128, 4, 0x40, false, 0x0, .same, 0x0, 0xffffffff, 0x0, 0x0, 0x0, 0x0, 0x0⟩,
  ⟨0x130, 4, 0x40, true, 0x0, .same, 0xffffffffffffffff, 0x0, 0x0, 0x0, 0x0, 0x0, 0x0⟩,
  ⟨0x138, 4, 0x40, false, 0x0, .same, 0xffffffff, 0x0, 0x0, 0x0, 0x0, 0x0, 0x0⟩,
  ⟨0x400, 64, 0x4, false, 0x0, .same, 0xffffff, 0x0, 0x0, 0x0, 0x0, 0x0, 0x0⟩]

def regRows0Fa : List RegRow := [
  ⟨0x0, 1, 0x0, true, 0x0, .same, 0xffffffffffff, 0x0, 0x0, 0x0, 0x0, 0x0, 0x0⟩,
  ⟨0x8, 1, 0x0, false, 0xe4, .same, 0xff, 0x0, 0x0, 0x0, 0x0, 0x0, 0x0⟩,
  ⟨0xc, 1, 0x0, false, 0x0, .same, 0xff00, 0x0, 0x1, 0x0, 0x0, 0x0, 0x0⟩,
  ⟨0x100, 4, 0x40, false, 0x0, .same, 0x1b, 0x0, 0x0, 0x4, 0x0, 0x0, 0x0⟩,
  ⟨0x104, 4, 0x40, false, 0x0, .same, 0x3f3f3f, 0x0, 0x0, 0x0, 0x0, 0x0, 0x0⟩,
  ⟨0x108, 4, 0x40, false, 0x0, .same, 0x1f3f1f3f, 0x0, 0x0, 0x0, 0x0, 0x0, 0x0⟩,
  ⟨0x10c, 4, 0x40, false, 0x10000, .same, 0xffffff03, 0x0, 0x0, 0x0, 0x0, 0x0, 0x0⟩,
  ⟨0x110, 4, 0x40, false, 0x1f1f, .same, 0x1f1f, 0x0, 0x0, 0x0, 0x0, 0x0, 0x0⟩,
  ⟨0x114, 4, 0x40, false, 0x0, .same, 0x0, 0xf0073f, 0x30000, 0x0, 0x0, 0x0, 0x0⟩,
  ⟨0x118, 4, 0x40, false, 0x0, .same, 0x0, 0xffffffff, 0x0, 0x0, 0x0, 0x0, 0x0⟩,
  ⟨0x11c, 4, 0x40, false, 0x0, .same, 0x0, 0xffffffff, 0x0, 0x0, 0x0, 0x0, 0x0⟩,
  ⟨0x120, 4, 0x40, false, 0x0, .same, 0x0, 0x3f3f, 0x0, 0x0, 0x0, 0x0, 0x0⟩,
  ⟨0x124, 4, 0x40, false, 0x0, .same, 0x0, 0xffffffff, 0x0, 0x0, 0x0, 0x0, 0x0⟩,
  ⟨0x128, 4, 0x40, false, 0x0, .same, 0x0, 0xffffffff, 0x0, 0x0, 0x0, 0x0, 0x0⟩,
  ⟨0x130, 4, 0x40, true, 0x0, .same, 0xffffffffffffffff, 0x0, 0x0, 0x0, 0x0, 0x0, 0x0⟩,
  ⟨0x138, 4, 0x40, false, 0x0, .same, 0xffffffff, 0x0, 0x0, 0x0, 0x0, 0x0, 0x0⟩,
  ⟨0x400, 64, 0x4, false, 0x0, .same, 0xffffff, 0x0, 0x0, 0x0, 0x0, 0x0, 0x0⟩]

def regRows10a : List RegRow := [
  ⟨0x0, 1, 0x0, true, 0x0, .same, 0xffffffffffff, 0x0, 0x0, 0x0, 0x0, 0x0, 0x0⟩,
  ⟨0x8, 1, 0x0, false, 0xe4, .same, 0xff, 0x0, 0x0, 0x0, 0x0, 0x0, 0x0⟩,
  ⟨0xc, 1, 0x0, false, 0x0, .same, 0xff00, 0x0, 0x1, 0x0, 0x0, 0x0, 0x0⟩,
  ⟨0x100, 4, 0x40, false, 0x0, .same, 0x1b, 0x0, 0x0, 0x4, 0x0, 0x0, 0x0⟩,
  ⟨0x104, 4, 0x40, false, 0x0, .same, 0x3f3f3f, 0x0, 0x0, 0x0, 0x0, 0x0, 0x0⟩,
  ⟨0x108, 4, 0x40, false, 0x0, .same, 0x1f3f1f3f, 0x0, 0x0, 0x0, 0x0, 0x0, 0x0⟩,
  ⟨0x10c, 4, 0x40, false, 0x10000, .same, 0xffffff03, 0x0, 0x0, 0x0, 0x0, 0x0, 0x0⟩,
  ⟨0x110, 4, 0x40, false, 0x1f1f, .same, 0x1f1f, 0x0, 0x0, 0x0, 0x0, 0x0, 0x0⟩,
  ⟨0x114, 4, 0x40, false, 0x0, .same, 0x0, 0xf0073f, 0x30000, 0x0, 0x0, 0x0, 0x0⟩,
  ⟨0x118, 4, 0x40, false, 0x0, .same, 0x0, 0xffffffff, 0x0, 0x0, 0x0, 0x0, 0x0⟩,
  ⟨0x11c, 4, 0x40, false, 0x0, .same, 0x0, 0xffffffff, 0x0, 0x0, 0x0, 0x0, 0x0⟩,
  ⟨0x120, 4, 0x40, false, 0x0, .same, 0x0, 0x3f3f, 0x0, 0x0, 0x0, 0x0, 0x0⟩,
  ⟨0x124, 4, 0x40, false, 0x0, .same, 0x0, 0xffffffff, 0x0, 0x0, 0x0, 0x0, 0x0⟩,
  ⟨0x128, 4, 0x40, false, 0x0, .same, 0x0, 0xffffffff, 0x0, 0x0, 0x0, 0x0, 0x0⟩,
  ⟨0x130, 4, 0x40, true, 0x0, .same, 0xffffffffffffffff, 0x0, 0x0, 0x0, 0x0, 0x0, 0x0⟩,
  ⟨0x138, 4, 0x40, false, 0x0, .same, 0xffffffff, 0x0, 0x0, 0x0, 0x0, 0x0, 0x0⟩,
  ⟨0x400, 64, 0x4, false, 0x0, .same, 0xffffff, 0x0, 0x0, 0x0, 0x0, 0x0, 0x0⟩]

def regRows11a : List RegRow := [
  ⟨0x0, 48, 0x4, false, 0x0, .same, 0x7, 0x0, 0x0, 0x0, 0x0, 0x0, 0x0⟩,
  ⟨0x100, 1, 0x0, true, 0x0, .same, 0xffffffffffff, 0x0, 0x0, 0x0, 0x0, 0x0, 0x0⟩,
  ⟨0x108, 1, 0x0, true, 0x0, .same, 0xffffffffffff, 0x0, 0x0, 0x0, 0x0, 0x0, 0x0⟩,
  ⟨0x110, 1, 0x0, true, 0x0, .same, 0x0, 0xffffffffffff, 0x0, 0x0, 0x0, 0x0, 0x0⟩,
  ⟨0x200, 48, 0x4, false, 0x0, .same, 0x3, 0x0, 0x0, 0x0, 0x0, 0x0, 0x0⟩,
  ⟨0x300, 1, 0x0, true, 0x0, .same, 0x0, 0x0, 0xffffffffffff, 0x0, 0x0, 0x0, 0x0⟩]

def regRows12a : List RegRow := [
  ⟨0x0, 1, 0x0, false, 0x0, .same, 0x333, 0x0, 0x30000, 0x0, 0x0, 0x0, 0x0⟩,
  ⟨0x4, 1, 0x0, false, 0x4000000, .same, 0xffff0073, 0x0, 0x0, 0x0, 0x0, 0x0, 0x0⟩,
  ⟨0x100, 8, 0x20, false, 0x1000000, .same, 0xff3fffff, 0x0, 0x0, 0x0, 0x0, 0x0, 0x0⟩,
  ⟨0x104, 8, 0x20, false, 0x3, .same, 0xffffffff, 0x0, 0x0, 0x0, 0x0, 0x0, 0x0⟩,
  ⟨0x108, 8, 0x20, false, 0x3, .same, 0xffffffff, 0x0, 0x0, 0x0, 0x0, 0x0, 0x0⟩,
  ⟨0x10c, 8, 0x20, false, 0x0, .same, 0x0, 0x1, 0xe, 0x0, 0x0, 0x0, 0x0⟩,
  ⟨0x110, 8, 0x20, false, 0x0, .same, 0xe, 0x0, 0x0, 0x0, 0x0, 0x0, 0x0⟩,
  ⟨0x114, 8, 0x20, false, 0x0, .same, 0x0, 0xffffffff, 0x0, 0x0, 0x0, 0x0, 0x0⟩]

def regRows13a : List RegRow := [
  ⟨0x100, 4, 0x80, false, 0x810, .same, 0x7fff1f, 0x0, 0x0, 0x20, 0x0, 0x0, 0x0⟩,
  ⟨0x104, 4, 0x80, false, 0x0, .same, 0x0, 0x8073, 0x7f00, 0x0, 0x0, 0x0, 0x0⟩,
  ⟨0x108, 4, 0x80, false, 0x0, .same, 0x0, 0xffffff, 0x0, 0x0, 0x0, 0x0, 0x0⟩,
  ⟨0x10c, 4, 0x80, false, 0x0, .same, 0x0, 0xffffffff, 0x0, 0x0, 0x0, 0x0, 0x0⟩,
  ⟨0x110, 4, 0x80, false, 0x0, .same, 0x0, 0xffffffff, 0x0, 0x0, 0x0, 0x0, 0x0⟩,
  ⟨0x114, 4, 0x80, false, 0x0, .same, 0x0, 0xffffffff, 0x0, 0x0, 0x0, 0x0, 0x0⟩,
  ⟨0x118, 4, 0x80, false, 0x0, .same, 0x0, 0xffffffff, 0x0, 0x0, 0x0, 0x0, 0x0⟩,
  ⟨0x11c, 4, 0x80, false, 0x0, .same, 0x0, 0xffffffff, 0x0, 0x0, 0x0, 0x0, 0x0⟩,
  ⟨0x120, 4, 0x80, false, 0x0, .same, 0x0, 0xffffffff, 0x0, 0x0, 0x0, 0x0, 0x0⟩,
  ⟨0x140, 4, 0x80, false, 0x0, .same, 0x0, 0xffffffff, 0x0, 0x0, 0x0, 0x0, 0x0⟩,
  ⟨0x158, 4, 0x80, false, 0x0, .same, 0x0, 0xffffffff, 0x0, 0x0, 0x0, 0x0, 0x0⟩,
  ⟨0x144, 4, 0x80, false, 0x0, .same, 0x0, 0xffffffff, 0x0, 0x0, 0x0, 0x0, 0x0⟩,
  ⟨0x15c, 4, 0x80, false, 0x0, .same, 0x0, 0xffffffff, 0x0, 0x0, 0x0, 0x0, 0x0⟩,
  ⟨0x148, 4, 0x80, false, 0x0, .same, 0x0, 0xffffffff, 0x0, 0x0, 0x0, 0x0, 0x0⟩,
  ⟨0x160, 4, 0x80, false, 0x0, .same, 0x0, 0xffffffff, 0x0, 0x0, 0x0, 0x0, 0x0⟩,
  ⟨0x14c, 4, 0x80, false, 0x0, .same, 0x0, 0xffffffff, 0x0, 0x0, 0x0, 0x0, 0x0⟩,
  ⟨0x164, 4, 0x80, false, 0x0, .same, 0x0, 0xffffffff, 0x0, 0x0, 0x0, 0x0, 0x0⟩,
  ⟨0x150, 4, 0x80, false, 0x0, .same, 0x0, 0xffffffff, 0x0, 0x0, 0x0, 0x0, 0x0⟩,
  ⟨0x168, 4, 0x80, false, 0x0, .same, 0x0, 0xffffffff, 0x0, 0x0, 0x0, 0x0, 0x0⟩,
  ⟨0x154, 4, 0x80, false, 0x0, .same, 0x0, 0xffffffff, 0x0, 0x0, 0x0, 0x0, 0x0⟩,
  ⟨0x16c, 4, 0x80, false, 0x0, .same, 0x0, 0xffffffff, 0x0, 0x0, 0x0, 0x0, 0x0⟩,
  ⟨0x400, 4, 0x80, false, 0x20, .same, 0xff, 0x0, 0x0, 0x100, 0x0, 0x0, 0x0⟩,
  ⟨0x404, 4, 0x80, false, 0x0, .same, 0x0, 0x5, 0x2, 0x0, 0x0, 0x0, 0x0⟩,
  ⟨0x440, 4, 0x80, false, 0x0, .same, 0xffffffff, 0x0, 0x0, 0x0, 0x0, 0x0, 0x0⟩,
  ⟨0x458, 4, 0x80, false, 0x0, .same, 0xffffffff, 0x0, 0x0, 0x0, 0x0, 0x0, 0x0⟩,
  ⟨0x444, 4, 0x80, false, 0x0, .same, 0xffffffff, 0x0, 0x0, 0x0, 0x0, 0x0, 0x0⟩,
  ⟨0x45c, 4, 0x80, false, 0x0, .same, 0xffffffff, 0x0, 0x0, 0x0, 0x0, 0x0, 0x0⟩,
  ⟨0x448, 4, 0x80, false, 0x0, .same, 0xffffffff, 0x0, 0x0, 0x0, 0x0, 0x0, 0x0⟩,
  ⟨0x460, 4, 0x80, false, 0x0, .same, 0xffffffff, 0x0, 0x0, 0x0, 0x0, 0x0, 0x0⟩,
  ⟨0x44c, 4, 0x80, false, 0x0, .same, 0xffffffff, 0x0, 0x0, 0x0, 0x0, 0x0, 0x0⟩,
  ⟨0x464, 4, 0x80, false, 0x0, .same, 0xffffffff, 0x0, 0x0, 0x0, 0x0, 0x0, 0x0⟩,
  ⟨0x450, 4, 0x80, false, 0x0, .same, 0xffffffff, 0x0, 0x0, 0x0, 0x0, 0x0, 0x0⟩,
  ⟨0x468, 4, 0x80, false, 0x0, .same, 0xffffffff, 0x0, 0x0, 0x0, 0x0, 0x0, 0x0⟩,
  ⟨0x454, 4, 0x80, false, 0x0, .same, 0xffffffff, 0x0, 0x0, 0x0, 0x0, 0x0, 0x0⟩,
  ⟨0x46c, 4, 0x80, false, 0x0, .same, 0xffffffff, 0x0, 0x0, 0x0, 0x0, 0x0, 0x0⟩]

def regRows14a : List RegRow := [
  ⟨0x0, 1, 0x0, false, 0x80000, .same, 0x1fff073f, 0x0, 0x0, 0x0, 0x0, 0x0, 0x0⟩,
  ⟨0x4, 1, 0x0, false, 0x0, .same, 0x0, 0x7f03, 0x1f0000, 0x0, 0x0, 0x0, 0x0⟩,
  ⟨0x8, 1, 0x0, false, 0x0, .same, 0x0, 0xffffff, 0x0, 0x0, 0x0, 0x0, 0x0⟩,
  ⟨0x10, 1, 0x0, false, 0x0, .same, 0x0, 0xffffffff, 0x0, 0x0, 0x0, 0x0, 0x0⟩,
  ⟨0x14, 1, 0x0, false, 0x0, .same, 0x0, 0xffffffff, 0x0, 0x0, 0x0, 0x0, 0x0⟩,
  ⟨0x18, 1, 0x0, false, 0x0, .same, 0x0, 0xffffffff, 0x0, 0x0, 0x0, 0x0, 0x0⟩,
  ⟨0x1c, 1, 0x0, false, 0x0, .same, 0x0, 0xffffffff, 0x0, 0x0, 0x0, 0x0, 0x0⟩,
  ⟨0x20, 1, 0x0, false, 0x0, .same, 0x0, 0xffffffff, 0x0, 0x0, 0x0, 0x0, 0x0⟩]

def regRows15a : List RegRow := [
  ⟨0x0, 1, 0x0, false, 0x1000, .same, 0x1fffff, 0x0, 0x0, 0x0, 0x0, 0x0, 0x0⟩,
  ⟨0x4, 1, 0x0, false, 0x0, .same, 0x0, 0x1, 0xff02, 0x0, 0x0, 0x0, 0x0⟩,
  ⟨0x8, 1, 0x0, false, 0x0, .same, 0x0, 0xffffffff, 0x0, 0x0, 0x0, 0x0, 0x0⟩]

def regRows16a : List RegRow := [
  ⟨0x0, 1, 0x0, false, 0x0, .same, 0x7, 0x0, 0x0, 0x0, 0x0, 0x0, 0x0⟩,
  ⟨0x4, 1, 0x0, false, 0x0, .same, 0x0, 0x1, 0x2, 0x0, 0x0, 0x0, 0x0⟩,
  ⟨0x8, 1, 0x0, false, 0x0, .same, 0x0, 0xffffffff, 0x0, 0x0, 0x0, 0x0, 0x0⟩,
  ⟨0x1000, 4, 0x400, false, 0x201f03e, .same, 0xff01ffff, 0x0, 0x0, 0x0, 0x0, 0x0, 0x0⟩,
  ⟨0x1004, 4, 0x400, false, 0x0, .same, 0x7f, 0x0, 0x0, 0x0, 0x0, 0x0, 0x0⟩,
  ⟨0x1008, 4, 0x400, false, 0x0, .same, 0x0, 0x7ff, 0x3ff0000, 0x0, 0x0, 0x0, 0x0⟩,
  ⟨0x100c, 4, 0x400, false, 0x0, .same, 0x3ff0000, 0x0, 0x0, 0x0, 0x0, 0x0, 0x0⟩,
  ⟨0x1010, 4, 0x400, false, 0x0, .same, 0x0, 0xffffffff, 0x0, 0x0, 0x0, 0x0, 0x0⟩,
  ⟨0x1020, 4, 0x400, false, 0x0, .same, 0x0, 0xffffffff, 0x0, 0x0, 0x0, 0x0, 0x0⟩,
  ⟨0x1024, 4, 0x400, false, 0x0, .same, 0x0, 0xffffffff, 0x0, 0x0, 0x0, 0x0, 0x0⟩,
  ⟨0x1028, 4, 0x400, false, 0x0, .same, 0x0, 0xffffffff, 0x0, 0x0, 0x0, 0x0, 0x0⟩,
  ⟨0x102c, 4, 0x400, false, 0x0, .same, 0x0, 0xffffffff, 0x0, 0x0, 0x0, 0x0, 0x0⟩,
  ⟨0x1030, 4, 0x400, false, 0x0, .same, 0x0, 0xffffffff, 0x0, 0x0, 0x0, 0x0, 0x0⟩,
  ⟨0x1034, 4, 0x400, false, 0x0, .same, 0x0, 0xffffffff, 0x0, 0x0, 0x0, 0x0, 0x0⟩,
  ⟨0x1038, 4, 0x400, false, 0x0, .same, 0x0, 0xffffffff, 0x0, 0x0, 0x0, 0x0, 0x0⟩,
  ⟨0x103c, 4, 0x400, false, 0x0, .same, 0x0, 0xffffffff, 0x0, 0x0, 0x0, 0x0, 0x0⟩,
  ⟨0x1040, 4, 0x400, false, 0x0, .same, 0x80ffffff, 0x0, 0x0, 0x0, 0x0, 0x0, 0x0⟩,
  ⟨0x1044, 4, 0x400, false, 0x0, .same, 0x80ffffff, 0x0, 0x0, 0x0, 0x0, 0x0, 0x0⟩,
  ⟨0x1048, 4, 0x400, false, 0x0, .same, 0x80ffffff, 0x0, 0x0, 0x0, 0x0, 0x0, 0x0⟩,
  ⟨0x104c, 4, 0x400, false, 0x0, .same, 0x80ffffff, 0x0, 0x0, 0x0, 0x0, 0x0, 0x0⟩,
  ⟨0x1050, 4, 0x400, false, 0x0, .same, 0x80ffffff, 0x0, 0x0, 0x0, 0x0, 0x0, 0x0⟩,
  ⟨0x1054, 4, 0x400, false, 0x0, .same, 0x80ffffff, 0x0, 0x0, 0x0, 0x0, 0x0, 0x0⟩,
  ⟨0x1058, 4, 0x400, false, 0x0, .same, 0x80ffffff, 0x0, 0x0, 0x0, 0x0, 0x0, 0x0⟩,
  ⟨0x105c, 4, 0x400, false, 0x0, .same, 0x80ffffff, 0x0, 0x0, 0x0, 0x0, 0x0, 0x0⟩,
  ⟨0x1060, 4, 0x400, false, 0x0, .same, 0x7fff, 0x0, 0x0, 0x0, 0x0, 0x0, 0x0⟩,
  ⟨0x1080, 4, 0x400, false, 0x0, .same, 0xffff, 0x0, 0x0, 0x0, 0x0, 0x0, 0x0⟩,
  ⟨0x1084, 4, 0x400, false, 0x0, .same, 0x7f, 0x0, 0x0, 0x0, 0x0, 0x0, 0x0⟩,
  ⟨0x1088, 4, 0x400, false, 0x0, .same, 0x0, 0x3, 0x1f00, 0x0, 0x0, 0x0, 0x0⟩,
  ⟨0x108c, 4, 0x400, false, 0x0, .same, 0xffffffff, 0x0, 0x0, 0x0, 0x0, 0x0, 0x0⟩,
  ⟨0x1090, 4, 0x400, false, 0x0, .same, 0xffffffff, 0x0, 0x0, 0x0, 0x0, 0x0, 0x0⟩,
  ⟨0x1094, 4, 0x400, false, 0x0, .same, 0x1fff, 0x0, 0x0, 0x0, 0x0, 0x0, 0x0⟩,
  ⟨0x1098, 4, 0x400, false, 0x0, .same, 0x0, 0xffffffff, 0x0, 0x0, 0x0, 0x0, 0x0⟩,
  ⟨0x109c, 4, 0x400, false, 0x0, .same, 0x0, 0xffffffff, 0x0, 0x0, 0x0, 0x0, 0x0⟩,
  ⟨0x1100, 4, 0x400, false, 0x0, .same, 0xf, 0x0, 0x0, 0x0, 0x0, 0x0, 0x0⟩,
  ⟨0x1104, 4, 0x400, false, 0x0, .same, 0x0, 0x2, 0x4, 0x1, 0x0, 0x0, 0x0⟩,
  ⟨0x1110, 4, 0x400, false, 0x1000, .same, 0xffff, 0x0, 0x0, 0x0, 0x0, 0x0, 0x0⟩,
  ⟨0x1114, 4, 0x400, false, 0x0, .same, 0xffff, 0x0, 0x0, 0x0, 0x0, 0x0, 0x0⟩,
  ⟨0x1118, 4, 0x400, false, 0x0, .same, 0xffff, 0x0, 0x0, 0x0, 0x0, 0x0, 0x0⟩,
  ⟨0x111c, 4, 0x400, false, 0x0, .same, 0xffff, 0x0, 0x0, 0x0, 0x0, 0x0, 0x0⟩,
  ⟨0x1120, 4, 0x400, false, 0x1000, .same, 0xffff, 0x0, 0x0, 0x0, 0x0, 0x0, 0x0⟩]

def regRows16b : List RegRow := [
  ⟨0x1124, 4, 0x400, false, 0x0, .same, 0xffff, 0x0, 0x0, 0x0, 0x0, 0x0, 0x0⟩,
  ⟨0x1128, 4, 0x400, false, 0x0, .same, 0xffff, 0x0, 0x0, 0x0, 0x0, 0x0, 0x0⟩,
  ⟨0x112c, 4, 0x400, false, 0x0, .same, 0xffff, 0x0, 0x0, 0x0, 0x0, 0x0, 0x0⟩,
  ⟨0x1130, 4, 0x400, false, 0x1000, .same, 0xffff, 0x0, 0x0, 0x0, 0x0, 0x0, 0x0⟩,
  ⟨0x1134, 4, 0x400, false, 0x0, .same, 0xffff, 0x0, 0x0, 0x0, 0x0, 0x0, 0x0⟩,
  ⟨0x1138, 4, 0x400, false, 0x0, .same, 0xffff, 0x0, 0x0, 0x0, 0x0, 0x0, 0x0⟩,
  ⟨0x113c, 4, 0x400, false, 0x0, .same, 0xffff, 0x0, 0x0, 0x0, 0x0, 0x0, 0x0⟩,
  ⟨0x1140, 4, 0x400, false, 0x0, .same, 0x3ffff, 0x0, 0x0, 0x0, 0x0, 0x0, 0x0⟩,
  ⟨0x1148, 4, 0x400, true, 0x0, .same, 0xfffffffff, 0x0, 0x0, 0x0, 0x0, 0x0, 0x0⟩]

def regRows17a : List RegRow := [
  ⟨0x0, 1, 0x0, false, 0x20, .same, 0xffff, 0x0, 0x0, 0x0, 0x0, 0x0, 0x0⟩,
  ⟨0x4, 1, 0x0, false, 0x0, .same, 0x0, 0x7, 0x1f00, 0x0, 0x0, 0x0, 0x0⟩,
  ⟨0x8, 1, 0x0, true, 0x0, .same, 0xffffffffffff, 0x0, 0x0, 0x0, 0x0, 0x0, 0x0⟩,
  ⟨0x10, 1, 0x0, true, 0x0, .same, 0xffffffffffffffff, 0x0, 0x0, 0x0, 0x0, 0x0, 0x0⟩,
  ⟨0x18, 1, 0x0, false, 0x0, .same, 0xffffffff, 0x0, 0x0, 0x0, 0x0, 0x0, 0x0⟩,
  ⟨0x20, 1, 0x0, false, 0x0, .same, 0x7fffffff, 0x80000000, 0x0, 0x0, 0x0, 0x0, 0x0⟩,
  ⟨0x40, 4, 0x20, true, 0x0, .same, 0xffffffffc0, 0x0, 0x0, 0x0, 0x0, 0x0, 0x0⟩,
  ⟨0x48, 4, 0x20, false, 0x0, .same, 0x10f, 0x0, 0x0, 0x0, 0x0, 0x0, 0x0⟩,
  ⟨0x4c, 4, 0x20, false, 0x0, .same, 0x3ff0000, 0x3ff, 0x0, 0x0, 0x0, 0x0, 0x0⟩,
  ⟨0x50, 4, 0x20, false, 0x0, .same, 0xffffffff, 0x0, 0x0, 0x0, 0x0, 0x0, 0x0⟩,
  ⟨0x54, 4, 0x20, false, 0x0, .same, 0xffffffff, 0x0, 0x0, 0x0, 0x0, 0x0, 0x0⟩,
  ⟨0x58, 4, 0x20, false, 0x0, .same, 0xffffffff, 0x0, 0x0, 0x0, 0x0, 0x0, 0x0⟩,
  ⟨0xc0, 1, 0x0, true, 0x0, .same, 0xffffffffc0, 0x0, 0x0, 0x0, 0x0, 0x0, 0x0⟩,
  ⟨0xc8, 1, 0x0, false, 0x0, .same, 0xf, 0x0, 0x0, 0x0, 0x0, 0x0, 0x0⟩,
  ⟨0xcc, 1, 0x0, false, 0x0, .same, 0x3ff0000, 0x3ff, 0x0, 0x0, 0x0, 0x0, 0x0⟩,
  ⟨0x100, 1, 0x0, false, 0x0, .same, 0x1, 0x2, 0x0, 0x4, 0x0, 0x0, 0x0⟩,
  ⟨0x108, 2, 0x8, true, 0x0, .same, 0xffffffffffffffff, 0x0, 0x0, 0x0, 0x0, 0x0, 0x0⟩,
  ⟨0x118, 2, 0x4, false, 0x0, .same, 0xffffffff, 0x0, 0x0, 0x0, 0x0, 0x0, 0x0⟩,
  ⟨0x200, 1, 0x0, false, 0x0, .same, 0x0, 0xffffffff, 0x0, 0x0, 0x0, 0x0, 0x0⟩,
  ⟨0x204, 1, 0x0, false, 0x0, .same, 0x0, 0xffffffff, 0x0, 0x0, 0x0, 0x0, 0x0⟩,
  ⟨0x208, 4, 0x4, false, 0x0, .same, 0x0, 0xffffffff, 0x0, 0x0, 0x0, 0x0, 0x0⟩,
  ⟨0x400, 4, 0x80, false, 0x0, .same, 0x1f3f7f, 0x0, 0x80, 0x0, 0x0, 0x0, 0x0⟩,
  ⟨0x404, 4, 0x80, false, 0x0, .same, 0x7f, 0x0, 0x0, 0x0, 0x0, 0x0, 0x0⟩,
  ⟨0x408, 4, 0x80, false, 0x0, .same, 0xffffffff, 0x0, 0x0, 0x0, 0x0, 0x0, 0x0⟩,
  ⟨0x40c, 4, 0x80, false, 0x0, .same, 0xffffffff, 0x0, 0x0, 0x0, 0x0, 0x0, 0x0⟩,
  ⟨0x410, 4, 0x80, false, 0x0, .same, 0xffffffff, 0x0, 0x0, 0x0, 0x0, 0x0, 0x0⟩,
  ⟨0x414, 4, 0x80, false, 0x0, .same, 0xffffffff, 0x0, 0x0, 0x0, 0x0, 0x0, 0x0⟩,
  ⟨0x418, 4, 0x80, false, 0x0, .same, 0xffffffff, 0x0, 0x0, 0x0, 0x0, 0x0, 0x0⟩,
  ⟨0x41c, 4, 0x80, false, 0x0, .same, 0xffffffff, 0x0, 0x0, 0x0, 0x0, 0x0, 0x0⟩,
  ⟨0x420, 4, 0x80, false, 0x0, .same, 0xffffffff, 0x0, 0x0, 0x0, 0x0, 0x0, 0x0⟩,
  ⟨0x424, 4, 0x80, false, 0x0, .same, 0xffffffff, 0x0, 0x0, 0x0, 0x0, 0x0, 0x0⟩,
  ⟨0x428, 4, 0x80, false, 0x0, .same, 0x0, 0xffff, 0x0, 0x0, 0x0, 0x0, 0x0⟩,
  ⟨0x440, 4, 0x80, true, 0x0, .same, 0xffffffffffffffff, 0x0, 0x0, 0x0, 0x0, 0x0, 0x0⟩,
  ⟨0x448, 4, 0x80, true, 0x0, .same, 0xffffffffffffffff, 0x0, 0x0, 0x0, 0x0, 0x0, 0x0⟩,
  ⟨0x450, 4, 0x80, true, 0x0, .same, 0xffffffffffffffff, 0x0, 0x0, 0x0, 0x0, 0x0, 0x0⟩,
  ⟨0x458, 4, 0x80, true, 0x0, .same, 0xffffffffffffffff, 0x0, 0x0, 0x0, 0x0, 0x0, 0x0⟩,
  ⟨0x460, 4, 0x80, true, 0x0, .same, 0xffffffffffffffff, 0x0, 0x0, 0x0, 0x0, 0x0, 0x0⟩,
  ⟨0x468, 4, 0x80, true, 0x0, .same, 0xffffffffffffffff, 0x0, 0x0, 0x0, 0x0, 0x0, 0x0⟩,
  ⟨0x470, 4, 0x80, true, 0x0, .same, 0xffffffffffffffff, 0x0, 0x0, 0x0, 0x0, 0x0, 0x0⟩,
  ⟨0x478, 4, 0x80, true, 0x0, .same, 0xffffffffffffffff, 0x0, 0x0, 0x0, 0x0, 0x0, 0x0⟩]

def regRows17b : List RegRow := [
  ⟨0x600, 4, 0x40, false, 0x0, .same, 0x1f010f, 0x0, 0x80, 0x0, 0x0, 0x0, 0x0⟩,
  ⟨0x604, 4, 0x40, false, 0x0, .same, 0xffffffff, 0x0, 0x0, 0x0, 0x0, 0x0, 0x0⟩,
  ⟨0x608, 4, 0x40, false, 0x0, .same, 0xffff, 0x0, 0x0, 0x0, 0x0, 0x0, 0x0⟩,
  ⟨0x60c, 4, 0x40, false, 0x0, .same, 0xffffffff, 0x0, 0x0, 0x0, 0x0, 0x0, 0x0⟩,
  ⟨0x610, 4, 0x40, false, 0x0, .same, 0xffffffff, 0x0, 0x0, 0x0, 0x0, 0x0, 0x0⟩,
  ⟨0x614, 4, 0x40, false, 0x0, .same, 0xffffffff, 0x0, 0x0, 0x0, 0x0, 0x0, 0x0⟩,
  ⟨0x618, 4, 0x40, false, 0x0, .same, 0x0, 0xffffffff, 0x0, 0x0, 0x0, 0x0, 0x0⟩,
  ⟨0x61c, 4, 0x40, false, 0x0, .same, 0x0, 0xffffffff, 0x0, 0x0, 0x0, 0x0, 0x0⟩,
  ⟨0x620, 4, 0x40, false, 0x0, .same, 0x0, 0xffffffff, 0x0, 0x0, 0x0, 0x0, 0x0⟩,
  ⟨0x1000, 64, 0x4, false, 0x0, .same, 0xffffffff, 0x0, 0x0, 0x0, 0x0, 0x0, 0x0⟩,
  ⟨0x1100, 64, 0x4, false, 0x0, .same, 0xffffffff, 0x0, 0x0, 0x0, 0x0, 0x0, 0x0⟩]

def regRows18a : List RegRow := [
  ⟨0x0, 1, 0x0, false, 0x20, .same, 0xffff, 0x0, 0x0, 0x0, 0x0, 0x0, 0x0⟩,
  ⟨0x4, 1, 0x0, false, 0x0, .same, 0x0, 0x7, 0x1f00, 0x0, 0x0, 0x0, 0x0⟩,
  ⟨0x8, 1, 0x0, true, 0x0, .same, 0xffffffffffff, 0x0, 0x0, 0x0, 0x0, 0x0, 0x0⟩,
  ⟨0x10, 1, 0x0, true, 0x0, .same, 0xffffffffffffffff, 0x0, 0x0, 0x0, 0x0, 0x0, 0x0⟩,
  ⟨0x18, 1, 0x0, false, 0x0, .same, 0xffffffff, 0x0, 0x0, 0x0, 0x0, 0x0, 0x0⟩,
  ⟨0x20, 1, 0x0, false, 0x0, .same, 0x7fffffff, 0x80000000, 0x0, 0x0, 0x0, 0x0, 0x0⟩,
  ⟨0x40, 4, 0x20, true, 0x0, .same, 0xffffffffc0, 0x0, 0x0, 0x0, 0x0, 0x0, 0x0⟩,
  ⟨0x48, 4, 0x20, false, 0x0, .same, 0x10f, 0x0, 0x0, 0x0, 0x0, 0x0, 0x0⟩,
  ⟨0x4c, 4, 0x20, false, 0x0, .same, 0x3ff0000, 0x3ff, 0x0, 0x0, 0x0, 0x0, 0x0⟩,
  ⟨0x50, 4, 0x20, false, 0x0, .same, 0xffffffff, 0x0, 0x0, 0x0, 0x0, 0x0, 0x0⟩,
  ⟨0x54, 4, 0x20, false, 0x0, .same, 0xffffffff, 0x0, 0x0, 0x0, 0x0, 0x0, 0x0⟩,
  ⟨0x58, 4, 0x20, false, 0x0, .same, 0xffffffff, 0x0, 0x0, 0x0, 0x0, 0x0, 0x0⟩,
  ⟨0xc0, 1, 0x0, true, 0x0, .same, 0xffffffffc0, 0x0, 0x0, 0x0, 0x0, 0x0, 0x0⟩,
  ⟨0xc8, 1, 0x0, false, 0x0, .same, 0xf, 0x0, 0x0, 0x0, 0x0, 0x0, 0x0⟩,
  ⟨0xcc, 1, 0x0, false, 0x0, .same, 0x3ff0000, 0x3ff, 0x0, 0x0, 0x0, 0x0, 0x0⟩,
  ⟨0x100, 1, 0x0, false, 0x0, .same, 0x1, 0x2, 0x0, 0x4, 0x0, 0x0, 0x0⟩,
  ⟨0x108, 2, 0x8, true, 0x0, .same, 0xffffffffffffffff, 0x0, 0x0, 0x0, 0x0, 0x0, 0x0⟩,
  ⟨0x118, 2, 0x4, false, 0x0, .same, 0xffffffff, 0x0, 0x0, 0x0, 0x0, 0x0, 0x0⟩,
  ⟨0x200, 1, 0x0, false, 0x0, .same, 0x0, 0xffffffff, 0x0, 0x0, 0x0, 0x0, 0x0⟩,
  ⟨0x204, 1, 0x0, false, 0x0, .same, 0x0, 0xffffffff, 0x0, 0x0, 0x0, 0x0, 0x0⟩,
  ⟨0x208, 4, 0x4, false, 0x0, .same, 0x0, 0xffffffff, 0x0, 0x0, 0x0, 0x0, 0x0⟩,
  ⟨0x400, 4, 0x80, false, 0x0, .same, 0x1f3f7f, 0x0, 0x80, 0x0, 0x0, 0x0, 0x0⟩,
  ⟨0x404, 4, 0x80, false, 0x0, .same, 0x7f, 0x0, 0x0, 0x0, 0x0, 0x0, 0x0⟩,
  ⟨0x408, 4, 0x80, false, 0x0, .same, 0xffffffff, 0x0, 0x0, 0x0, 0x0, 0x0, 0x0⟩,
  ⟨0x40c, 4, 0x80, false, 0x0, .same, 0xffffffff, 0x0, 0x0, 0x0, 0x0, 0x0, 0x0⟩,
  ⟨0x410, 4, 0x80, false, 0x0, .same, 0xffffffff, 0x0, 0x0, 0x0, 0x0, 0x0, 0x0⟩,
  ⟨0x414, 4, 0x80, false, 0x0, .same, 0xffffffff, 0x0, 0x0, 0x0, 0x0, 0x0, 0x0⟩,
  ⟨0x418, 4, 0x80, false, 0x0, .same, 0xffffffff, 0x0, 0x0, 0x0, 0x0, 0x0, 0x0⟩,
  ⟨0x41c, 4, 0x80, false, 0x0, .same, 0xffffffff, 0x0, 0x0, 0x0, 0x0, 0x0, 0x0⟩,
  ⟨0x420, 4, 0x80, false, 0x0, .same, 0xffffffff, 0x0, 0x0, 0x0, 0x0, 0x0, 0x0⟩,
  ⟨0x424, 4, 0x80, false, 0x0, .same, 0xffffffff, 0x0, 0x0, 0x0, 0x0, 0x0, 0x0⟩,
  ⟨0x428, 4, 0x80, false, 0x0, .same, 0x0, 0xffff, 0x0, 0x0, 0x0, 0x0, 0x0⟩,
  ⟨0x440, 4, 0x80, true, 0x0, .same, 0xffffffffffffffff, 0x0, 0x0, 0x0, 0x0, 0x0, 0x0⟩,
  ⟨0x448, 4, 0x80, true, 0x0, .same, 0xffffffffffffffff, 0x0, 0x0, 0x0, 0x0, 0x0, 0x0⟩,
  ⟨0x450, 4, 0x80, true, 0x0, .same, 0xffffffffffffffff, 0x0, 0x0, 0x0, 0x0, 0x0, 0x0⟩,
  ⟨0x458, 4, 0x80, true, 0x0, .same, 0xffffffffffffffff, 0x0, 0x0, 0x0, 0x0, 0x0, 0x0⟩,
  ⟨0x460, 4, 0x80, true, 0x0, .same, 0xffffffffffffffff, 0x0, 0x0, 0x0, 0x0, 0x0, 0x0⟩,
  ⟨0x468, 4, 0x80, true, 0x0, .same, 0xffffffffffffffff, 0x0, 0x0, 0x0, 0x0, 0x0, 0x0⟩,
  ⟨0x470, 4, 0x80, true, 0x0, .same, 0xffffffffffffffff, 0x0, 0x0, 0x0, 0x0, 0x0, 0x0⟩,
  ⟨0x478, 4, 0x80, true, 0x0, .same, 0xffffffffffffffff, 0x0, 0x0, 0x0, 0x0, 0x0, 0x0⟩]

def regRows18b : List RegRow := [
  ⟨0x600, 4, 0x40, false, 0x0, .same, 0x1f010f, 0x0, 0x80, 0x0, 0x0, 0x0, 0x0⟩,
  ⟨0x604, 4, 0x40, false, 0x0, .same, 0xffffffff, 0x0, 0x0, 0x0, 0x0, 0x0, 0x0⟩,
  ⟨0x608, 4, 0x40, false, 0x0, .same, 0xffff, 0x0, 0x0, 0x0, 0x0, 0x0, 0x0⟩,
  ⟨0x60c, 4, 0x40, false, 0x0, .same, 0xffffffff, 0x0, 0x0, 0x0, 0x0, 0x0, 0x0⟩,
  ⟨0x610, 4, 0x40, false, 0x0, .same, 0xffffffff, 0x0, 0x0, 0x0, 0x0, 0x0, 0x0⟩,
  ⟨0x614, 4, 0x40, false, 0x0, .same, 0xffffffff, 0x0, 0x0, 0x0, 0x0, 0x0, 0x0⟩,
  ⟨0x618, 4, 0x40, false, 0x0, .same, 0x0, 0xffffffff, 0x0, 0x0, 0x0, 0x0, 0x0⟩,
  ⟨0x61c, 4, 0x40, false, 0x0, .same, 0x0, 0xffffffff, 0x0, 0x0, 0x0, 0x0, 0x0⟩,
  ⟨0x620, 4, 0x40, false, 0x0, .same, 0x0, 0xffffffff, 0x0, 0x0, 0x0, 0x0, 0x0⟩,
  ⟨0x1000, 64, 0x4, false, 0x0, .same, 0xffffffff, 0x0, 0x0, 0x0, 0x0, 0x0, 0x0⟩,
  ⟨0x1100, 64, 0x4, false, 0x0, .same, 0xffffffff, 0x0, 0x0, 0x0, 0x0, 0x0, 0x0⟩]

def regRows19a : List RegRow := [
  ⟨0x0, 1, 0x0, false, 0x8, .same, 0x1f, 0x0, 0x0, 0x0, 0x0, 0x0, 0x0⟩,
  ⟨0x4, 1, 0x0, false, 0x0, .same, 0x0, 0xf, 0x700, 0x0, 0x0, 0x0, 0x0⟩,
  ⟨0x8, 1, 0x0, true, 0x0, .same, 0x0, 0xffffffffffffffff, 0x0, 0x0, 0x0, 0x0, 0x0⟩,
  ⟨0x10, 1, 0x0, false, 0x0, .same, 0x0, 0x3fff, 0x0, 0x0, 0x0, 0x0, 0x0⟩,
  ⟨0x20, 1, 0x0, false, 0x0, .same, 0x0, 0xffffffff, 0x0, 0x0, 0x0, 0x0, 0x0⟩,
  ⟨0x24, 1, 0x0, false, 0x0, .same, 0x0, 0xffffffff, 0x0, 0x0, 0x0, 0x0, 0x0⟩,
  ⟨0x1000, 32, 0x20, true, 0x0, .same, 0xffffffffc0, 0x0, 0x0, 0x0, 0x0, 0x0, 0x0⟩,
  ⟨0x1008, 32, 0x20, false, 0x0, .same, 0x10f, 0x0, 0x0, 0x0, 0x0, 0x0, 0x0⟩,
  ⟨0x100c, 32, 0x20, false, 0x0, .same, 0x3ff0000, 0x3ff, 0x0, 0x0, 0x0, 0x0, 0x0⟩,
  ⟨0x1010, 32, 0x20, false, 0x0, .same, 0xffffffff, 0x0, 0x0, 0x0, 0x0, 0x0, 0x0⟩,
  ⟨0x1014, 32, 0x20, false, 0x0, .same, 0xffffffff, 0x0, 0x0, 0x0, 0x0, 0x0, 0x0⟩,
  ⟨0x1018, 32, 0x20, false, 0x0, .same, 0xffffffff, 0x0, 0x0, 0x0, 0x0, 0x0, 0x0⟩,
  ⟨0x400, 4, 0x20, false, 0x0, .same, 0xff, 0x0, 0x0, 0x0, 0x0, 0x0, 0x0⟩,
  ⟨0x404, 4, 0x20, false, 0x0, .same, 0xffffffff, 0x0, 0x0, 0x0, 0x0, 0x0, 0x0⟩,
  ⟨0x408, 4, 0x20, false, 0x0, .same, 0xffffffff, 0x0, 0x0, 0x0, 0x0, 0x0, 0x0⟩,
  ⟨0x40c, 4, 0x20, false, 0x0, .same, 0xffffffff, 0x0, 0x0, 0x0, 0x0, 0x0, 0x0⟩,
  ⟨0x480, 4, 0x20, false, 0x0, .same, 0xff, 0x0, 0x0, 0x0, 0x0, 0x0, 0x0⟩,
  ⟨0x484, 4, 0x20, false, 0x0, .same, 0xffffffff, 0x0, 0x0, 0x0, 0x0, 0x0, 0x0⟩,
  ⟨0x490, 4, 0x20, false, 0x0, .same, 0x1f, 0x0, 0x0, 0x0, 0x0, 0x0, 0x0⟩,
  ⟨0x494, 4, 0x20, false, 0x0, .same, 0x0, 0xffffffff, 0x0, 0x0, 0x0, 0x0, 0x0⟩]

def regRows1Aa : List RegRow := [
  ⟨0x0, 1, 0x0, true, 0xffffffffffffffff, .same, 0x0, 0x0, 0x0, 0x0, 0xffffffffffffffff, 0x0, 0x0⟩,
  ⟨0x8, 1, 0x0, false, 0x48000, .same, 0x0, 0x0, 0x0, 0x0, 0xffffff, 0x0, 0x0⟩,
  ⟨0xc, 1, 0x0, false, 0x0, .same, 0x0, 0x1f, 0x3f00, 0x0, 0x0, 0x0, 0x0⟩,
  ⟨0x10, 1, 0x0, true, 0x0, .same, 0xfffffffffffff000, 0x0, 0x0, 0x0, 0x0, 0x0, 0x0⟩,
  ⟨0x100, 32, 0x4, false, 0x0, .same, 0x1ff, 0x0, 0x0, 0x0, 0x0, 0x0, 0x0⟩,
  ⟨0x200, 1, 0x0, false, 0x0, .same, 0x0, 0xffffffff, 0x0, 0x0, 0x0, 0x0, 0x0⟩,
  ⟨0x204, 1, 0x0, false, 0x0, .same, 0x0, 0xffffffff, 0x0, 0x0, 0x0, 0x0, 0x0⟩,
  ⟨0x208, 1, 0x0, false, 0x0, .same, 0x0, 0xffffffff, 0x0, 0x0, 0x0, 0x0, 0x0⟩,
  ⟨0x20c, 1, 0x0, false, 0x0, .same, 0x0, 0xffffffff, 0x0, 0x0, 0x0, 0x0, 0x0⟩,
  ⟨0x210, 1, 0x0, false, 0x0, .same, 0x0, 0xffffffff, 0x0, 0x0, 0x0, 0x0, 0x0⟩,
  ⟨0x8000, 64, 0x8, true, 0x0, .same, 0xffffffffffffffff, 0x0, 0x0, 0x0, 0x0, 0x0, 0x0⟩,
  ⟨0x8200, 1, 0x0, true, 0x0, .same, 0x0, 0xffffffffffffffff, 0x0, 0x0, 0x0, 0x0, 0x0⟩]

def regRows1Ba : List RegRow := [
  ⟨0x0, 1, 0x0, false, 0x0, .same, 0xff1f, 0x0, 0x0, 0x0, 0x0, 0x0, 0x0⟩,
  ⟨0x4, 1, 0x0, false, 0x0, .same, 0x0, 0xf, 0xf00, 0x0, 0x0, 0x0, 0x0⟩,
  ⟨0x8, 1, 0x0, false, 0x0, .same, 0xffff, 0x0, 0x0, 0x0, 0x0, 0x0, 0x0⟩,
  ⟨0xc, 1, 0x0, false, 0x3e8, .same, 0xffff, 0x0, 0x0, 0x0, 0x0, 0x0, 0x0⟩,
  ⟨0x10, 1, 0x0, false, 0x3e8, .same, 0xffff, 0x0, 0x0, 0x0, 0x0, 0x0, 0x0⟩,
  ⟨0x18, 1, 0x0, true, 0x0, .kept, 0x0, 0x0, 0x0, 0x0, 0x3fff8, 0x0, 0x0⟩,
  ⟨0x20, 1, 0x0, false, 0x0, .kept, 0x0, 0x0, 0x0, 0x0, 0xff, 0x0, 0x0⟩,
  ⟨0x28, 1, 0x0, true, 0x0, .same, 0xfffffff000, 0x0, 0x0, 0x0, 0x0, 0x0, 0x0⟩,
  ⟨0x30, 1, 0x0, false, 0x0, .same, 0xfffff000, 0x0, 0x0, 0x0, 0x0, 0x0, 0x0⟩,
  ⟨0x38, 1, 0x0, true, 0x0, .same, 0xfffffff000, 0x0, 0x0, 0x0, 0x0, 0x0, 0x0⟩,
  ⟨0x40, 1, 0x0, false, 0x0, .same, 0xfffff000, 0x0, 0x0, 0x0, 0x0, 0x0, 0x0⟩,
  ⟨0x48, 1, 0x0, false, 0x0, .same, 0x1, 0x0, 0x0, 0x0, 0x0, 0x0, 0x0⟩,
  ⟨0x50, 1, 0x0, true, 0x0, .same, 0x0, 0x0, 0x0, 0x0, 0x0, 0x800000000007ff1f, 0x0⟩,
  ⟨0x58, 1, 0x0, false, 0x0, .same, 0x0, 0x1ff03, 0x0, 0x0, 0x0, 0x0, 0x0⟩,
  ⟨0x60, 1, 0x0, true, 0x0, .same, 0x0, 0xffffffffffffffff, 0x0, 0x0, 0x0, 0x0, 0x0⟩,
  ⟨0x100, 2, 0x80, false, 0x0, .same, 0x0, 0x17, 0x0, 0x0, 0x0, 0x0, 0x0⟩,
  ⟨0x104, 2, 0x80, false, 0x0, .same, 0x0, 0x0, 0x7f, 0x0, 0x0, 0x0, 0x0⟩,
  ⟨0x108, 2, 0x80, true, 0x0, .same, 0x0, 0xffffffffffffffff, 0x0, 0x0, 0x0, 0x0, 0x0⟩,
  ⟨0x110, 2, 0x80, false, 0x0, .same, 0xffffffff, 0x0, 0x0, 0x0, 0x0, 0x0, 0x0⟩,
  ⟨0x114, 2, 0x80, false, 0x0, .same, 0x0, 0xff, 0x0, 0x0, 0x0, 0x0, 0x0⟩,
  ⟨0x118, 2, 0x80, true, 0x0, .same, 0x0, 0xffffffffffffffff, 0x0, 0x0, 0x0, 0x0, 0x0⟩,
  ⟨0x120, 2, 0x80, false, 0x0, .same, 0x0, 0xffffffff, 0x0, 0x0, 0x0, 0x0, 0x0⟩,
  ⟨0x124, 2, 0x80, false, 0x0, .same, 0x0, 0xffffffff, 0x0, 0x0, 0x0, 0x0, 0x0⟩,
  ⟨0x128, 2, 0x80, false, 0x0, .same, 0x0, 0xffffffff, 0x0, 0x0, 0x0, 0x0, 0x0⟩,
  ⟨0x12c, 2, 0x80, false, 0x0, .same, 0x0, 0xffffffff, 0x0, 0x0, 0x0, 0x0, 0x0⟩,
  ⟨0x130, 2, 0x80, false, 0x0, .same, 0x0, 0xffffffff, 0x0, 0x0, 0x0, 0x0, 0x0⟩,
  ⟨0x134, 2, 0x80, false, 0x0, .same, 0x0, 0xffffffff, 0x0, 0x0, 0x0, 0x0, 0x0⟩,
  ⟨0x138, 2, 0x80, false, 0x0, .same, 0x0, 0xffffffff, 0x0, 0x0, 0x0, 0x0, 0x0⟩,
  ⟨0x13c, 2, 0x80, false, 0x0, .same, 0x0, 0xffffffff, 0x0, 0x0, 0x0, 0x0, 0x0⟩,
  ⟨0x140, 2, 0x80, false, 0x0, .same, 0x0, 0xffffffff, 0x0, 0x0, 0x0, 0x0, 0x0⟩,
  ⟨0x300, 8, 0x10, false, 0x0, .same, 0x3f, 0x0, 0x0, 0x0, 0x0, 0x0, 0x0⟩]

def regRows1Ea : List RegRow := [
  ⟨0x0, 1, 0x0, false, 0x3c00, .same, 0xff05, 0x0, 0x0, 0x2, 0x0, 0x0, 0x0⟩,
  ⟨0x4, 1, 0x0, false, 0x0, .same, 0x0, 0xffff7f, 0x3000080, 0x0, 0x0, 0x0, 0x0⟩,
  ⟨0x8, 1, 0x0, false, 0x0, .same, 0x0, 0xffffffff, 0x0, 0x0, 0x0, 0x0, 0x0⟩,
  ⟨0xc, 1, 0x0, false, 0x0, .same, 0x0, 0xffffffff, 0x0, 0x0, 0x0, 0x0, 0x0⟩,
  ⟨0x10, 1, 0x0, false, 0x0, .kept, 0x0, 0xffffffff, 0x0, 0x0, 0x0, 0x0, 0x0⟩]

def regRows1Fa : List RegRow := [
  ⟨0x0, 1, 0x0, false, 0x0, .same, 0x2, 0x0, 0x0, 0x1, 0x0, 0x0, 0x0⟩,
  ⟨0x4, 1, 0x0, false, 0xf4240, .same, 0xffffffff, 0x0, 0x0, 0x0, 0x0, 0x0, 0x0⟩,
  ⟨0x8, 1, 0x0, false, 0xf4240, .same, 0xffffffff, 0x0, 0x0, 0x0, 0x0, 0x0, 0x0⟩,
  ⟨0xc, 1, 0x0, false, 0x0, .same, 0x0, 0x0, 0x0, 0x0, 0x0, 0xffffffff, 0x0⟩,
  ⟨0x10, 1, 0x0, false, 0x0, .same, 0x0, 0x4, 0x3, 0x0, 0x0, 0x0, 0x0⟩,
  ⟨0x14, 1, 0x0, false, 0x0, .same, 0x0, 0xffffffff, 0x0, 0x0, 0x0, 0x0, 0x0⟩]

def regRows20a : List RegRow := [
  ⟨0x0, 6, 0x4, false, 0x0, .same, 0x0, 0xffff, 0x0, 0x0, 0x0, 0x0, 0x0⟩,
  ⟨0x20, 6, 0x4, false, 0x5a0, .same, 0xffff, 0x0, 0x0, 0x0, 0x0, 0x0, 0x0⟩,
  ⟨0x40, 6, 0x4, false, 0x0, .same, 0x0, 0x0, 0xffff, 0x0, 0x0, 0x0, 0x0⟩,
  ⟨0x60, 7, 0x4, false, 0x0, .same, 0x0, 0xffff, 0x0, 0x0, 0x0, 0x0, 0x0⟩,
  ⟨0x80, 7, 0x4, false, 0xffff0000, .same, 0xffffffff, 0x0, 0x0, 0x0, 0x0, 0x0, 0x0⟩,
  ⟨0xa0, 7, 0x4, false, 0x0, .same, 0x0, 0x0, 0xffff, 0x0, 0x0, 0x0, 0x0⟩,
  ⟨0xc0, 1, 0x0, false, 0x0, .same, 0x0, 0x0, 0x3f7f3f, 0x0, 0x0, 0x0, 0x0⟩,
  ⟨0xc4, 1, 0x0, false, 0x0, .same, 0x3, 0x0, 0x0, 0x0, 0x0, 0x0, 0x0⟩]

def regRows21a : List RegRow := [
  ⟨0x0, 1, 0x0, false, 0x0, .same, 0x0, 0x1ff, 0x0, 0x0, 0x0, 0x0, 0x0⟩,
  ⟨0x10, 4, 0x4, false, 0x0, .same, 0x0, 0xffffffff, 0x0, 0x0, 0x0, 0x0, 0x0⟩,
  ⟨0x20, 1, 0x0, false, 0x0, .same, 0x0, 0x0, 0x0, 0x0, 0x0, 0x1, 0x0⟩,
  ⟨0x24, 1, 0x0, false, 0x0, .same, 0x0, 0x0, 0x0, 0x0, 0x0, 0x1, 0x0⟩,
  ⟨0x2000, 1024, 0x8, true, 0x0, .same, 0xffffffffffffffff, 0x0, 0x0, 0x0, 0x0, 0x0, 0x0⟩]

def regRows22a : List RegRow := [
  ⟨0x0, 1, 0x0, false, 0x0, .same, 0x2, 0x0, 0x0, 0x0, 0x0, 0x0, 0x0⟩,
  ⟨0x4, 1, 0x0, false, 0xfa, .same, 0xffff, 0x0, 0x0, 0x0, 0x0, 0x0, 0x0⟩,
  ⟨0x8, 1, 0x0, false, 0x0, .same, 0x0, 0x3fff, 0x0, 0x0, 0x0, 0x0, 0x0⟩,
  ⟨0xc, 1, 0x0, false, 0x0, .same, 0x0, 0x3ffc, 0x0, 0x0, 0x0, 0x0, 0x0⟩,
  ⟨0x10, 1, 0x0, false, 0x0, .kept, 0x0, 0x3ffc, 0x0, 0x0, 0x0, 0x0, 0x0⟩,
  ⟨0x14, 1, 0x0, false, 0x0, .same, 0x0, 0x0, 0x0, 0x0, 0x0, 0x10f, 0x0⟩,
  ⟨0x18, 1, 0x0, false, 0x0, .same, 0x0, 0xffffffff, 0x0, 0x0, 0x0, 0x0, 0x0⟩,
  ⟨0x1c, 1, 0x0, false, 0x0, .same, 0x0, 0xffffffff, 0x0, 0x0, 0x0, 0x0, 0x0⟩]

def regRows23a : List RegRow := [
  ⟨0x0, 1, 0x0, true, 0x0, .always, 0xffffffffffffffff, 0x0, 0x0, 0x0, 0x0, 0x0, 0x0⟩,
  ⟨0x8, 1, 0x0, true, 0x0, .always, 0x1ffffffffffff, 0x0, 0x0, 0x0, 0x0, 0x0, 0x0⟩,
  ⟨0x10, 1, 0x0, false, 0x0, .always, 0x3ff, 0x0, 0x0, 0x0, 0x0, 0x0, 0x0⟩,
  ⟨0x14, 1, 0x0, false, 0x0, .always, 0x0, 0x30f, 0x0, 0x0, 0x0, 0x0, 0x0⟩,
  ⟨0x18, 1, 0x0, false, 0x0, .always, 0x0, 0xffffffff, 0x0, 0x0, 0x0, 0x0, 0x0⟩,
  ⟨0x100, 1, 0x0, false, 0x0, .always, 0x0, 0x1fc7, 0x0, 0x0, 0x0, 0x0, 0x0⟩,
  ⟨0x104, 1, 0x0, false, 0x0, .always, 0x0, 0xffff, 0x0, 0x0, 0x0, 0x0, 0x0⟩,
  ⟨0x108, 1, 0x0, false, 0x0, .always, 0x0, 0xf1, 0x0, 0x0, 0x0, 0x0, 0x0⟩,
  ⟨0x110, 1, 0x0, false, 0x0, .always, 0x0, 0x0, 0x0, 0x1, 0x0, 0x0, 0x0⟩,
  ⟨0x118, 1, 0x0, true, 0x0, .always, 0x0, 0xffffffffffffffff, 0x0, 0x0, 0x0, 0x0, 0x0⟩]

def regRows (k : Nat) : List RegRow :=
  match k with
  | 0x0 => regRows00a
  | 0x1 => regRows01a
  | 0x2 => regRows02a
  | 0x3 => regRows03a
  | 0x4 => regRows04a
  | 0x5 => regRows05a
  | 0x6 => regRows06a
  | 0x7 => regRows07a
  | 0x8 => regRows08a
  | 0x9 => regRows09a
  | 0xa => regRows0Aa
  | 0xb => regRows0Ba
  | 0xc => regRows0Ca
  | 0xd => regRows0Da
  | 0xe => regRows0Ea
  | 0xf => regRows0Fa
  | 0x10 => regRows10a
  | 0x11 => regRows11a
  | 0x12 => regRows12a
  | 0x13 => regRows13a
  | 0x14 => regRows14a
  | 0x15 => regRows15a
  | 0x16 => regRows16a ++ regRows16b
  | 0x17 => regRows17a ++ regRows17b
  | 0x18 => regRows18a ++ regRows18b
  | 0x19 => regRows19a
  | 0x1a => regRows1Aa
  | 0x1b => regRows1Ba
  | 0x1e => regRows1Ea
  | 0x1f => regRows1Fa
  | 0x20 => regRows20a
  | 0x21 => regRows21a
  | 0x22 => regRows22a
  | 0x23 => regRows23a
  | _ => []

/-- The register row and instance that cover byte offset `off` of unit window `k`, with the offset of the
instance's first byte; `none` is an offset that no register occupies (R6). -/
def findReg (k off : Nat) : Option (RegRow × Nat) :=
  (regRows k).findSome? fun r =>
    let w := if r.wide then 8 else 4
    if off < r.off then none
    else if r.count ≤ 1 then (if off < r.off + w then some (r, r.off) else none)
    else
      let i := (off - r.off) / r.stride
      let o := r.off + i * r.stride
      if i < r.count ∧ off < o + w then some (r, o) else none

/-- The value register address `a` holds right after a cold reset (R9), 0 where no register lies. -/
def regReset (a : Nat) : Word :=
  if a < 0x40000000 ∨ 0x40240000 ≤ a then 0
  else match findReg ((a - 0x40000000) / 0x10000) (a % 0x10000) with
    | some (r, _) => r.reset
    | none => 0

end Sys2Proof.Machine
end

