-- ==== Sys2Proof/Machine/Ops.lean ====
section
/-! DEFINITION. The named operations that every unit shares: sparse tables, bit fields, registers, what a variant has,
who owns a unit, the attributes of an access, log entries, EIC edges, and the cores' registers. -/
namespace Sys2Proof.Machine

/-- What a meaning answers. -/
abbrev Out := Host.Outcome State Fault Refusal

/-! Sparse tables -/

/-- The value at key `k`, or `d` where the key is not listed. -/
def mget {α : Type} (m : Map α) (k : Nat) (d : α) : α :=
  match m with
  | [] => d
  | (k', v) :: r => if k' = k then v else mget r k d

/-- The table with `v` at key `k`. -/
def mset {α : Type} (m : Map α) (k : Nat) (v : α) : Map α :=
  match m with
  | [] => [(k, v)]
  | (k', v') :: r => if k < k' then (k, v) :: (k', v') :: r else if k = k' then (k, v) :: r else (k', v') :: mset r k v

/-- The table without key `k`. -/
def mdel {α : Type} (m : Map α) (k : Nat) : Map α := m.filter (fun e => e.1 ≠ k)

/-- Whether key `k` is listed. -/
def mhas {α : Type} (m : Map α) (k : Nat) : Bool := m.any (fun e => e.1 = k)

/-! Bit fields (R11) -/

/-- Bits [hi:lo] of a word, as a number. -/
def bits (w : Word) (hi lo : Nat) : Nat := (w.toNat >>> lo) % 2 ^ (hi + 1 - lo)

/-- Bit i of a word. -/
def bit (w : Word) (i : Nat) : Bool := w.getLsbD i

/-- The mask of bits [hi:lo]. -/
def mask (hi lo : Nat) : Word := BitVec.ofNat 64 ((2 ^ (hi + 1 - lo) - 1) <<< lo)

/-- A word with bits [hi:lo] replaced by a number. -/
def setBits (w : Word) (hi lo v : Nat) : Word :=
  (w &&& ~~~ mask hi lo) ||| (BitVec.ofNat 64 (v <<< lo) &&& mask hi lo)

/-- A word with bit i set or cleared. -/
def setBit (w : Word) (i : Nat) (b : Bool) : Word := setBits w i i (if b then 1 else 0)

/-- A number as a word. -/
def word (n : Nat) : Word := BitVec.ofNat 64 n

def b2n (b : Bool) : Nat := if b then 1 else 0

/-- A two's-complement number of `w` bits as an integer. -/
def sint (w v : Nat) : Int := if v % 2 ^ w < 2 ^ (w - 1) then (v % 2 ^ w : Nat) else ((v % 2 ^ w : Nat) : Int) - (2 ^ w : Nat)

/-- An integer reduced to `w` bits. -/
def uint (w : Nat) (i : Int) : Nat := (i % ((2 ^ w : Nat) : Int)).toNat

/-! Little-endian bytes (R10) -/

/-- The number that a list of bytes holds, lowest address first. -/
def leNat : List Byte → Nat
  | [] => 0
  | b :: r => b.toNat + 256 * leNat r

/-- The `n` bytes of a number, lowest address first. -/
def leBytes : Nat → Nat → List Byte
  | 0, _ => []
  | n + 1, v => BitVec.ofNat 8 v :: leBytes n (v / 256)

/-- `n` bytes of a list from offset `o`, zero beyond its end. -/
def sub (l : List Byte) (o n : Nat) : List Byte := (List.range n).map fun i => l.getD (o + i) 0

/-- The number in `n` bytes of a list from offset `o`. -/
def fieldAt (l : List Byte) (o n : Nat) : Nat := leNat (sub l o n)

/-- The number that a list of bytes holds, most significant byte first. -/
def beNat (l : List Byte) : Nat := l.foldl (fun a b => a * 256 + b.toNat) 0

/-- The `n` bytes of a number, most significant first. -/
def beBytes (n v : Nat) : List Byte := (leBytes n v).reverse

/-! Registers -/

/-- The value that the register at physical address `a` holds. -/
def rget (s : State) (a : Nat) : Word := mget s.regs a (regReset a)

/-- The state with the register at `a` holding `v`. -/
def rset (s : State) (a : Nat) (v : Word) : State := { s with regs := mset s.regs a v }

def rbits (s : State) (a hi lo : Nat) : Nat := bits (rget s a) hi lo
def rbit (s : State) (a i : Nat) : Bool := bit (rget s a) i
def rput (s : State) (a hi lo v : Nat) : State := rset s a (setBits (rget s a) hi lo v)
def rputb (s : State) (a i : Nat) (b : Bool) : State := rset s a (setBit (rget s a) i b)

/-- A 32-bit event counter that saturates (R634). -/
def rcount (s : State) (a n : Nat) : State := rset s a (word (min 0xFFFFFFFF ((rget s a).toNat + n)))

/-- A 32-bit counter that wraps. -/
def rwrap (s : State) (a n : Nat) : State := rset s a (word (((rget s a).toNat + n) % 2 ^ 32))

/-! Variants (R14) -/

def tunCount (s : State) : Nat := match s.variant with | .zm8640 => 12 | .zm8620 => 8 | .zm8610 => 4
def hasExa (s : State) : Bool := s.variant ≠ .zm8610
def hasPcie (s : State) : Bool := s.variant = .zm8640
def cellarSize (s : State) : Nat := if s.variant = .zm8640 then 0x800000 else 0x400000
def spargeChannels (s : State) : Nat := if s.variant = .zm8610 then 16 else 32
def tapEngines (s : State) : Nat := if s.variant = .zm8610 then 8 else 16
def sapPorts (s : State) : Nat := if s.variant = .zm8610 then 4 else 8
def aes3Pairs (s : State) : Nat := if s.variant = .zm8610 then 2 else 4
def pdmChannels (s : State) : Nat := if s.variant = .zm8610 then 4 else 8
def sdiPorts (s : State) : Nat := match s.variant with | .zm8640 => 4 | .zm8620 => 2 | .zm8610 => 0
def sdkLanes (s : State) : Nat := match s.variant with | .zm8640 => 4 | .zm8620 => 2 | .zm8610 => 0

/-- Whether the unit of window `k` is present on the variant (R14, R26). -/
def unitPresent (s : State) (k : Nat) : Bool :=
  match s.variant with
  | .zm8640 => k < 0x24
  | .zm8620 => k < 0x24 ∧ k ∉ [0x14, 0x18, 0x1A]
  | .zm8610 => k < 0x24 ∧ k ∉ [0x0F, 0x10, 0x14, 0x16, 0x18, 0x1A, 0x1B]

/-- Fixed-secure unit windows (R36). -/
def fixedSecure : List Nat := [0x00, 0x02, 0x07, 0x08, 0x1C, 0x1D, 0x1F, 0x21, 0x22, 0x23]
/-- Split unit windows (R36). -/
def splitUnits : List Nat := [0x0A, 0x0B, 0x04, 0x0C, 0x01, 0x03, 0x05, 0x06]

/-- The owner world of an unsplit unit (R36). -/
def unitSecure (s : State) (k : Nat) : Bool :=
  if k ∈ fixedSecure then true else rbit s R.PART_UNIT_OWN k

def worldOf (secure : Bool) : World := if secure then .secure else .normal

/-- Processor numbers of present cores (R15). -/
def procPresent (s : State) (p : Nat) : Bool := p < 2 + tunCount s

/-- The mask of the processor numbers that are present. -/
def procMask (s : State) : Word := mask (1 + tunCount s) 0

/-! Free values -/

/-- One free word, and the state with its index spent (log entry 3). -/
def freeWord (s : State) : Word × State := (Config.freeWord s.freeIx, { s with freeIx := s.freeIx + 1 })

/-- `n` free bytes: DRBG output. -/
def freeBytes (s : State) (n : Nat) : List Byte × State :=
  ((List.range n).map fun i => (Config.freeWord (s.freeIx + i)).setWidth 8, { s with freeIx := s.freeIx + n })

/-! Cores -/

def coreOf (s : State) (p : Nat) : Core := mget s.cores p {}
def setCore (s : State) (p : Nat) (c : Core) : State := { s with cores := mset s.cores p c }
def modCore (s : State) (p : Nat) (f : Core → Core) : State := setCore s p (f (coreOf s p))

/-- The reset value of control register `n` of processor `p` (R190). -/
def cregReset (p n : Nat) : Word :=
  match n with
  | 0 => if p < 2 then word p else word (0x800 + (p - 2) * 16 + p)
  | 1 => if p < 2 then 7 else 4
  | 9 => 1
  | 28 => 1
  | 29 => if p < 2 then 0 else 1
  | _ => 0

/-- The value in effect of control register `n`. -/
def creg (p : Nat) (c : Core) (n : Nat) : Word := mget c.creg n (cregReset p n)
def setCreg (c : Core) (n : Nat) (v : Word) : Core := { c with creg := mset c.creg n v }

def levelOf (n : Nat) : Level := match n with | 0 => .t | 1 => .n | 2 => .s | _ => .m
def levelNum (l : Level) : Nat := match l with | .t => 0 | .n => 1 | .s => 2 | .m => 3

/-- STATUS.LEVEL and STATUS.WORLD of a core. -/
def coreLevel (p : Nat) (c : Core) : Level := levelOf (bits (creg p c 1) 1 0)
def coreWorld (p : Nat) (c : Core) : World := worldOf (bit (creg p c 1) 2)
/-- STATUS.FAST: the fast bank stands in place of G48 to G63 and P4 to P7 (R293). -/
def coreFast (p : Nat) (c : Core) : Bool := bit (creg p c 1) 6

/-- A general register as its core reads it: G0 reads zero, G63 is the current level's, the fast bank while it is
selected (R152, R293). -/
def greg (p : Nat) (c : Core) (r : Nat) : Word :=
  if r = 0 then 0
  else if coreFast p c ∧ 48 ≤ r then mget c.fastG r 0
  else if r = 63 then mget c.g (64 + levelNum (coreLevel p c)) 0
  else mget c.g r 0

/-- A write to a general register; a write to G0 is discarded (R152). -/
def setGreg (p : Nat) (c : Core) (r : Nat) (v : Word) : Core :=
  if r = 0 then c
  else if coreFast p c ∧ 48 ≤ r then { c with fastG := mset c.fastG r v }
  else if r = 63 then { c with g := mset c.g (64 + levelNum (coreLevel p c)) v }
  else { c with g := mset c.g r v }

/-- Predicates P0 to P7 as one number: P0 reads one (R152). -/
def preds (p : Nat) (c : Core) : BitVec 8 :=
  (if coreFast p c then (c.p &&& 0x0E) ||| (c.fastP &&& 0xF0) else c.p &&& 0xFE) ||| 1

def pred (p : Nat) (c : Core) (r : Nat) : Bool := (preds p c).getLsbD r

/-- A write to a predicate; a write to P0 is discarded (R152, R162). -/
def setPred (p : Nat) (c : Core) (r : Nat) (v : Bool) : Core :=
  if r = 0 then c
  else
    let m : BitVec 8 := 1#8 <<< r
    let put (x : BitVec 8) : BitVec 8 := if v then x ||| m else x &&& ~~~ m
    if coreFast p c ∧ 4 ≤ r then { c with fastP := put c.fastP } else { c with p := put c.p }

/-! Attributes of an access (R35) -/

/-- What debug authentication has opened, as DEBUG_STATUS.OPEN codes it (R60): in BLANK secure-world debug stands open. -/
def debugOpen (s : State) : Nat := if s.otp.lifecycle = 0 then 2 else rbits s R.DEBUG_STATUS 1 0
/-- The world that debug authentication has opened. -/
def debugWorld (s : State) : World := worldOf (debugOpen s = 2)

/-- The device is out of reset: it is neither held, nor scrubbing, nor waiting to retry. -/
def outOfReset (s : State) : Bool :=
  match s.boot.phase with
  | .ready | .link | .running => true
  | _ => false

/-- The processor number of a requester that is a core. -/
def procOf : Requester → Option Nat
  | .cc p => some p.val
  | .tun n => some (n.val + 2)
  | _ => none

/-- The attributes of an access by a requester (R35, R114). -/
def reqOf (s : State) (r : Requester) : Req :=
  match r with
  | .cc p => let c := coreOf s p.val
             ⟨r, BitVec.ofNat 8 p.val, coreWorld p.val c, coreLevel p.val c, none⟩
  | .tun n => let c := coreOf s (n.val + 2)
              ⟨r, BitVec.ofNat 8 (n.val + 2), coreWorld (n.val + 2) c, coreLevel (n.val + 2) c,
               if bit (creg (n.val + 2) c 1) 3 then c.lastFk else none⟩
  | .sparge ch => let sec := rbit s R.PART_SPG_OWN ch.val
                  ⟨r, BitVec.ofNat 8 (0x40 + ch.val), worldOf sec, if sec then .s else .n, none⟩
  | .pcie => ⟨r, 0x80, .normal, .n, none⟩
  | .hcp => let sec := unitSecure s 0x1E
            ⟨r, 0x81, worldOf sec, if sec then .s else .n, none⟩
  | .debug => ⟨r, 0x82, debugWorld s, if debugWorld s = .secure then .s else .n, none⟩
  | .own => ⟨r, 0xFE, .secure, .s, none⟩
  | .sundik d sec => ⟨r, BitVec.ofNat 8 (0xC0 + d.val), worldOf sec, if sec then .s else .n, none⟩

/-- Machine level: a control core at M (R114). -/
def Req.machine (r : Req) : Bool := r.level = .m ∧ r.world = .secure

/-! Log (R618 to R624) -/

def ringOf (s : State) (r : Nat) : Ring := match r with | 0 => s.ring0 | 1 => s.ring1 | _ => s.ring2
def setRing (s : State) (r : Nat) (x : Ring) : State :=
  match r with | 0 => { s with ring0 := x } | 1 => { s with ring1 := x } | _ => { s with ring2 := x }

/-- Registers of ring r's block (R625). -/
def logReg (r off : Nat) : Nat := 0x40050100 + 0x40 * r + off

/-- Whole nanoseconds of the DTB (R382). -/
def dtbNs (s : State) : Word := (s.dtb >>> 32).setWidth 64

/-- An entry reaches a ring's queue; an entry that finds 16 queued is discarded and counted as lost (R624). -/
def enqueue (s : State) (r : Nat) (e : LogEntry) : State :=
  let q := ringOf s r
  if q.queue.length < 16 then setRing s r { q with queue := q.queue ++ [e] }
  else rcount s (logReg r 0x10) 1

/-- A notable event is reported to LOG: to ring 0 or 1, with a copy to the always-on ring for a code marked A; BOOT_FAIL goes to the
always-on ring only (R621, R622). `req` is the identity that caused it, 0xFE the unit
itself; `secure` the world of the cause. -/
def logTo (s : State) (ring : Nat) (code : Nat) (req : Byte) (secure : Bool) (arg0 arg1 : Word) : State :=
  let fl : Byte := if secure then 1 else 0
  let e : LogEntry := ⟨dtbNs s, 0, BitVec.ofNat 16 code, req, fl, arg0, arg1⟩
  let aon : LogEntry := ⟨rget s R.AON_RTC, 0, BitVec.ofNat 16 code, req, fl, arg0, arg1⟩
  if code = Code.BOOT_FAIL then enqueue s 2 aon
  else
    let s := enqueue s ring e
    if code ∈ alwaysCodes then enqueue s 2 { aon with flags := fl ||| 4 } else s

/-- An entry caused by an access: to the ring the code's rule names (R621). -/
def logReq (s : State) (ring : Nat) (code : Nat) (r : Req) (arg0 arg1 : Word) : State :=
  logTo s ring code r.id (r.world = .secure) arg0 arg1

/-- An entry that a unit itself causes, in the ring of its owner world (R621). -/
def logUnit (s : State) (secure : Bool) (code : Nat) (arg0 arg1 : Word) : State :=
  logTo s (if secure then 1 else 0) code 0xFE secure arg0 arg1

/-- An entry that a Stage 0 step logs, before BOOT_PHASE is 1: to the always-on ring only (R622). -/
def logBoot (s : State) (code : Nat) (arg0 arg1 : Word) : State :=
  enqueue s 2 ⟨rget s R.AON_RTC, 0, BitVec.ofNat 16 code, 0xFE, 1, arg0, arg1⟩

/-- An entry in the ring of a unit's owner world, caused by a requester's access to it, or by the unit itself (R618, R621). -/
def logBy (s : State) (by' : Option Req) (secure : Bool) (code : Nat) (arg0 arg1 : Word) : State :=
  match by' with
  | some r => logReq s (if secure then 1 else 0) code r arg0 arg1
  | none => logUnit s secure code arg0 arg1

/-- The ring of a requester's world. -/
def worldRing (w : World) : Nat := if w = .secure then 1 else 0

/-! EIC edges (R310, R313) -/

/-- Whether source i exists on the variant (R313). -/
def eicPresent (s : State) (i : Nat) : Bool :=
  if i = 54 ∨ i = 55 ∨ (212 ≤ i ∧ i ≤ 223) ∨ 256 ≤ i then false
  else if 120 ≤ i ∧ i < 152 then i - 120 < spargeChannels s
  else if 152 ≤ i ∧ i < 168 then i - 152 < tapEngines s
  else if 184 ≤ i ∧ i < 192 then i - 184 < sapPorts s
  else if 192 ≤ i ∧ i < 196 then i - 192 < aes3Pairs s
  else if i = 196 then unitPresent s 0x14
  else if 198 ≤ i ∧ i < 202 then i - 198 < sdiPorts s
  else if i = 203 then unitPresent s 0x18
  else if i = 205 then unitPresent s 0x1A
  else if i = 206 then unitPresent s 0x1B
  else true

/-- Whether source i belongs to the secure world (R313). -/
def eicSecure (s : State) (i : Nat) : Bool :=
  if i = 0 ∨ i = 3 ∨ i = 4 ∨ i = 6 ∨ i = 7 ∨ i = 16 ∨ i = 17 ∨ i = 52 ∨ i = 53 then true
  else if i = 1 ∨ i = 2 then unitSecure s 0x20
  else if i = 5 then false
  else if 8 ≤ i ∧ i < 16 then
    match (mget s.copper.cx (i - 8) {}).holder with
    | some h => h.world = .secure
    | none => true
  else if i = 18 ∨ i = 19 then unitSecure s 0x09
  else if 20 ≤ i ∧ i < 52 then rbit s R.PART_OQ_OWN (i - 20)
  else if 56 ≤ i ∧ i < 120 then rbit s R.PART_GT_OWN (i - 56)
  else if 120 ≤ i ∧ i < 152 then rbit s R.PART_SPG_OWN (i - 120)
  else if 152 ≤ i ∧ i < 168 then unitSecure s (0x0D + (i - 152) / 4)
  else if 168 ≤ i ∧ i < 184 then unitSecure s 0x11
  else if 184 ≤ i ∧ i < 192 then unitSecure s 0x12
  else if 192 ≤ i ∧ i < 196 then unitSecure s 0x13
  else if i = 196 then unitSecure s 0x14
  else if i = 197 then unitSecure s 0x15
  else if 198 ≤ i ∧ i < 202 then unitSecure s 0x16
  else if 202 ≤ i ∧ i < 207 then unitSecure s (0x17 + (i - 202))
  else if i = 209 then unitSecure s 0x1E
  else if 240 ≤ i ∧ i < 256 then false
  else true

/-- A rising edge of source i at the MSI-X vectors that name it: each sends its message or, masked, sets its pending
bit (R512). The message sent is the latest at wire 0x1A. -/
def msixEdge (s : State) (i : Nat) : State :=
  if !(hasPcie s) then s
  else (List.range 32).foldl (fun s v =>
    if rbits s (R.PCIE_VECSRC v) 8 0 = 0x100 + i then
      if rbit s (R.PCIE_MSIX (2 * v + 1)) 32 then rputb s R.PCIE_PBA v true
      else { s with wire := mset s.wire 0x1A [rget s (R.PCIE_MSIX (2 * v)), rget s (R.PCIE_MSIX (2 * v + 1)) &&& 0xFFFFFFFF] }
    else s) s

/-- A rising edge on source i sets its pending bit; an edge that finds it set merges (R310). A source that is reserved
or absent never pends (R313). -/
def edge (s : State) (i : Nat) : State :=
  if eicPresent s i then rputb (msixEdge s i) (R.EIC_PEND (i / 32)) (i % 32) true else s

end Sys2Proof.Machine
end

