-- ==== Sys2Proof/Machine/Flags.lean ====
section
/-! DEFINITION. Integer, saturating, packed and fixed-point arithmetic of the cores as functions of the operand values,
with the saturation flag where an operation clips (R194 to R211). -/
namespace Sys2Proof.Machine

/-! Flags of FSTAT, by bit (under "Registers" of spec/08_numerics.md) -/

abbrev Flag.NX : Word := 1
abbrev Flag.UF : Word := 2
abbrev Flag.OF : Word := 4
abbrev Flag.DZ : Word := 8
abbrev Flag.NV : Word := 16
abbrev Flag.QSAT : Word := 32

/-- A value and the flags that land with it. -/
abbrev VF := Word × Word

/-- A word as a signed and as an unsigned number. -/
def sInt (w : Word) : Int := w.toInt
def uNat (w : Word) : Nat := w.toNat

/-- An integer as a word, wrapping. -/
def ofInt (i : Int) : Word := BitVec.ofInt 64 i

/-- Bits [31:0] as signed, and a 32-bit result sign-extended (R194). -/
def wInt (w : Word) : Int := (w.setWidth 32).toInt
def sextW (w : Word) : Word := (w.setWidth 32).signExtend 64
def wResult (i : Int) : Word := (BitVec.ofInt 32 i).signExtend 64

/-- An integer clipped to signed `w` bits, and whether it was clipped (R197). -/
def clipS (w : Nat) (i : Int) : Int × Bool :=
  let hi : Int := ((2 ^ (w - 1) : Nat) : Int) - 1
  let lo : Int := - ((2 ^ (w - 1) : Nat) : Int)
  if hi < i then (hi, true) else if i < lo then (lo, true) else (i, false)

/-- An integer clipped to unsigned `w` bits. -/
def clipU (w : Nat) (i : Int) : Int × Bool :=
  let hi : Int := ((2 ^ w : Nat) : Int) - 1
  if hi < i then (hi, true) else if i < 0 then (0, true) else (i, false)

/-- QSAT where an operation clipped (R196). -/
def qsat (b : Bool) : Word := if b then Flag.QSAT else 0

def satS (w : Nat) (i : Int) : VF := let (v, c) := clipS w i; (ofInt v, qsat c)
def satU (w : Nat) (i : Int) : VF := let (v, c) := clipU w i; (ofInt v, qsat c)

/-! Lanes (R194) -/

/-- Lane i of width `w`, unsigned and signed. -/
def lane (w : Nat) (x : Word) (i : Nat) : Nat := (x.toNat >>> (w * i)) % 2 ^ w
def laneS (w : Nat) (x : Word) (i : Nat) : Int := sint w (lane w x i)

/-- A word from its lanes, each reduced to `w` bits. -/
def fromLanes (w : Nat) (l : List Int) : Word :=
  word ((l.zipIdx).foldl (fun a (v, i) => a + (uint w v) * 2 ^ (w * i)) 0)

/-- A lane-wise operation that wraps. -/
def lanes2 (w : Nat) (f : Int → Int → Int) (a b : Word) : VF :=
  (fromLanes w ((List.range (64 / w)).map fun i => f (laneS w a i) (laneS w b i)), 0)

/-- A lane-wise operation that clips to signed `w` bits; QSAT where any lane clipped. -/
def lanes2S (w : Nat) (f : Int → Int → Int) (a b : Word) : VF :=
  let l := (List.range (64 / w)).map fun i => clipS w (f (laneS w a i) (laneS w b i))
  (fromLanes w (l.map Prod.fst), qsat (l.any Prod.snd))

/-! Integer arithmetic (R195, R197) -/

def iMin (a b : Int) : Int := if a ≤ b then a else b
def iMax (a b : Int) : Int := if a ≤ b then b else a
def iAbs (a : Int) : Int := if a < 0 then -a else a

def aluAvg (a b : Word) : Word := ofInt ((sInt a + sInt b + 1) / 2)

/-! Fixed point (R199): round half up, then clip -/

def qmul15 (a b : Int) : Int × Bool := clipS 16 ((a * b + 2 ^ 14) / 2 ^ 15)

/-! Bit fields (R201) -/

/-- Position and effective width of a field control. -/
def fieldCtl (c : Word) : Nat × Nat :=
  let pos := bits c 5 0
  (pos, min (bits c 12 6) (64 - pos))

def bfExtU (x c : Word) : Word := let (p, w) := fieldCtl c; word ((x.toNat >>> p) % 2 ^ w)
def bfExtS (x c : Word) : Word :=
  let (p, w) := fieldCtl c
  if w = 0 then 0 else ofInt (sint w ((x.toNat >>> p) % 2 ^ w))
def bfIns (d x c : Word) : Word :=
  let (p, w) := fieldCtl c
  if w = 0 then d else setBits d (p + w - 1) p (x.toNat % 2 ^ w)

def clz64 (x : Word) : Nat := ((List.range 64).find? fun i => x.getLsbD (63 - i)).getD 64
def ctz64 (x : Word) : Nat := ((List.range 64).find? fun i => x.getLsbD i).getD 64
def popc64 (x : Word) : Nat := (List.range 64).foldl (fun a i => a + b2n (x.getLsbD i)) 0
def brev64 (x : Word) : Word := word ((List.range 64).foldl (fun a i => a * 2 + b2n (x.getLsbD i)) 0)
def bswap64 (x : Word) : Word := word (beNat (leBytes 8 x.toNat))
def bswap32 (x : Word) : Word := sextW (word (beNat (leBytes 4 (x.toNat % 2 ^ 32))))

/-! Shifts (R202) -/

/-- The operations of the shift table, by FN; `sh` is the amount, already taken from its bits. -/
def shiftOp (fn : Nat) (x : Word) (sh : Nat) : VF :=
  match fn with
  | 0 => (x <<< sh, 0)
  | 1 => (x >>> sh, 0)
  | 2 => (x.sshiftRight sh, 0)
  | 3 => (x.rotateLeft sh, 0)
  | 4 => (x.rotateRight sh, 0)
  | 5 => (sextW (x <<< sh), 0)
  | 6 => (sextW ((x &&& 0xFFFFFFFF) >>> sh), 0)
  | 7 => (wResult (wInt x / (2 ^ sh : Nat)), 0)
  | 8 => satS 64 (sInt x * (2 ^ sh : Nat))
  | _ => (if sh = 0 then x else ofInt ((sInt x + (2 ^ (sh - 1) : Nat)) / (2 ^ sh : Nat)), 0)

/-- The shift amount from a word: five bits for the W forms, six otherwise. -/
def shAmount (fn : Nat) (v : Word) : Nat := if fn = 5 ∨ fn = 6 ∨ fn = 7 then bits v 4 0 else bits v 5 0

/-! Permute (R204) -/

def shufB (x c : Word) : Word :=
  word (leNat ((List.range 8).map fun i =>
    let k := bits c (4 * i + 3) (4 * i)
    if k < 8 then BitVec.ofNat 8 (lane 8 x k) else 0))

def fromN (w : Nat) (l : List Nat) : Word := fromLanes w (l.map fun n => (n : Int))

/-! Divide (R211): results fixed for every operand -/

def divS (w : Nat) (a b : Int) : Int :=
  if b = 0 then -1 else if a = - ((2 ^ (w - 1) : Nat) : Int) ∧ b = -1 then a else a.tdiv b
def remS (w : Nat) (a b : Int) : Int :=
  if b = 0 then a else if a = - ((2 ^ (w - 1) : Nat) : Int) ∧ b = -1 then 0 else a.tmod b

/-! Compares (R208) -/

def cmpVal (c : CmpC) (a b : Word) : Bool :=
  match c with
  | .eq => a = b
  | .ne => a ≠ b
  | .lt => sInt a < sInt b
  | .ge => sInt b ≤ sInt a
  | .ltu => a.toNat < b.toNat
  | .geu => b.toNat ≤ a.toNat
  | .any => (a &&& b) ≠ 0
  | .none => (a &&& b) = 0

def plogVal (f : PlogF) (a b : Bool) : Bool :=
  match f with
  | .pand => a && b
  | .por => a || b
  | .pxor => a ^^ b
  | .pandn => a && !b
  | .porn => a || !b

end Sys2Proof.Machine
end

