-- ==== Sys2Proof/Machine/Float.lean ====
section
/-! DEFINITION. Floating point and the exact accumulators (spec/08_numerics.md): every operation computes its exact
value and rounds once. -/
namespace Sys2Proof.Machine

/-- A format of R240: exponent and fraction bits. -/
structure FloatFmt where
  ew : Nat
  fw : Nat
  deriving DecidableEq, Repr

def fmtOf : Fmt → FloatFmt
  | .s => ⟨8, 23⟩
  | .d => ⟨11, 52⟩
  | .h => ⟨5, 10⟩
  | .bf => ⟨8, 7⟩

def pfmtOf : PFmt → FloatFmt
  | .h => ⟨5, 10⟩
  | .bf => ⟨8, 7⟩
  | .s => ⟨8, 23⟩

def FloatFmt.width (f : FloatFmt) : Nat := 1 + f.ew + f.fw
def FloatFmt.p (f : FloatFmt) : Nat := f.fw + 1
def FloatFmt.bias (f : FloatFmt) : Nat := 2 ^ (f.ew - 1) - 1
def FloatFmt.emin (f : FloatFmt) : Int := 1 - (f.bias : Int)
def FloatFmt.inf (f : FloatFmt) : Nat := (2 ^ f.ew - 1) * 2 ^ f.fw
def FloatFmt.nan (f : FloatFmt) : Nat := f.inf + 2 ^ (f.fw - 1)
def FloatFmt.signBit (f : FloatFmt) : Nat := 2 ^ (f.ew + f.fw)

/-- What an operand is: a NaN, quiet or signalling; an infinity; or the finite number ± m × 2^e. -/
inductive FV where
  | nan (signalling : Bool)
  | inf (neg : Bool)
  | fin (neg : Bool) (m : Nat) (e : Int)
  deriving DecidableEq, Repr

/-- FCTL in effect: rounding mode and the flush modes (R245, R251, R252). -/
structure FCtl where
  rm : Nat
  ftz : Bool
  daz : Bool
  deriving DecidableEq, Repr

def fctlOf (w : Word) : FCtl := ⟨bits w 2 0, bit w 3, bit w 4⟩

/-- An operand unpacked; while DAZ is set a subnormal reads as a zero of its sign (R241, R251). -/
def unpack (f : FloatFmt) (daz : Bool) (x : Nat) : FV :=
  let neg : Bool := (x / f.signBit) % 2 = 1
  let ex := (x / 2 ^ f.fw) % 2 ^ f.ew
  let fr := x % 2 ^ f.fw
  if ex = 2 ^ f.ew - 1 then (if fr = 0 then .inf neg else .nan (fr < 2 ^ (f.fw - 1)))
  else if ex = 0 then (if daz then .fin neg 0 0 else .fin neg fr (f.emin - f.fw))
  else .fin neg (2 ^ f.fw + fr) ((ex : Int) - f.bias - f.fw)

/-- The number of bits of a natural number. -/
def bitLen (n : Nat) : Nat := if n = 0 then 0 else Nat.log2 n + 1

/-- m / 2^k rounded to an integer by mode (R245), and whether it was inexact. -/
def roundShift (rm : Nat) (neg : Bool) (m k : Nat) : Nat × Bool :=
  let q := m / 2 ^ k
  let r := m % 2 ^ k
  if r = 0 then (q, false)
  else
    let up := match rm with
      | 0 => 2 ^ k < 2 * r || (2 * r = 2 ^ k && q % 2 = 1)
      | 1 => false
      | 2 => neg
      | 3 => !neg
      | _ => 2 ^ k ≤ 2 * r
    (if up then q + 1 else q, true)

/-- The exact nonzero value ± m × 2^e rounded once to a format: result bits and flags (R246, R247, R252). -/
def roundTo (f : FloatFmt) (c : FCtl) (neg : Bool) (m : Nat) (e : Int) : Nat × Word :=
  let sg := if neg then f.signBit else 0
  let top : Int := e + bitLen m - 1
  let qmin : Int := f.emin - f.fw
  let q := max (top - f.fw) qmin
  let (n, inx) := if q ≤ e then (m * 2 ^ (e - q).toNat, false) else roundShift c.rm neg m (q - e).toNat
  -- tininess after rounding: p bits, exponent unbounded
  let tiny : Bool :=
    if f.emin ≤ top then false
    else if top < f.emin - 1 then true
    else
      let q' := top - f.fw
      let n' := if q' ≤ e then m * 2 ^ (e - q').toNat else (roundShift c.rm neg m (q' - e).toNat).1
      n' < 2 ^ f.p
  if tiny ∧ c.ftz then (sg, Flag.UF ||| Flag.NX)
  else
    let bitsN := (q - qmin).toNat * 2 ^ f.fw + n
    if f.inf ≤ bitsN then
      let toInf : Bool := c.rm = 0 || c.rm = 4 || (c.rm = 2 && neg) || (c.rm = 3 && !neg)
      (sg + (if toInf then f.inf else f.inf - 1), Flag.OF ||| Flag.NX)
    else (sg + bitsN, (if inx then Flag.NX else 0) ||| (if tiny ∧ inx then Flag.UF else 0))

def fzero (f : FloatFmt) (neg : Bool) : Nat := if neg then f.signBit else 0
def finf (f : FloatFmt) (neg : Bool) : Nat := f.inf + (if neg then f.signBit else 0)

/-- A result: bits of the format and flags. -/
abbrev FR := Nat × Word

def isSNan : FV → Bool | .nan true => true | _ => false
def isNan : FV → Bool | .nan _ => true | _ => false

/-- The canonical NaN, with NV where an operand is signalling (R214, R248, R249). -/
def nanResult (f : FloatFmt) (xs : List FV) : FR := (f.nan, if xs.any isSNan then Flag.NV else 0)

/-- The exact sum of two finite numbers, rounded; the sign of a zero result as R250 lays down. -/
def addFin (f : FloatFmt) (c : FCtl) (n1 : Bool) (m1 : Nat) (e1 : Int) (n2 : Bool) (m2 : Nat) (e2 : Int) : FR :=
  let e := min e1 e2
  let v (n : Bool) (m : Nat) (x : Int) : Int := (if n then -1 else 1) * ((m * 2 ^ (x - e).toNat : Nat) : Int)
  let s := v n1 m1 e1 + v n2 m2 e2
  if s = 0 then (fzero f (if n1 = n2 then n1 else c.rm = 2), 0)
  else roundTo f c (s < 0) s.natAbs e

/-- Addition of two values already unpacked. -/
def faddV (f : FloatFmt) (c : FCtl) (a b : FV) : FR :=
  match a, b with
  | .nan _, _ | _, .nan _ => nanResult f [a, b]
  | .inf x, .inf y => if x = y then (finf f x, 0) else (f.nan, Flag.NV)
  | .inf x, _ => (finf f x, 0)
  | _, .inf y => (finf f y, 0)
  | .fin n1 m1 e1, .fin n2 m2 e2 =>
    if m1 = 0 ∧ m2 = 0 then (fzero f (if n1 = n2 then n1 else c.rm = 2), 0)
    else addFin f c n1 m1 e1 n2 m2 e2

def fnegV : FV → FV
  | .nan s => .nan s
  | .inf n => .inf (!n)
  | .fin n m e => .fin (!n) m e

def fmulV (f : FloatFmt) (c : FCtl) (a b : FV) : FR :=
  match a, b with
  | .nan _, _ | _, .nan _ => nanResult f [a, b]
  | .inf x, .inf y => (finf f (x ^^ y), 0)
  | .inf x, .fin y m _ => if m = 0 then (f.nan, Flag.NV) else (finf f (x ^^ y), 0)
  | .fin x m _, .inf y => if m = 0 then (f.nan, Flag.NV) else (finf f (x ^^ y), 0)
  | .fin n1 m1 e1, .fin n2 m2 e2 =>
    if m1 * m2 = 0 then (fzero f (n1 ^^ n2), 0) else roundTo f c (n1 ^^ n2) (m1 * m2) (e1 + e2)

/-- d + a × b, rounded once; an infinite and a zero factor set NV even beside a quiet NaN (R214, R248). -/
def fmaV (f : FloatFmt) (c : FCtl) (d a b : FV) : FR :=
  let invalid : Bool := match a, b with
    | .inf _, .fin _ 0 _ => true
    | .fin _ 0 _, .inf _ => true
    | _, _ => false
  if invalid then (f.nan, Flag.NV)
  else match d, a, b with
    | .nan _, _, _ | _, .nan _, _ | _, _, .nan _ => nanResult f [d, a, b]
    | d, .fin n1 m1 e1, .fin n2 m2 e2 =>
      match d with
      | .inf x => (finf f x, 0)
      | .fin n m e =>
        if m = 0 ∧ m1 * m2 = 0 then (fzero f (if n = (n1 ^^ n2) then n else c.rm = 2), 0)
        else addFin f c n m e (n1 ^^ n2) (m1 * m2) (e1 + e2)
      | .nan _ => (f.nan, 0)
    | d, a, b =>
      let sg (v : FV) : Bool := match v with | .inf n => n | .fin n _ _ => n | .nan _ => false
      let ps := sg a ^^ sg b
      match d with
      | .inf x => if x = ps then (finf f x, 0) else (f.nan, Flag.NV)
      | _ => (finf f ps, 0)

def fdivV (f : FloatFmt) (c : FCtl) (a b : FV) : FR :=
  match a, b with
  | .nan _, _ | _, .nan _ => nanResult f [a, b]
  | .inf _, .inf _ => (f.nan, Flag.NV)
  | .inf x, .fin y _ _ => (finf f (x ^^ y), 0)
  | .fin x _ _, .inf y => (fzero f (x ^^ y), 0)
  | .fin n1 m1 e1, .fin n2 m2 e2 =>
    if m1 = 0 ∧ m2 = 0 then (f.nan, Flag.NV)
    else if m2 = 0 then (finf f (n1 ^^ n2), Flag.DZ)
    else if m1 = 0 then (fzero f (n1 ^^ n2), 0)
    else
      let k := f.p + 2 + bitLen m2
      let q := (m1 * 2 ^ k) / m2
      let st := if (m1 * 2 ^ k) % m2 = 0 then 0 else 1
      roundTo f c (n1 ^^ n2) (2 * q + st) (e1 - e2 - k - 1)

def fsqrtV (f : FloatFmt) (c : FCtl) (a : FV) : FR :=
  match a with
  | .nan _ => nanResult f [a]
  | .inf n => if n then (f.nan, Flag.NV) else (finf f false, 0)
  | .fin n m e =>
    if m = 0 then (fzero f n, 0)
    else if n then (f.nan, Flag.NV)
    else
      let odd : Nat := if e % 2 = 0 then 0 else 1
      let k := f.p + 2
      let x := m * 2 ^ (odd + 2 * k)
      let r := rootBits2 x (bitLen x / 2 + 1) 0
      let st := if r * r = x then 0 else 1
      roundTo f c false (2 * r + st) ((e - odd) / 2 - k - 1)
where
  /-- The integer square root, by bits from the top. -/
  rootBits2 (x : Nat) : Nat → Nat → Nat
    | 0, r => r
    | b + 1, r => if (r + 2 ^ b) * (r + 2 ^ b) ≤ x then rootBits2 x b (r + 2 ^ b) else rootBits2 x b r

/-- a < b and a = b for numbers, with −0 equal to +0. -/
def fltV (a b : FV) : Bool :=
  match a, b with
  | .inf x, .inf y => x && !y
  | .inf x, .fin _ _ _ => x
  | .fin _ _ _, .inf y => !y
  | .fin n1 m1 e1, .fin n2 m2 e2 =>
    let e := min e1 e2
    let v (n : Bool) (m : Nat) (x : Int) : Int := (if n then -1 else 1) * ((m * 2 ^ (x - e).toNat : Nat) : Int)
    v n1 m1 e1 < v n2 m2 e2
  | _, _ => false

def feqV (a b : FV) : Bool := !isNan a && !isNan b && !fltV a b && !fltV b a

/-- The bits of an operand as it is read under DAZ. -/
def dazBits (f : FloatFmt) (daz : Bool) (x : Nat) : Nat :=
  if daz ∧ (x / 2 ^ f.fw) % 2 ^ f.ew = 0 then x / f.signBit % 2 * f.signBit else x % 2 ^ f.width

/-- minimumNumber and maximumNumber (R213, R214, R248). -/
def fminmax (isMin : Bool) (f : FloatFmt) (c : FCtl) (x y : Nat) : FR :=
  let a := unpack f c.daz x
  let b := unpack f c.daz y
  let fl : Word := if isSNan a || isSNan b then Flag.NV else 0
  let xb := dazBits f c.daz x
  let yb := dazBits f c.daz y
  let neg (v : Nat) : Bool := v / f.signBit % 2 = 1
  if isNan a && isNan b then (f.nan, fl)
  else if isNan a then (yb, fl)
  else if isNan b then (xb, fl)
  else
    let less : Bool := fltV a b || (feqV a b && neg xb && !neg yb)
    ((if less = isMin then xb else yb), fl)

/-- The scalar operations of R213, by FN; d is read by FMA and FMS only. -/
def fop (fn : Nat) (f : FloatFmt) (c : FCtl) (d x y : Nat) : FR :=
  let a := unpack f c.daz x
  let b := unpack f c.daz y
  let dv := unpack f c.daz d
  match fn with
  | 0 => faddV f c a b
  | 1 => faddV f c a (fnegV b)
  | 2 => fmulV f c a b
  | 3 => fmaV f c dv a b
  | 4 => fmaV f c dv (fnegV a) b
  | 5 => fminmax true f c x y
  | 6 => fminmax false f c x y
  | 7 => fdivV f c a b
  | 8 => fsqrtV f c a
  | 9 => ((if x / f.signBit % 2 = 1 then x % f.signBit else x % f.signBit + f.signBit), 0)
  | 10 => (x % f.signBit, 0)
  | _ => (x % f.signBit + y / f.signBit % 2 * f.signBit, 0)

/-- FCMP's predicate and flags (R209). -/
def fcmpVal (cond : FcmpC) (f : FloatFmt) (c : FCtl) (x y : Nat) : Bool × Word :=
  let a := unpack f c.daz x
  let b := unpack f c.daz y
  let nan := isNan a || isNan b
  let sn := isSNan a || isSNan b
  let ord := match cond with | .lt | .le => true | _ => false
  let v := match cond with
    | .eq => feqV a b
    | .lt => !nan && fltV a b
    | .le => !nan && (fltV a b || feqV a b)
    | .un => nan
  (v, if sn || (nan && ord) then Flag.NV else 0)

/-- Conversion between formats: narrowing rounds and may flush, widening is exact (R216, R217, R248). -/
def fcvt (src dst : FloatFmt) (c : FCtl) (x : Nat) : FR :=
  match unpack src c.daz x with
  | .nan s => (dst.nan, if s then Flag.NV else 0)
  | .inf n => (finf dst n, 0)
  | .fin n m e =>
    if m = 0 then (fzero dst n, 0)
    else roundTo dst (if src.width < dst.width then { c with ftz := false } else c) n m e

/-- Float to signed integer of `w` bits by mode `rm`, clipping with NV (R217). -/
def fToInt (f : FloatFmt) (c : FCtl) (rm w : Nat) (x : Nat) : VF :=
  let hi : Int := ((2 ^ (w - 1) : Nat) : Int) - 1
  let lo : Int := - ((2 ^ (w - 1) : Nat) : Int)
  match unpack f c.daz x with
  | .nan _ => (0, Flag.NV)
  | .inf n => (ofInt (if n then lo else hi), Flag.NV)
  | .fin n m e =>
    let (k, inx) := if 0 ≤ e then (m * 2 ^ e.toNat, false) else roundShift rm n m (-e).toNat
    let v : Int := if n then -(k : Int) else k
    if hi < v then (ofInt hi, Flag.NV)
    else if v < lo then (ofInt lo, Flag.NV)
    else (ofInt v, if inx then Flag.NX else 0)

/-- Signed integer to float (R216). -/
def fOfInt (f : FloatFmt) (c : FCtl) (v : Int) : FR :=
  if v = 0 then (0, 0) else roundTo f c (v < 0) v.natAbs 0

/-- A lane-wise operation of R215: the flags of every lane ORed. -/
def plop (fn : Nat) (f : FloatFmt) (c : FCtl) (d x y : Word) : VF :=
  let w := f.width
  let r := (List.range (64 / w)).map fun i => fop fn f c (lane w d i) (lane w x i) (lane w y i)
  (fromN w (r.map Prod.fst), r.foldl (fun a p => a ||| p.2) 0)

/-! Exact accumulators (R253 to R257) -/

/-- Record bits of XASTAT: NAN, INV, PINF, NINF, OVF. -/
abbrev Rec.NAN : BitVec 5 := 1
abbrev Rec.INV : BitVec 5 := 2
abbrev Rec.PINF : BitVec 5 := 4
abbrev Rec.NINF : BitVec 5 := 8
abbrev Rec.OVF : BitVec 5 := 16

/-- One product for an accumulation: the integer it adds, in units of 2^-298, and the record bits it sets (R255). -/
def xprod (f : FloatFmt) (negate : Bool) (x y : Nat) : Int × BitVec 5 :=
  let a := unpack f false x
  let b := unpack f false y
  let sg (v : FV) : Bool := match v with | .inf n => n | .fin n _ _ => n | .nan _ => false
  let infRec : BitVec 5 := if (sg a ^^ sg b) ^^ negate then Rec.NINF else Rec.PINF
  match a, b with
  | .nan _, _ | _, .nan _ => (0, if isSNan a || isSNan b then Rec.NAN ||| Rec.INV else Rec.NAN)
  | .inf _, .fin _ 0 _ => (0, Rec.INV)
  | .fin _ 0 _, .inf _ => (0, Rec.INV)
  | .inf _, _ => (0, infRec)
  | _, .inf _ => (0, infRec)
  | .fin n1 m1 e1, .fin n2 m2 e2 =>
    let v : Int := ((m1 * m2 * 2 ^ (e1 + e2 + 298).toNat : Nat) : Int)
    ((if (n1 ^^ n2) ^^ negate then -v else v), 0)

/-- The products of a list of operand pairs, summed. -/
def xsum (f : FloatFmt) (negate : Bool) (l : List (Nat × Nat)) : Int × BitVec 5 :=
  l.foldl (fun (a : Int × BitVec 5) p => let (v, r) := xprod f negate p.1 p.2; (a.1 + v, a.2 ||| r)) (0, 0)

/-- An accumulation applied: the sum wraps modulo 2^704, and a carry out of the sign sets OVF (R253, R255). -/
def xacc (a : Xacc) (x : Xacc) : Xacc × BitVec 5 :=
  let s := a.toInt + x.toInt
  let r := BitVec.ofInt 704 s
  (r, if r.toInt = s then 0 else Rec.OVF)

/-- A read-out (R256). -/
def xread (f : FloatFmt) (c : FCtl) (a : Xacc) (rec : BitVec 5) : FR :=
  if rec.getLsbD 1 || rec.getLsbD 4 || (rec.getLsbD 2 && rec.getLsbD 3) then (f.nan, Flag.NV)
  else if rec.getLsbD 0 then (f.nan, 0)
  else if rec.getLsbD 2 then (finf f false, 0)
  else if rec.getLsbD 3 then (finf f true, 0)
  else if a = 0 then (0, 0)
  else roundTo f c (a.toInt < 0) a.toInt.natAbs (-298)

end Sys2Proof.Machine
end

