-- ==== Sys2Proof/Machine/Crypto.lean ====
section
/-! DEFINITION. The symmetric algorithms and hashes that the spec names by their published standards: AES (FIPS 197)
with the modes of SP 800-38A, B, D, E and F, SHA-2 (FIPS 180-4), SHA-3 and SHAKE (FIPS 202), HMAC (FIPS 198) and the
counter-mode KDF of SP 800-108. The standards are outside the spec: log entry 6 marks them PRESUMED. -/
namespace Sys2Proof.Machine

/-! AES -/

/-- Multiplication in GF(2^8) modulo x^8 + x^4 + x^3 + x + 1. -/
def gf8 (a b : Byte) : Byte :=
  ((List.range 8).foldl (fun (st : Byte × Byte) i =>
    let r := if b.getLsbD i then st.1 ^^^ st.2 else st.1
    let x := if st.2.getLsbD 7 then (st.2 <<< 1) ^^^ 0x1B else st.2 <<< 1
    (r, x)) (0, a)).1

/-- x^254, the inverse of x in GF(2^8), with 0 for 0. -/
def gf8inv (x : Byte) : Byte :=
  let x2 := gf8 x x
  let x4 := gf8 x2 x2
  let x8 := gf8 x4 x4
  let x16 := gf8 x8 x8
  let x32 := gf8 x16 x16
  let x64 := gf8 x32 x32
  let x128 := gf8 x64 x64
  gf8 x2 (gf8 x4 (gf8 x8 (gf8 x16 (gf8 x32 (gf8 x64 x128)))))

/-- The AES S-box. -/
def sbox (x : Byte) : Byte :=
  let y := gf8inv x
  y ^^^ y.rotateLeft 1 ^^^ y.rotateLeft 2 ^^^ y.rotateLeft 3 ^^^ y.rotateLeft 4 ^^^ 0x63

/-- The inverse S-box. -/
def sboxInv (y : Byte) : Byte :=
  gf8inv (y.rotateLeft 1 ^^^ y.rotateLeft 3 ^^^ y.rotateLeft 6 ^^^ 0x05)

/-- Bytewise exclusive or, to the length of the shorter. -/
def xorB (a b : List Byte) : List Byte := List.zipWith (· ^^^ ·) a b

/-- The key schedule of a key of 16, 24 or 32 bytes: round keys of 16 bytes. -/
def aesKeys (key : List Byte) : List (List Byte) :=
  let nk := key.length / 4
  let rounds := nk + 6
  let w0 : List (List Byte) := (List.range nk).map fun i => sub key (4 * i) 4
  let ws := ((List.range (4 * (rounds + 1) - nk)).foldl (fun (st : List (List Byte) × Byte) j =>
    let i := j + nk
    let prev := st.1.getD (i - 1) []
    let t := if i % nk = 0 then
        xorB ((sub prev 1 3 ++ sub prev 0 1).map sbox) [st.2, 0, 0, 0]
      else if 6 < nk ∧ i % nk = 4 then prev.map sbox else prev
    (st.1 ++ [xorB (st.1.getD (i - nk) []) t], if i % nk = 0 then gf8 st.2 2 else st.2)) (w0, 1)).1
  (List.range (rounds + 1)).map fun r => ((List.range 4).map fun c => ws.getD (4 * r + c) []).flatten

def shiftRows (s : List Byte) : List Byte := (List.range 16).map fun i => s.getD ((i + 4 * (i % 4)) % 16) 0
def shiftRowsInv (s : List Byte) : List Byte := (List.range 16).map fun i => s.getD ((i + 12 * (i % 4)) % 16) 0

/-- MixColumns with the given row of coefficients. -/
def mixCols (m : List Byte) (s : List Byte) : List Byte :=
  (List.range 16).map fun i =>
    (List.range 4).foldl (fun a j => a ^^^ gf8 (m.getD ((j + 4 - i % 4) % 4) 0) (s.getD (i / 4 * 4 + j) 0)) 0

/-- One block under AES. -/
def aesEnc (key blk : List Byte) : List Byte :=
  let ks := aesKeys key
  let n := ks.length - 1
  let s := (List.range (n - 1)).foldl (fun s r =>
    xorB (mixCols [2, 3, 1, 1] (shiftRows (s.map sbox))) (ks.getD (r + 1) [])) (xorB blk (ks.getD 0 []))
  xorB (shiftRows (s.map sbox)) (ks.getD n [])

/-- One block under inverse AES. -/
def aesDec (key blk : List Byte) : List Byte :=
  let ks := aesKeys key
  let n := ks.length - 1
  let s := (List.range (n - 1)).foldl (fun s r =>
    mixCols [14, 11, 13, 9] (xorB ((shiftRowsInv s).map sboxInv) (ks.getD (n - 1 - r) []))) (xorB blk (ks.getD n []))
  xorB ((shiftRowsInv s).map sboxInv) (ks.getD 0 [])

/-- The blocks of 16 bytes of a message, the last perhaps short. -/
def blocks (n : Nat) (l : List Byte) : List (List Byte) :=
  (List.range ((l.length + n - 1) / n)).map fun i => (l.drop (n * i)).take n

def aesCbcEnc (key iv msg : List Byte) : List Byte :=
  ((blocks 16 msg).foldl (fun (st : List Byte × List Byte) b =>
    let c := aesEnc key (xorB b st.2); (st.1 ++ c, c)) ([], iv)).1

def aesCbcDec (key iv msg : List Byte) : List Byte :=
  ((blocks 16 msg).foldl (fun (st : List Byte × List Byte) b =>
    (st.1 ++ xorB (aesDec key b) st.2, b)) ([], iv)).1

/-- A big-endian counter block plus `i`, over its last `w` bytes. -/
def incBlock (blk : List Byte) (w i : Nat) : List Byte :=
  blk.take (16 - w) ++ beBytes w ((beNat (blk.drop (16 - w)) + i) % 256 ^ w)

/-- CTR mode from the counter block `ctr`, counting over its last `w` bytes. -/
def aesCtr (key ctr : List Byte) (w : Nat) (msg : List Byte) : List Byte :=
  ((blocks 16 msg).zipIdx.map fun (b, i) => xorB b (aesEnc key (incBlock ctr w i))).flatten

/-- Multiplication in GF(2^128) in the bit order of SP 800-38D: blocks as 128-bit numbers, bit 127 first. -/
def ghMul (x y : BitVec 128) : BitVec 128 :=
  ((List.range 128).foldl (fun (st : BitVec 128 × BitVec 128) i =>
    let z := if x.getLsbD (127 - i) then st.1 ^^^ st.2 else st.1
    let v := if st.2.getLsbD 0 then (st.2 >>> 1) ^^^ (0xE1#128 <<< 120) else st.2 >>> 1
    (z, v)) (0, y)).1

def ghash (h : BitVec 128) (bs : List (BitVec 128)) : BitVec 128 := bs.foldl (fun a b => ghMul (a ^^^ b) h) 0

def blk128 (b : List Byte) : BitVec 128 := BitVec.ofNat 128 (beNat (sub b 0 16))

def pad16 (l : List Byte) : List (BitVec 128) := (blocks 16 l).map blk128

/-- The GCM tag, 16 bytes, for a 96-bit IV. -/
def gcmTag (key iv aad ct : List Byte) : List Byte :=
  let h := blk128 (aesEnc key (List.replicate 16 0))
  let len := BitVec.ofNat 128 (aad.length * 8 * 2 ^ 64 + ct.length * 8)
  let s := ghash h (pad16 aad ++ pad16 ct ++ [len])
  xorB (beBytes 16 s.toNat) (aesEnc key (iv ++ [0, 0, 0, 1]))

def gcmCrypt (key iv msg : List Byte) : List Byte := aesCtr key (iv ++ [0, 0, 0, 2]) 4 msg

/-- XTS multiplication of a tweak by alpha, bytes lowest first. -/
def xtsDouble (t : List Byte) : List Byte :=
  let n := leNat t
  let d := (2 * n) % 2 ^ 128
  leBytes 16 (if 2 ^ 127 ≤ n then d ^^^ 0x87 else d)

/-- AES-XTS of whole blocks with ciphertext stealing for a short last block. -/
def aesXts (enc : Bool) (k1 k2 iv msg : List Byte) : List Byte :=
  let f := fun t b => if enc then xorB (aesEnc k1 (xorB b t)) t else xorB (aesDec k1 (xorB b t)) t
  let bs := blocks 16 msg
  let tw := (List.range bs.length).foldl (fun (l : List (List Byte)) _ => l ++ [xtsDouble (l.getLastD [])])
    [aesEnc k2 iv]
  let tail := msg.length % 16
  if tail = 0 then ((List.range bs.length).map fun i => f (tw.getD i []) (bs.getD i [])).flatten
  else
    let m := bs.length - 2
    let head := ((List.range m).map fun i => f (tw.getD i []) (bs.getD i [])).flatten
    let (ta, tb) := if enc then (tw.getD m [], tw.getD (m + 1) []) else (tw.getD (m + 1) [], tw.getD m [])
    let c := f ta (bs.getD m [])
    let p := bs.getD (m + 1) []
    head ++ f tb (p ++ c.drop tail) ++ c.take tail

/-- AES-CMAC (SP 800-38B). -/
def aesCmac (key msg : List Byte) : List Byte :=
  let dbl (b : List Byte) : List Byte :=
    let n := beNat b
    beBytes 16 (if 2 ^ 127 ≤ n then ((2 * n) % 2 ^ 128) ^^^ 0x87 else 2 * n)
  let k1 := dbl (aesEnc key (List.replicate 16 0))
  let k2 := dbl k1
  let bs := if msg.isEmpty then [[]] else blocks 16 msg
  let last := bs.getLastD []
  let lst := if last.length = 16 then xorB last k1
    else xorB (last ++ [0x80] ++ List.replicate (15 - last.length) 0) k2
  (bs.dropLast ++ [lst]).foldl (fun c b => aesEnc key (xorB c b)) (List.replicate 16 0)

/-- The wrapping function W of SP 800-38F over 8-byte semiblocks, the first being the integrity value. -/
def kwWrap (key s : List Byte) : List Byte :=
  let n := s.length / 8 - 1
  let st := (List.range (6 * n)).foldl (fun (st : List Byte × List (List Byte)) t =>
    let b := aesEnc key (st.1 ++ st.2.getD 0 [])
    (xorB (b.take 8) (beBytes 8 (t + 1)), st.2.drop 1 ++ [b.drop 8])) (s.take 8, blocks 8 (s.drop 8))
  st.1 ++ st.2.flatten

/-- The inverse of `kwWrap`. -/
def kwUnwrap (key c : List Byte) : List Byte :=
  let n := c.length / 8 - 1
  let st := (List.range (6 * n)).foldl (fun (st : List Byte × List (List Byte)) i =>
    let t := 6 * n - i
    let b := aesDec key (xorB st.1 (beBytes 8 t) ++ st.2.getLastD [])
    (b.take 8, b.drop 8 :: st.2.dropLast)) (c.take 8, blocks 8 (c.drop 8))
  st.1 ++ st.2.flatten

/-! SHA-2. The round constants are the leading fraction bits of cube roots of the first primes, and the initial values
those of square roots, as FIPS 180-4 defines them. -/

/-- The first `n` primes from `k` on, looking at `fuel` numbers. -/
def primesFrom : Nat → Nat → Nat → List Nat
  | 0, _, _ => []
  | _, 0, _ => []
  | f + 1, n + 1, k =>
    if (List.range k).all (fun d => d < 2 || k % d ≠ 0) ∧ 2 ≤ k then k :: primesFrom f n (k + 1)
    else primesFrom f (n + 1) (k + 1)

/-- The largest r below 2^b with r^e at most x, by bits. -/
def rootBits (e x : Nat) : Nat → Nat → Nat
  | 0, r => r
  | b + 1, r => if (r + 2 ^ b) ^ e ≤ x then rootBits e x b (r + 2 ^ b) else rootBits e x b r

/-- `w` fraction bits of the square root of p. -/
def sqrtFrac (w p : Nat) : Nat := rootBits 2 (p * 2 ^ (2 * w)) (w + 6) 0 % 2 ^ w
/-- `w` fraction bits of the cube root of p. -/
def cbrtFrac (w p : Nat) : Nat := rootBits 3 (p * 2 ^ (3 * w)) (w + 4) 0 % 2 ^ w

/-- The rotation and shift amounts of the SHA-2 functions for a word of 32 or 64 bits: Σ0, Σ1, σ0, σ1. -/
def shaRot (w : Nat) : List Nat :=
  if w = 32 then [2, 13, 22, 6, 11, 25, 7, 18, 3, 17, 19, 10] else [28, 34, 39, 14, 18, 41, 1, 8, 7, 19, 61, 6]

/-- SHA-2 compression of all blocks for word width `w`, from initial hash `h0`. -/
def sha2 (w : Nat) (h0 : List Nat) (outLen : Nat) (msg : List Byte) : List Byte :=
  let rounds := if w = 32 then 64 else 80
  let wb := w / 8
  let blk := 16 * wb
  let m := 2 ^ w
  let k := (primesFrom 500 rounds 2).map (cbrtFrac w)
  let rr (x r : Nat) : Nat := (x >>> r) ||| ((x <<< (w - r)) % m)
  let c := shaRot w
  let g (i : Nat) := c.getD i 0
  let zeros := (blk - (msg.length + 1 + 2 * wb) % blk) % blk
  let padded := msg ++ [0x80] ++ List.replicate zeros 0 ++ beBytes (2 * wb) (8 * msg.length)
  let final := (blocks blk padded).foldl (fun (h : List Nat) b =>
    let w0 := (blocks wb b).map beNat
    let ws := (List.range (rounds - 16)).foldl (fun (l : List Nat) i =>
      let a := l.getD (i + 1) 0
      let e := l.getD (i + 14) 0
      let s0 := rr a (g 6) ^^^ rr a (g 7) ^^^ (a >>> g 8)
      let s1 := rr e (g 9) ^^^ rr e (g 10) ^^^ (e >>> g 11)
      l ++ [(l.getD i 0 + s0 + l.getD (i + 9) 0 + s1) % m]) w0
    let v := (List.range rounds).foldl (fun (v : List Nat) i =>
      let x (j : Nat) := v.getD j 0
      let s1 := rr (x 4) (g 3) ^^^ rr (x 4) (g 4) ^^^ rr (x 4) (g 5)
      let ch := (x 4 &&& x 5) ^^^ ((m - 1 - x 4) &&& x 6)
      let t1 := x 7 + s1 + ch + k.getD i 0 + ws.getD i 0
      let s0 := rr (x 0) (g 0) ^^^ rr (x 0) (g 1) ^^^ rr (x 0) (g 2)
      let mj := (x 0 &&& x 1) ^^^ (x 0 &&& x 2) ^^^ (x 1 &&& x 2)
      [(t1 + s0 + mj) % m, x 0, x 1, x 2, (x 3 + t1) % m, x 4, x 5, x 6]) h
    List.zipWith (fun a b => (a + b) % m) h v) h0
  ((final.map (beBytes wb)).flatten).take outLen

def sha256 (msg : List Byte) : List Byte := sha2 32 ((primesFrom 40 8 2).map (sqrtFrac 32)) 32 msg
def sha384 (msg : List Byte) : List Byte := sha2 64 (((primesFrom 80 16 2).drop 8).map (sqrtFrac 64)) 48 msg
def sha512 (msg : List Byte) : List Byte := sha2 64 ((primesFrom 40 8 2).map (sqrtFrac 64)) 64 msg

/-! SHA-3 -/

def rotl64 (x : Word) (n : Nat) : Word := x.rotateLeft n

/-- The rotation offsets of Keccak's rho step, lane x + 5 y. -/
def rhoOffsets : List Nat :=
  [0, 1, 62, 28, 27, 36, 44, 6, 55, 20, 3, 10, 43, 25, 39, 41, 45, 15, 21, 8, 18, 2, 61, 56, 14]

/-- The round constants of Keccak-f[1600], from its 8-bit linear feedback register. -/
def keccakRc (r : Nat) : Word :=
  ((List.range 7).foldl (fun (a : Word) j =>
    let t := 7 * r + j
    let reg := (List.range (t % 255)).foldl (fun (x : Byte) _ =>
      if x.getLsbD 7 then (x <<< 1) ^^^ 0x71 else x <<< 1) (1 : Byte)
    if reg.getLsbD 0 then a ||| (1#64 <<< (2 ^ j - 1)) else a) 0)

/-- Keccak-f[1600] on 25 lanes. -/
def keccakF (st : List Word) : List Word :=
  (List.range 24).foldl (fun (a : List Word) r =>
    let l (i : Nat) := a.getD i 0
    let c := (List.range 5).map fun x => l x ^^^ l (x + 5) ^^^ l (x + 10) ^^^ l (x + 15) ^^^ l (x + 20)
    let d := (List.range 5).map fun x => c.getD ((x + 4) % 5) 0 ^^^ rotl64 (c.getD ((x + 1) % 5) 0) 1
    let t := (List.range 25).map fun i => l i ^^^ d.getD (i % 5) 0
    let b := (List.range 25).map fun i =>
      let x := i % 5
      let y := i / 5
      let src := (x + 3 * y) % 5 + 5 * x
      rotl64 (t.getD src 0) (rhoOffsets.getD src 0)
    (List.range 25).map fun i =>
      let x := i % 5
      let y := i / 5
      let v := b.getD i 0 ^^^ (~~~ (b.getD ((x + 1) % 5 + 5 * y) 0) &&& b.getD ((x + 2) % 5 + 5 * y) 0)
      if i = 0 then v ^^^ keccakRc r else v) st

/-- The sponge with rate `rate` bytes and domain byte `dom`, giving `n` bytes. -/
def keccak (rate : Nat) (dom : Byte) (n : Nat) (msg : List Byte) : List Byte :=
  let z := rate - 1 - msg.length % rate
  let padded := if z = 0 then msg ++ [dom ||| 0x80] else msg ++ [dom] ++ List.replicate (z - 1) 0 ++ [0x80]
  let st := (blocks rate padded).foldl (fun (a : List Word) b =>
    keccakF ((List.range 25).map fun i => a.getD i 0 ^^^ word (fieldAt b (8 * i) 8))) (List.replicate 25 0)
  let out := (List.range ((n + rate - 1) / rate)).foldl (fun (p : List Byte × List Word) _ =>
    (p.1 ++ (((p.2.map fun w => leBytes 8 w.toNat).flatten).take rate), keccakF p.2)) ([], st)
  out.1.take n

def sha3_256 (msg : List Byte) : List Byte := keccak 136 0x06 32 msg
def sha3_512 (msg : List Byte) : List Byte := keccak 72 0x06 64 msg
def shake128 (n : Nat) (msg : List Byte) : List Byte := keccak 168 0x1F n msg
def shake256 (n : Nat) (msg : List Byte) : List Byte := keccak 136 0x1F n msg

/-! HMAC and KDF -/

/-- HMAC over a hash with block size `blk`. -/
def hmac (h : List Byte → List Byte) (blk : Nat) (key msg : List Byte) : List Byte :=
  let k0 := sub (if blk < key.length then h key else key) 0 blk
  h (k0.map (· ^^^ 0x5C) ++ h (k0.map (· ^^^ 0x36) ++ msg))

def hmac256 (key msg : List Byte) : List Byte := hmac sha256 64 key msg
def hmac384 (key msg : List Byte) : List Byte := hmac sha384 128 key msg
def hmac512 (key msg : List Byte) : List Byte := hmac sha512 128 key msg

/-- The counter-mode KDF of SP 800-108 with a 32-bit big-endian counter before the fixed input. -/
def kdfCtr (prf : List Byte → List Byte → List Byte) (len : Nat) (key fixed : List Byte) (n : Nat) : List Byte :=
  (((List.range ((n + len - 1) / len)).map fun i => prf key (beBytes 4 (i + 1) ++ fixed)).flatten).take n

end Sys2Proof.Machine
end

