-- ==== Sys2Proof/Machine/Mem.lean ====
section
/-! DEFINITION. Memory and the checks an access passes: the physical address map (R17), memory in canonical form, PART's
regions (R39 to R44), the sealing engines (R128 to R137), and what a refused access leaves. -/
namespace Sys2Proof.Machine

/-! Memory in canonical form -/

/-- What an unlisted address reads as (log entry 7): zero. Keeve, OTP and Boot ROM are not held in the list. -/
def memDefault (_ : Nat) : Byte := 0

def readByte (s : State) (a : Nat) : Byte := mget s.mem a (memDefault a)

/-- A byte written; the default removes the entry, so equal memories are equal lists. -/
def putByte (m : List Host.Cell) (a : Nat) (v : Byte) : List Host.Cell :=
  if v = memDefault a then mdel m a else mset m a v

def writeByte (s : State) (a : Nat) (v : Byte) : State := { s with mem := putByte s.mem a v }

def readBytes (s : State) (a n : Nat) : List Byte := (List.range n).map fun i => readByte s (a + i)

def writeBytes (s : State) (a : Nat) (l : List Byte) : State :=
  { s with mem := (l.zipIdx).foldl (fun m (v, i) => putByte m (a + i) v) s.mem }

/-- Keys strictly rising and no entry that reads as an unlisted address does. -/
def Memory.wf (m : List Host.Cell) : Bool :=
  (m.zip (m.drop 1)).all (fun (x, y) => x.1 < y.1) && m.all (fun e => e.2 ≠ memDefault e.1)

/-- Memory from `lo` up to but not `hi` cleared. -/
def clearRange (s : State) (lo hi : Nat) : State :=
  { s with mem := s.mem.filter fun e => e.1 < lo ∨ hi ≤ e.1 }

/-! The address map (R17) -/

/-- The row of the address map that an address lies in. -/
inductive Region where
  | bootRom | retention | journal | cellar
  | tun (n off : Nat)
  | keeve (off : Nat) | otp (off : Nat)
  | unit (k off : Nat)
  | xspi | lpddr
  | pcieOut
  | sundik (d off : Nat)
  | unmapped
  /-- absent on the variant, with its bit of SYSCON_ABSENT_SEEN (R26, R27) -/
  | absent (bitNo : Nat)
  deriving DecidableEq, Repr

def regionOf (s : State) (a : Nat) : Region :=
  if a < 0x20000 then .bootRom
  else if 0x0F000000 ≤ a ∧ a < 0x0F010000 then .retention
  else if 0x0F800000 ≤ a ∧ a < 0x0F808000 then .journal
  else if 0x10000000 ≤ a ∧ a < 0x10800000 then (if a - 0x10000000 < cellarSize s then .cellar else .absent 48)
  else if 0x20000000 ≤ a ∧ a < 0x20C00000 then
    let n := (a - 0x20000000) / 0x100000
    let o := (a - 0x20000000) % 0x100000
    if tunCount s ≤ n then .absent (36 + n) else if o < 0x40000 then .tun n o else .unmapped
  else if 0x30000000 ≤ a ∧ a < 0x30040000 then .keeve (a - 0x30000000)
  else if 0x30100000 ≤ a ∧ a < 0x30100400 then .otp (a - 0x30100000)
  else if 0x40000000 ≤ a ∧ a < 0x40240000 then
    let k := (a - 0x40000000) / 0x10000
    if unitPresent s k then .unit k (a % 0x10000) else .absent k
  else if 0x60000000 ≤ a ∧ a < 0x70000000 then .xspi
  else if 0x100000000 ≤ a ∧ a < 0x300000000 then (if a - 0x100000000 < s.lpddr then .lpddr else .unmapped)
  else if 0x800000000 ≤ a ∧ a < 0xC00000000 then (if hasPcie s then .pcieOut else .absent 0x1A)
  else if 0xC00000000 ≤ a ∧ a < 0x1400000000 then
    if unitPresent s 0x1B then .sundik ((a - 0xC00000000) / 0x100000000) (a % 0x100000000) else .absent 0x1B
  else .unmapped

/-- Whether a region is checked by PART's entries (R39). -/
def Region.parted : Region → Bool
  | .cellar | .lpddr | .xspi | .retention => true
  | _ => false

/-- Whether a region is external memory, read through a sealing engine (R128). -/
def Region.external : Region → Bool
  | .lpddr | .xspi => true
  | _ => false

/-! Region entries of PART -/

def rgnAttr (s : State) (i : Nat) : Word := rget s (R.PART_RGN_ATTR i)
def rgnKind (s : State) (i : Nat) : Nat := bits (rgnAttr s i) 7 5
def rgnLo (s : State) (i : Nat) : Nat := rbits s (R.PART_RGN_BASE i) 39 12 * 4096
/-- One past the last byte of an entry. -/
def rgnHi (s : State) (i : Nat) : Nat := (rbits s (R.PART_RGN_LIMIT i) 39 12 + 1) * 4096
def rgnFk (s : State) (i : Nat) : Nat := bits (rgnAttr s i) 11 8
def rgnKey (s : State) (i : Nat) : Nat := bits (rgnAttr s i) 20 16
def rgnUsed (s : State) (i : Nat) : Bool := bit (rgnAttr s i) 0
def tagBase (s : State) (i : Nat) : Nat := rbits s (R.COPPER_SEAL_TAG i) 39 12 * 4096

/-- Whether an entry is a sealed region: KIND 2, 3 or 4 in LPDDR or the xSPI window (R128). -/
def rgnSealed (s : State) (i : Nat) : Bool :=
  rgnUsed s i ∧ 2 ≤ rgnKind s i ∧ rgnKind s i ≤ 4 ∧ (regionOf s (rgnLo s i)).external

/-- An entry in use that R129 or R149 makes invalid. The condition that its tag area overlaps a KIND 2, 3 or 4 range is
taken over every other entry in use. -/
def rgnSealBad (s : State) (i : Nat) : Bool :=
  if rgnSealed s i then
    let n := rgnHi s i - rgnLo s i
    let t := tagBase s i
    n % 0x8000 ≠ 0 || regionOf s t ≠ regionOf s (rgnLo s i) || regionOf s (t + n / 8 - 1) ≠ regionOf s (rgnLo s i) ||
    (List.range 32).any (fun j => rgnUsed s j ∧ 2 ≤ rgnKind s j ∧ rgnKind s j ≤ 4 ∧ rgnLo s j ≤ rgnHi s j ∧
      t < rgnHi s j ∧ rgnLo s j < t + n / 8) ||
    (regionOf s (rgnLo s i) = .xspi ∧ (rget s (R.COPPER_SEAL_EPOCH i)).toNat % 2 ^ 32 = 0)
  else false

/-- An entry breaks a rule of "Overlapping region entries", R129 or R149. -/
def rgnBad (s : State) (i : Nat) : Bool :=
  4 < rgnKind s i || rgnHi s i ≤ rgnLo s i || rgnSealBad s i

def rgnValid (s : State) (i : Nat) : Bool := rgnUsed s i && !(rgnBad s i)

/-- The entry that decides an address: the valid one of lowest index whose range holds it (R39). -/
def rgnFor (s : State) (a : Nat) : Option Nat :=
  (List.range 32).find? fun i => rgnValid s i ∧ rgnLo s i ≤ a ∧ a < rgnHi s i

/-! Checks -/

inductive AccKind where | read | write | fetch
  deriving DecidableEq, Repr

/-- The world that owns a tun's local window at this moment (R697). -/
def tunWindowWorld (s : State) (n : Nat) : World :=
  let c := coreOf s (n + 2)
  if c.order.isSome then coreWorld (n + 2) c else .secure

/-- PART's answer for an access to Cellar, LPDDR, the xSPI window or Retention RAM (R39 to R41, R43, R142). -/
def partCheck (s : State) (r : Req) (a : Nat) (k : AccKind) : Option BusErr :=
  let ext := (regionOf s a).external
  match rgnFor s a with
  | some i =>
    let at' := rgnAttr s i
    let kind := rgnKind s i
    let own := 3 ≤ kind ∧ r.firkin.map Fin.val = some (rgnFk s i)
    if 3 ≤ kind ∧ ¬ own then some .firkinAccess
    else if (¬ own ∧ r.world = .normal ∧ bit at' 1) ∨ (¬ own ∧ r.level = .t ∧ ¬ bit at' 2) ∨
        (k = .write ∧ ¬ bit at' 3) ∨ (k = .fetch ∧ ¬ bit at' 4) then some .regionDenied
    else if k = .fetch ∧ ext ∧ kind ≠ 2 ∧ kind ≠ 3 then some .unsealedFetch
    else none
  | none =>
    if r.world = .normal then some .worldDenied
    else if r.level = .t then some .regionDenied
    else if k = .fetch then (if ext then some .unsealedFetch else some .regionDenied)
    else none

/-- Every check of R44 but SEAL_FAULT; `none` lets the access pass. A unit window answers single registers only, in
Bus.lean: what else would reach one gets REG_WIDTH (R7). -/
def accessCheck (s : State) (r : Req) (a : Nat) (k : AccKind) : Option BusErr :=
  match regionOf s a with
  | .absent _ => some .absentUnit
  | .unmapped => some .unmappedAddr
  | .bootRom =>
    if r.level = .m ∨ r.level = .s then (if k = .write then some .regionDenied else none) else some .worldDenied
  | .journal => some .worldDenied
  | .keeve _ =>
    if r.world = .normal then some .worldDenied
    else if k = .fetch then some .regionDenied else if k = .write then some .keeveDirect else none
  | .otp _ => if r.world = .normal then some .worldDenied else if k = .read then none else some .regionDenied
  | .unit u _ =>
    if k = .fetch then some .regionDenied
    else if r.world = .normal ∧ u ∉ splitUnits ∧ unitSecure s u then some .worldDenied
    else some .regWidth
  | .tun n off =>
    let c := coreOf s (n + 2)
    if rbit s R.STEEP_RETIRED (n + 2) then some .retiredUnit
    else if c.phase = .off ∨ rbits s R.STEEP_STATUS 3 0 = n + 2 then some .steeping
    else match c.fkLines.find? (fun e => e.1 = off / 64) with
      | some e => if r.firkin.map Fin.val = some e.2 then none else some .firkinAccess
      | none =>
        if r.world = .normal ∧ tunWindowWorld s n = .secure then some .worldDenied
        else if k = .fetch then some .regionDenied else none
  | .retention =>
    if 0x0F00F800 ≤ a ∧ k = .write then some .regionDenied
    else if 0x0F00F800 ≤ a ∧ r.world = .normal then some .worldDenied
    else partCheck s r a k
  | .cellar | .lpddr | .xspi => partCheck s r a k
  | .pcieOut =>
    if r.world = .normal ∧ unitSecure s 0x1A then some .worldDenied else if k = .fetch then some .regionDenied else none
  | .sundik _ _ => if k = .fetch then some .regionDenied else none

/-! Sealing (R128 to R137) -/

/-- The key of a sealed region's slot, where the slot holds TYPE AES-256 with SEAL 1 (R131). -/
def sealKey (s : State) (i : Nat) : Option (List Byte) :=
  let p := rget s (R.COPPER_KS_POLICY (rgnKey s i))
  if bits p 27 24 = 3 ∧ bit p 16 then some (sub (mget s.copper.keys (rgnKey s i) []) 0 32) else none

def sealEpoch (s : State) (i : Nat) : Nat := (rget s (R.COPPER_SEAL_EPOCH i)).toNat % 2 ^ 32

/-- A counter block of R694: epoch, a kind byte, a 40-bit address, zero. -/
def sealCtr (epoch kind a : Nat) : List Byte := beBytes 4 epoch ++ beBytes 1 kind ++ beBytes 5 a ++ List.replicate 6 0

/-- A line at address `a` encrypted or decrypted: each 16-byte block under its own counter block. -/
def sealCrypt (key : List Byte) (epoch a : Nat) (l : List Byte) : List Byte :=
  ((List.range 4).map fun j => xorB (sub l (16 * j) 16) (aesEnc key (sealCtr epoch 1 (a + 16 * j)))).flatten

/-- The tag of the ciphertext line at address `a`: the eight leftmost bytes of T. -/
def sealTag (key : List Byte) (epoch a : Nat) (ct : List Byte) : List Byte :=
  let h := blk128 (aesEnc key (List.replicate 16 0))
  let t := ghash h (pad16 ct ++ [512])
  (xorB (beBytes 16 t.toNat) (aesEnc key (sealCtr epoch 2 a))).take 8

/-- Where the tag of the line at address `a` of region `i` lies (R128). -/
def tagAddr (s : State) (i a : Nat) : Nat := tagBase s i + (a - rgnLo s i) / 64 * 8

/-- A line of a sealed region read and checked (R132): its plaintext, or `none` where its tag does not match. -/
def sealRead (s : State) (i : Nat) (key : List Byte) (line : Nat) : Option (List Byte) :=
  let ct := readBytes s line 64
  if sealTag key (sealEpoch s i) line ct = readBytes s (tagAddr s i line) 8 then
    some (sealCrypt key (sealEpoch s i) line ct)
  else none

/-- A whole line written encrypted and tagged (R134). -/
def sealWrite (s : State) (i : Nat) (key : List Byte) (line : Nat) (l : List Byte) : State :=
  let ct := sealCrypt key (sealEpoch s i) line l
  writeBytes (writeBytes s line ct) (tagAddr s i line) (sealTag key (sealEpoch s i) line ct)

/-- A tag mismatch: the region is revoked, the line recorded, SEAL_FAULT counted and logged once (R135). -/
def sealMismatch (s : State) (i line : Nat) (r : Req) : State :=
  let s := rcount s R.COPPER_SEAL_FAULTS 1
  let s := rset s R.COPPER_SEAL_FADDR (word line)
  let s := edge s 17
  let s := logReq s 1 Code.SEAL_FAULT r (word line) 6
  rputb s R.COPPER_SEAL_REVOKED i true

/-- What sealing answers before it touches memory: SEAL_FAULT for a revoked region, or one whose slot has no sealing
key; the key otherwise (R131, R135). -/
def sealGate (s : State) (i : Nat) (r : Req) (a : Nat) : Sum State (List Byte) :=
  if rbit s R.COPPER_SEAL_REVOKED i then .inl (rcount s R.COPPER_SEAL_FAULTS 1)
  else match sealKey s i with
    | none => .inl (logReq (rcount s R.COPPER_SEAL_FAULTS 1) 1 Code.SEAL_NOKEY r (word a) 6)
    | some k => .inr k

/-! Plain reads and writes of memory, after the checks -/

/-- Anti-rollback counter i: all ones where both copies are lost (R127). -/
def keeveCounter (s : State) (i : Nat) : Nat :=
  if 0x100 + i ∈ s.keeve.lost then 0xFFFFFFFF else mget s.keeve.counters i 0

/-- Maker root slot r: `none` where it was never written, revoked where both copies are lost (R127). -/
def keeveRoot (s : State) (r : Nat) : Option RootSlot :=
  let e := (s.keeve.roots.find? (fun e => e.1 = r)).map Prod.snd
  if 0x200 + r ∈ s.keeve.lost then some ⟨(e.map RootSlot.hash).getD [], true⟩ else e

/-- Licence record i, absent where both copies are lost (R127). -/
def keeveLicence (s : State) (i : Nat) : Option (List Byte) :=
  if 0x800 + i ∈ s.keeve.lost then none else (s.keeve.licences.find? (fun e => e.1 = i)).map Prod.snd

/-- The Keeve window as the secure world reads it (R94, R127; the layout within a sector is log entry 8). -/
def keeveByte (s : State) (off : Nat) : Byte :=
  let k := s.keeve
  let le (n v i : Nat) : Byte := (leBytes n v).getD i 0
  match off / 0x1000 with
  | 0 => match (if 0 ∈ k.lost then none else k.policy) with
    | none => 0xFF
    | some (b, t) => let o := off % 0x1000
                     if o < 8 then le 8 b.toNat o else if o < 12 then le 4 t (o - 8) else 0xFF
  | 1 => let o := off % 0x1000
         if o < 64 then le 4 (keeveCounter s (o / 4)) (o % 4) else 0xFF
  | 2 => let o := off % 0x1000
         if o < 256 then
           match keeveRoot s (o / 64) with
           | none => if o % 64 < 48 then 0 else if o % 64 = 48 then 0 else 0xFF
           | some e => if o % 64 < 48 then e.hash.getD (o % 64) 0 else if o % 64 = 48 then (if e.revoked then 1 else 0) else 0xFF
         else 0xFF
  | 3 | 4 | 5 => let o := off - 0x3000
                 if o < 32 then 0 else k.cert.getD (o - 32) 0xFF
  | 6 => let o := off % 0x1000
         if o < 192 then
           let e := mget k.retired (o / 16) ⟨0, 0, 0⟩
           (leBytes 4 e.count ++ leBytes 8 e.rtc.toNat ++ leBytes 2 e.sig ++ [0, 0]).getD (o % 16) 0
         else 0xFF
  | 7 => 0
  | 8 | 9 | 10 | 11 =>
    let o := off - 0x8000
    match keeveLicence s (o / 256) with
    | none => 0xFF
    | some e => let i := o % 256
                if (0x58 ≤ i ∧ i < 0x80) ∨ 0xD0 ≤ i then 0 else e.getD i 0
  | _ => mget k.data off 0xFF

/-- The OTP shadow (R91, R696). -/
def otpByte (s : State) (off : Nat) : Byte :=
  if off < 8 then (leBytes 8 s.otp.deviceId.toNat).getD off 0
  else if off = 8 then s.otp.lifecycle.setWidth 8
  else if 0x10 ≤ off ∧ off < 0x40 then s.otp.vendorHash.getD (off - 0x10) 0
  else 0

/-- A byte as memory holds it at an address that is in no sealed region. -/
def plainByte (s : State) (a : Nat) : Byte :=
  match regionOf s a with
  | .bootRom => Config.bootRom a
  | .keeve off => keeveByte s off
  | .otp off => otpByte s off
  | _ => readByte s a

def plainBytes (s : State) (a n : Nat) : List Byte := (List.range n).map fun i => plainByte s (a + i)

/-- What a refused access leaves: the counters and log entries that its cause names (R27, R32, R33, R37, R39 to R43,
R95, R112, R136). -/
def refuse (s : State) (r : Req) (a : Nat) (e : BusErr) : State :=
  match e with
  | .absentUnit =>
    match regionOf s a with
    | .absent b =>
      let s' := rcount s R.SYSCON_ABSENT_HITS 1
      if rbit s R.SYSCON_ABSENT_SEEN b then s'
      else logReq (rputb s' R.SYSCON_ABSENT_SEEN b true) 1 Code.ABSENT_UNIT r (word a) 1
    | _ => s
  | .unmappedAddr => logReq s 1 Code.UNMAPPED_ADDR r (word a) 2
  | .firkinAccess => logReq s 1 Code.FIRKIN_ACCESS r (word a) 3
  | .worldDenied => logReq s (worldRing r.world) Code.WORLD_DENIED r (word a) 4
  | .regionDenied => logReq s (worldRing r.world) Code.REGION_DENIED r (word a) 5
  | .sealFault => s
  | .unsealedFetch => logReq s 1 Code.UNSEALED_FETCH r (word a) 7
  | .steeping => s
  | .retiredUnit =>
    match regionOf s a with
    | .tun n _ => if n ∈ s.retiredSeen then s
      else logReq { s with retiredSeen := n :: s.retiredSeen } 1 Code.RETIRED_UNIT r (word a) 9
    | _ => s
  | .regWidth => s
  | .keeveDirect => logReq s 1 Code.KEEVE_DIRECT r (word a) 11
  | .cxNotHolder => logReq s (worldRing r.world) Code.COPPER_NOT_HOLDER r (word a) 12
  | .eccUncorrected => s

/-- A bus-error cause as R298 encodes it. -/
def busErrNum : BusErr → Nat
  | .absentUnit => 1 | .unmappedAddr => 2 | .firkinAccess => 3 | .worldDenied => 4 | .regionDenied => 5
  | .sealFault => 6 | .unsealedFetch => 7 | .steeping => 8 | .retiredUnit => 9 | .regWidth => 10
  | .keeveDirect => 11 | .cxNotHolder => 12 | .eccUncorrected => 13

/-- Bytes read within one line of memory after `accessCheck`; a sealed line passes its engine (R132, R135). -/
def readLine (s : State) (r : Req) (a n : Nat) : State × Sum BusErr (List Byte) :=
  match (if (regionOf s a).external then (rgnFor s a).filter (rgnSealed s) else none) with
  | none => (s, .inr (plainBytes s a n))
  | some i =>
    match sealGate s i r a with
    | .inl s => (s, .inl .sealFault)
    | .inr key =>
      let line := a / 64 * 64
      match sealRead s i key line with
      | some l => (s, .inr (sub l (a - line) n))
      | none => (sealMismatch s i line r, .inl .sealFault)

/-- Bytes written within one line of memory after `accessCheck`; a partial write of a sealed line checks it first
(R134). -/
def writeLine (s : State) (r : Req) (a : Nat) (l : List Byte) : State × Option BusErr :=
  match (if (regionOf s a).external then (rgnFor s a).filter (rgnSealed s) else none) with
  | none => (writeBytes s a l, none)
  | some i =>
    match sealGate s i r a with
    | .inl s => (s, some .sealFault)
    | .inr key =>
      let line := a / 64 * 64
      if l.length = 64 then (sealWrite s i key line l, none)
      else match sealRead s i key line with
        | some old => (sealWrite s i key line (old.take (a - line) ++ l ++ old.drop (a - line + l.length)), none)
        | none => (sealMismatch s i line r, some .sealFault)

/-- The pieces of an access that lie within one 64-byte line each: address and length. -/
def linePieces (a n : Nat) : List (Nat × Nat) :=
  (List.range (if n = 0 then 0 else (a + n + 63) / 64 - a / 64)).map fun j =>
    let lo := max a ((a / 64 + j) * 64)
    (lo, min (a + n) ((a / 64 + j + 1) * 64) - lo)

/-! Remote windows (R510, R539, R541): a request that its requester waits for stands in `State.remote` -/

/-- Naturally aligned pieces of at most `m` bytes of a range; the first number bounds their count. -/
def alignPieces : Nat → Nat → Nat → Nat → List (Nat × Nat)
  | 0, _, _, _ => []
  | f + 1, a, n, m =>
    if n = 0 then []
    else
      let z := ([16, 8, 4, 2, 1].find? fun z => z ≤ m && z ≤ n && a % z = 0).getD 1
      (a, z) :: alignPieces f (a + z) (n - z) m

/-- Whether a request made for a world travels sealed (R536). -/
def remSealed (s : State) (w : World) : Bool := w = .secure || rbit s R.SDK_CFG 3

/-- The pieces in which a line piece of a remote access is requested: whole through the PCIe window; at most 16 bytes, 8
when sealed, through a Sundik window (R539). -/
def remPieces (s : State) (r : Req) (a n : Nat) : List (Nat × Nat) :=
  match regionOf s a with
  | .sundik _ _ => alignPieces 64 a n (if remSealed s r.world then 8 else 16)
  | _ => [(a, n)]

def RemReq.is (q : RemReq) (r : Req) (a n : Nat) (write : Bool) : Bool :=
  q.id = r.id && q.world = r.world && q.addr = a && q.len = n && q.data.isSome == write

/-- The answer of one piece, taken from its request; a piece that nobody requested has none, and reads as refused. -/
def remTake (s : State) (r : Req) (a n : Nat) (write : Bool) : State × Sum BusErr (List Byte) :=
  match s.remote.find? (fun q => q.is r a n write && q.answer.isSome) with
  | some q => ({ s with remote := s.remote.filter (fun x => !(x.is r a n write)) }, q.answer.getD (.inl .unmappedAddr))
  | none => (s, .inl .unmappedAddr)

/-- The answers of a line piece. -/
def remTakeAll (s : State) (r : Req) (a n : Nat) (write : Bool) : State × Sum BusErr (List Byte) :=
  (remPieces s r a n).foldl (fun (st : State × Sum BusErr (List Byte)) p =>
    match remTake st.1 r p.1 p.2 write, st.2 with
    | (s, .inr l), .inr got => (s, .inr (got ++ l))
    | (s, _), .inl e => (s, .inl e)
    | (s, .inl e), .inr _ => (s, .inl e)) (s, .inr [])

/-- Whether the host takes outbound requests: link up and Bus Master Enable set (R510). -/
def pcieOutOk (s : State) : Bool := rbit s R.PCIE_STAT 0 && s.pcie.busMaster

/-- An outbound request refused, timed out or answered with an error status (R510, R516). -/
def pcieOutRefused (s : State) (id : Byte) (w : World) (a : Nat) : State :=
  let first := !(rbit s R.PCIE_STAT 13)
  let s := rputb (rcount s R.PCIE_OUTCNT 1) R.PCIE_STAT 13 true
  if first then
    logTo (edge s 205) (if unitSecure s 0x1A then 1 else 0) Code.PCIE_OUT_REFUSED id (w = .secure) (word a) 2
  else s

/-- A write through the outbound window is posted: it leaves for the host, or is refused. -/
def pciePost (s : State) (r : Req) (a : Nat) (l : List Byte) : State × Option BusErr :=
  if pcieOutOk s then
    ({ s with wire := mset s.wire 0x21A (word ((rget s R.PCIE_OUTXLAT).toNat + (a - 0x800000000)) :: l.map (·.setWidth 64)) },
      none)
  else (pcieOutRefused s r.id r.world a, some .unmappedAddr)

/-- A line piece of a read: from memory, or from the answer of a remote request. -/
def readPiece (s : State) (r : Req) (a n : Nat) : State × Sum BusErr (List Byte) :=
  match regionOf s a with
  | .pcieOut | .sundik _ _ => remTakeAll s r a n false
  | _ => readLine s r a n

/-- A line piece of a write. -/
def writePiece (s : State) (r : Req) (a : Nat) (l : List Byte) : State × Option BusErr :=
  match regionOf s a with
  | .pcieOut => pciePost s r a l
  | .sundik _ _ => match remTakeAll s r a l.length true with
    | (s, .inr _) => (s, none)
    | (s, .inl e) => (s, some e)
  | _ => writeLine s r a l

/-- A read of memory outside the unit windows, checked and logged: every line it touches in address order. -/
def memRead (s : State) (r : Req) (a n : Nat) (k : AccKind) : State × Sum BusErr (List Byte) :=
  (linePieces a n).foldl (fun (st : State × Sum BusErr (List Byte)) p =>
    match st.2 with
    | .inl e => (st.1, .inl e)
    | .inr got =>
      match accessCheck st.1 r p.1 k with
      | some e => (refuse st.1 r p.1 e, .inl e)
      | none => match readPiece st.1 r p.1 p.2 with
        | (s, .inr l) => (s, .inr (got ++ l))
        | (s, .inl e) => (s, .inl e)) (s, .inr [])

/-- A write of memory outside the unit windows, checked and logged, line by line. A tun's local memory keeps which of
its blocks were written, and which lines by firkin execution (R43, R51). -/
def memWrite (s : State) (r : Req) (a : Nat) (l : List Byte) : State × Option BusErr :=
  (linePieces a l.length).foldl (fun (st : State × Option BusErr) p =>
    match st.2 with
    | some e => (st.1, some e)
    | none =>
      match accessCheck st.1 r p.1 .write with
      | some e => (refuse st.1 r p.1 e, some e)
      | none =>
        let (s, e) := writePiece st.1 r p.1 (sub l (p.1 - a) p.2)
        match e, regionOf s p.1 with
        | none, .tun n off => (modCore s (n + 2) fun c =>
            { c with written := if off / 1024 ∈ c.written then c.written else (off / 1024) :: c.written,
                     fkLines := match r.firkin with
                       | some f => mset c.fkLines (off / 64) f.val
                       | none => c.fkLines }, none)
        | e, _ => (s, e)) (s, none)

end Sys2Proof.Machine
end

