-- ==== Sys2Proof/Machine/Access.lean ====
section
/-! DEFINITION. Register accesses as every unit shares them: the access codes (R1, R3, R5), widths (R7, R8, R693),
boot code's writes (R46), and who owns the register that an access names (R34 to R38). -/
namespace Sys2Proof.Machine

/-- A write as a register sees it: the value in its place in the register, and the mask of the bits it covers (R8). -/
structure Wr where
  v : Word
  m : Word
  deriving DecidableEq, Repr

/-- Bits [hi:lo] that a write carries, where it covers bit lo. -/
def Wr.bits (w : Wr) (hi lo : Nat) : Nat := Machine.bits w.v hi lo
/-- Bit i written as one. -/
def Wr.one (w : Wr) (i : Nat) : Bool := bit w.v i && bit w.m i

/-- Boot code: CC0 at Machine level while BOOT_PHASE is below 2 (R46). -/
def bootCode (s : State) (r : Req) : Bool := r.who = .cc 0 ∧ r.machine ∧ rbits s R.PART_PHASE 1 0 < 2

/-- Lifecycle state decoded from RAW (R53): 0 BLANK, 1 VENDOR, 2 MAKER, 3 FIELD, 4 RETURNED. -/
def lifecycleOf (raw : Nat) : Nat := match raw with | 0 => 0 | 1 => 1 | 3 => 2 | 7 => 3 | _ => 4

/-- Whether RAW is one of the valid patterns (R53). -/
def lifecycleValid (raw : Nat) : Bool := raw ∈ [0, 1, 3, 7, 9, 11, 15]

def lifecycle (s : State) : Nat := lifecycleOf s.otp.lifecycle.toNat

/-- The row that covers a physical address of a unit window, with the address of the register instance. -/
def regAt (a : Nat) : Option (RegRow × Nat) :=
  if a < 0x40000000 ∨ 0x40240000 ≤ a then none
  else (findReg ((a - 0x40000000) / 0x10000) (a % 0x10000)).map fun p => (p.1, a / 0x10000 * 0x10000 + p.2)

/-- Every field of a register row. -/
def RegRow.fields (r : RegRow) : Word := r.rw ||| r.ro ||| r.w1c ||| r.w1s ||| r.wb ||| r.wo ||| r.rc

/-- What a read of a register returns of its stored value: reserved and WO fields read zero (R1, R5). -/
def RegRow.seen (r : RegRow) (v : Word) : Word := v &&& (r.rw ||| r.ro ||| r.w1c ||| r.w1s ||| r.wb ||| r.rc)

/-- The stored value after a write under the access codes of R1; WB fields change for boot code only (R46). -/
def RegRow.write (r : RegRow) (boot : Bool) (old : Word) (w : Wr) : Word :=
  let put (x m : Word) : Word := (x &&& ~~~ (m &&& w.m)) ||| (w.v &&& m &&& w.m)
  let x := put old r.rw
  let x := x &&& ~~~ (w.v &&& w.m &&& r.w1c)
  let x := x ||| (w.v &&& w.m &&& r.w1s)
  if boot then put x r.wb else x

/-- A write to the register at address `reg` under R1 and R46, and the log entry of a refused WB write. -/
def genericWrite (s : State) (r : Req) (reg : Nat) (w : Wr) : State :=
  match regAt reg with
  | none => s
  | some (row, a) =>
    let boot := bootCode s r
    let s' := rset s a (row.write boot (rget s a) w)
    if row.wb &&& w.m ≠ 0 ∧ ¬ boot then logReq s' 1 Code.SEALED_WRITE r (word a) 0 else s'

/-- A read of the register at address `reg` under R1; an RC field is cleared by it, except for DEBUG (R4). -/
def genericRead (s : State) (r : Req) (reg : Nat) (m : Word) : State × Word :=
  match regAt reg with
  | none => (s, 0)
  | some (row, a) =>
    let v := rget s a
    (if row.rc &&& m ≠ 0 ∧ r.who ≠ .debug then rset s a (v &&& ~~~ (row.rc &&& m)) else s, row.seen v)

/-- Registers that act only on a 64-bit access (R693). -/
def wideOnly (a : Nat) : Bool :=
  (R.GRANT_PUSH 0 ≤ a ∧ a < R.GRANT_PUSH 64 ∧ ((a - 0x400B0100) % 0x40 = 0x28 ∨ (a - 0x400B0100) % 0x40 = 0x30)) ||
  a = R.TRNG_OUT ||
  (R.SPARGE_POST 0 ≤ a ∧ a < R.SPARGE_POST 32 ∧ (a - R.SPARGE_POST 0) % 0x20 = 0) ||
  a = R.DTB_MEAS || a = R.COPPER_KS_CMD || a = R.SDK_OFWD ||
  a = logReg 0 0x38 || a = logReg 1 0x38 || a = logReg 2 0x38

/-- Whether an access of `n` bytes at a unit-window address has a legal width and alignment (R7, R693). -/
def widthOk (a n : Nat) : Bool :=
  if a % n ≠ 0 then false
  else if n = 8 then
    match regAt a with
    | some (row, o) => row.wide && o = a
    | none => (regAt (a + 4)).isNone
  else if n = 4 then
    match regAt a with
    | some (_, o) => !(wideOnly o)
    | none => true
  else false

/-- Registers that both worlds may read in a unit that the secure world owns (R34, and each chapter's "Registers"). -/
def bothWorlds (s : State) (a : Nat) : Bool :=
  a ∈ [R.SYSCON_ID, R.SYSCON_CAPS0, R.SYSCON_CAPS1, R.SYSCON_SELF, R.SYSCON_PROMISE, R.SYSCON_ABSENT_SEEN,
       R.SYSCON_ABSENT_HITS, R.PART_PHASE, R.PART_LIFECYCLE, R.DTB_NOW, R.DTB_NOWF, R.DTB_STATE, R.DTB_EPOCH,
       R.DTB_EPOCHF, R.SPARGE_CAPS, R.SPARGE_UE_LAST, R.SPARGE_UE_COUNT, R.EIC_STRAY, R.EIC_STRAY_LAST] ||
  (R.SPARGE_ECC_CEL 0 ≤ a ∧ a < R.SPARGE_ECC_TUN 96) || bothWorldsMore s a
where
  /-- Further such registers: of ORDER, STEEP, PCC, AON and MON. -/
  bothWorldsMore (_ : State) (a : Nat) : Bool :=
    a ∈ [R.ORDER_STATUS, R.STEEP_STATUS, R.STEEP_POOL, R.STEEP_RETIRED, R.STEEP_COUNT, R.STEEP_FAILS,
         R.AON_BOOT_STATUS, R.AON_BOOT_ATTEMPTS, R.AON_BOOT_LAST, R.PCC_STAT, R.PCC_MODE, R.PCC_ANSWER, R.PCC_REQ,
         R.PCC_GATED, R.PCC_PWROFF, R.PCC_KEEPSTAT]

/-- How a register of a unit window answers the normal world: it belongs to it, it belongs to the secure world, it is
declared readable by both, or a rule of its own decides (R36, R37). -/
inductive RegOwner where | normal | secure | both
  deriving DecidableEq, Repr

def ownerOf (secure : Bool) : RegOwner := if secure then .secure else .normal

/-- The owner of the element that a unit-window address names. -/
def regOwner (s : State) (a : Nat) : RegOwner :=
  let k := (a - 0x40000000) / 0x10000
  let off := a % 0x10000
  let reg := match regAt a with | some (_, o) => o | none => a
  if reg = R.PCC_MODE ∨ reg = R.PCC_REQ then .normal
  else if bothWorlds s reg then .both
  else match k with
  | 0x03 => if off < 0x400 then ownerOf (eicSecure s (off / 4)) else .normal
  | 0x04 => if off < 0x200 then ownerOf (rbit s R.PART_BUNG_OWN (off / 8)) else .secure
  | 0x0B => if 0x100 ≤ off ∧ off < 0x1100 then ownerOf (rbit s R.PART_GT_OWN ((off - 0x100) / 0x40)) else .normal
  | 0x0C => if 0x100 ≤ off ∧ off < 0x500 then ownerOf (rbit s R.PART_SPG_OWN ((off - 0x100) / 0x20)) else .normal
  | 0x0A =>
    if 0x100 ≤ off ∧ off < 0x1100 then ownerOf (rbit s R.PART_OQ_OWN ((off - 0x100) / 0x80))
    else if 0x2000 ≤ off ∧ off < 0x4000 then ownerOf (rbit s R.ORDER_STR_OWN ((off - 0x2000) / 0x80))
    else if 0x4040 ≤ off ∧ off < 0x4080 then .normal
    else .secure
  | 0x05 => if off < 0x140 then .normal else .secure
  | 0x06 =>
    if off = 4 ∨ (0x200 ≤ off ∧ off < 0x220) ∨ (0x1000 ≤ off ∧ off < 0x1800) then .normal
    else if 0x100 ≤ off ∧ off < 0x180 then ownerOf (!(rbit s reg 13))
    else .secure
  | 0x01 => .secure
  | _ => ownerOf (unitSecure s k)

/-- The check of a context register: only the holder accesses it (R112). -/
def cxCheck (s : State) (r : Req) (a : Nat) : Option BusErr :=
  if 0x40061000 ≤ a ∧ a < 0x40061800 then
    match (mget s.copper.cx ((a - 0x40061000) / 0x100) {}).holder with
    | some h => if h.world ≠ r.world then some .worldDenied else if h.id ≠ r.id then some .cxNotHolder else none
    | none => if r.world = .normal then some .cxNotHolder else some .cxNotHolder
  else none

/-- The check of an access of `n` bytes to a present unit window: world, context holder, then width (R7, R37, R112). -/
def unitCheck (s : State) (r : Req) (a n : Nat) (write : Bool) : Option BusErr :=
  let denied : Bool := r.world = .normal && !(r.who = .debug && (a - 0x40000000) / 0x10000 = 0x21) && match regOwner s a with
    | .normal => false
    | .secure => true
    | .both => false
  if denied then some .worldDenied
  else match cxCheck s r a with
    | some e => some e
    | none => if widthOk a n then none else some .regWidth

/-- Whether a write that passed `unitCheck` is ignored: the normal world's write to a register that both may read in a
unit the secure world owns (R37). -/
def writeIgnored (s : State) (r : Req) (a : Nat) : Bool :=
  r.world = .normal && regOwner s a = .both && (let k := (a - 0x40000000) / 0x10000; k ∈ splitUnits || unitSecure s k)

/-- Whether a requester of a register access exists on the variant and reaches unit windows: a tun reaches none (R30);
DEBUG reaches its own window always, and others while debug is open (R60). -/
def reqLive (s : State) (r : Requester) (a : Nat) : Bool :=
  outOfReset s && match r with
  | .cc _ | .hcp => true
  | .debug => debugOpen s ≠ 0 || (a - 0x40000000) / 0x10000 = 0x21
  | .tun _ => false
  | .sparge c => c.val < spargeChannels s
  | .pcie => hasPcie s
  | .sundik _ _ => unitPresent s 0x1B
  | .own => false

/-- A powered-off unit's window reads zero and ignores writes (R607). -/
def windowOff (s : State) (a : Nat) : Bool := rbit s R.PCC_PWROFF ((a - 0x40000000) / 0x10000)

/-- A write to a register made by a command that names its requester: `f` is what the register does with it. The
checks come first; a refused write leaves what R37 and R112 say, and nothing else. -/
def onWrite (s : State) (q : RegAcc) (a : Nat) (f : Req → Wr → State) : State :=
  let r := reqOf s q.who
  let n := if q.wide then 8 else 4
  if !(reqLive s q.who a) then s else
  match regionOf s a with
  | .unit _ _ =>
    match unitCheck s r a n true with
    | some e => refuse s r a e
    | none =>
      if writeIgnored s r a ∨ windowOff s a then s
      else f r ⟨if q.wide then q.value else q.value &&& 0xFFFFFFFF, if q.wide then ~~~ 0#64 else 0xFFFFFFFF⟩
  | .absent _ => refuse s r a .absentUnit
  | _ => s

/-- A read of a register made by a command that names its requester. -/
def onRead (s : State) (q : RegAcc) (a : Nat) (f : Req → State × Word) : State :=
  let r := reqOf s q.who
  if !(reqLive s q.who a) then s else
  match regionOf s a with
  | .unit _ _ =>
    match unitCheck s r a (if q.wide then 8 else 4) false with
    | some e => refuse s r a e
    | none => if windowOff s a then { s with lastRead := 0 } else { (f r).1 with lastRead := (f r).2 }
  | .absent _ => refuse s r a .absentUnit
  | _ => s

end Sys2Proof.Machine
end

