-- ==== Sys2Proof/Machine/Eic.lean ====
section
/-! DEFINITION. EIC and BUNG, and the end of an HCP session, which breaks its bungs: sources, delivery, claims, completions (R310 to R322, R329 to R331) and the 64 hardware
locks (R323 to R328). -/
namespace Sys2Proof.Machine

/-! Sources -/

def eicPending (s : State) (i : Nat) : Bool := rbit s (R.EIC_PEND (i / 32)) (i % 32)
def eicActive (s : State) (i : Nat) : Bool := rbit s (R.EIC_ACTIVE (i / 32)) (i % 32)

/-- ENABLE, PENDING and NOT ACTIVE (R315). -/
def eicDeliverable (s : State) (i : Nat) : Bool := rbit s (R.EIC_CFG i) 31 && eicPending s i && !(eicActive s i)

/-- The lowest deliverable source of a class and owner world whose TARGET names processor `p` (R317, R318). -/
def eicCandidate (s : State) (p : Nat) (fast : Bool) (w : World) : Option Nat :=
  (List.range 256).find? fun i =>
    eicDeliverable s i && (rbit s (R.EIC_CFG i) 30 == fast) && rbit s (R.EIC_CFG i) p && (worldOf (eicSecure s i) == w)

/-- Whether a request of either class and either world is raised at processor `p` (R332 "Entry claims and WAIT"). -/
def eicAnyRequest (s : State) (p : Nat) : Bool :=
  (List.range 256).any fun i => eicDeliverable s i && rbit s (R.EIC_CFG i) p

/-- A claim by processor `p`: PENDING clears; a tun's claim or an AUTO source completes at once, any other becomes
active under the claimant (R319). Answers the source ID, 0x1FF where there is none. -/
def eicClaim (s : State) (p : Nat) (fast : Bool) (w : World) : State × Nat :=
  match eicCandidate s p fast w with
  | none => (s, 0x1FF)
  | some i =>
    let s := rputb s (R.EIC_PEND (i / 32)) (i % 32) false
    if rbit s (R.EIC_CFG i) 29 ∨ 2 ≤ p then (s, i)
    else ({ rputb s (R.EIC_ACTIVE (i / 32)) (i % 32) true with claims := mset s.claims i ⟨p, w⟩ }, i)

/-- The 32 bits of group k that a requester's world sees (R314). -/
def eicView (s : State) (r : Req) (k : Nat) (v : Word) : Word :=
  if r.world = .secure then v
  else (List.range 32).foldl (fun v j => if eicSecure s (32 * k + j) then setBit v j false else v) v

/-- A write of EIC_PENDk (R312, R313, R314). -/
def eicPendWrite (s : State) (r : Req) (k : Nat) (w : Wr) : State :=
  (List.range 32).foldl (fun s j =>
    if w.one j && (r.world = .secure || !(eicSecure s (32 * k + j))) then edge s (32 * k + j) else s) s

/-- A write of EIC_CLRk (R312, R314). -/
def eicClrWrite (s : State) (r : Req) (k : Nat) (w : Wr) : State :=
  (List.range 32).foldl (fun t j =>
    if w.one j && (r.world = .secure || !(eicSecure s (32 * k + j))) then rputb t (R.EIC_PEND k) j false else t) s

/-- A read of EIC_CLAIMp or EIC_FCLAIMp (R318). -/
def eicClaimRead (s : State) (r : Req) (p : Nat) (fast : Bool) : State × Word :=
  match r.who with
  | .cc q => if q.val = p then let (s, i) := eicClaim s p fast r.world; (s, word i) else (s, 0x1FF)
  | .debug => (s, word ((eicCandidate s p fast r.world).getD 0x1FF))
  | _ => (s, 0x1FF)

/-- Whether a completion of source i by a requester at EIC_DONEp is the claimant's own (R321). -/
def eicDoneOk (s : State) (r : Req) (p i : Nat) : Bool :=
  match r.who, s.claims.find? (fun e => e.1 = i) with
  | .cc q, some e => q.val = p && e.2.core = p && e.2.world = r.world && eicActive s i
  | _, _ => false

/-- A write of EIC_DONEp: a completion, or a stray one (R321, R322). -/
def eicDone (s : State) (r : Req) (p : Nat) (w : Wr) : State :=
  let i := w.bits 7 0
  if eicDoneOk s r p i then { rputb s (R.EIC_ACTIVE (i / 32)) (i % 32) false with claims := mdel s.claims i }
  else
    let s := rset s R.EIC_STRAY (word (min 0xFFFF ((rget s R.EIC_STRAY).toNat + 1)))
    let s := rset s R.EIC_STRAY_LAST (word (b2n (r.world = .secure) <<< 16 + r.id.toNat <<< 8 + i))
    logReq s (worldRing r.world) Code.EIC_STRAY r (word i) 0

/-- A write of EIC_CFGi (R313, R315). -/
def eicCfgWrite (s : State) (r : Req) (i : Nat) (w : Wr) : State :=
  if eicPresent s i then genericWrite s r (R.EIC_CFG i) ⟨w.v, w.m &&& (procMask s ||| mask 31 14)⟩ else s

/-- A write of EIC_STRAY: CLEAR zeroes COUNT, for the secure world. -/
def eicStrayWrite (s : State) (r : Req) (w : Wr) : State :=
  if w.one 31 ∧ r.world = .secure then rset s R.EIC_STRAY 0 else s

/-- Every source active under a claim of control core `p` pends again (R330). -/
def eicRepend (s : State) (p : Nat) : State :=
  s.claims.foldl (fun s e =>
    if e.2.core = p then
      edge { rputb s (R.EIC_ACTIVE (e.1 / 32)) (e.1 % 32) false with claims := mdel s.claims e.1 } e.1
    else s) s

/-- Register writes of EIC, by address. -/
def eicWrite (s : State) (r : Req) (a : Nat) (w : Wr) : State :=
  let off := a - 0x40030000
  if off < 0x400 then eicCfgWrite s r (off / 4) w
  else if off < 0x420 then eicPendWrite s r ((off - 0x400) / 4) w
  else if off < 0x440 then eicClrWrite s r ((off - 0x420) / 4) w
  else if off = 0x608 then eicDone s r 0 w
  else if off = 0x618 then eicDone s r 1 w
  else if off = 0x700 then eicStrayWrite s r w
  else s

/-- Register reads of EIC, by address. -/
def eicRead (s : State) (r : Req) (a : Nat) (m : Word) : State × Word :=
  let off := a - 0x40030000
  if 0x400 ≤ off ∧ off < 0x420 then (s, eicView s r ((off - 0x400) / 4) (rget s a))
  else if 0x440 ≤ off ∧ off < 0x460 then (s, eicView s r ((off - 0x440) / 4) (rget s a))
  else if off = 0x600 then eicClaimRead s r 0 false
  else if off = 0x610 then eicClaimRead s r 1 false
  else if off = 0x604 then eicClaimRead s r 0 true
  else if off = 0x614 then eicClaimRead s r 1 true
  else genericRead s r a m

/-- EIC_SOURCE_EDGE (R310): an edge on the line of a unit's source; sources 224 to 255 have no line. -/
def execEicSourceEdge (i : Fin 256) (s : State) : Out :=
  .next (if i.val < 224 then edge s i else s)

/-- EIC_PEND_WRITE (R312). -/
def execEicPendWrite (q : RegAcc) (k : Fin 8) (s : State) : Out :=
  .next (onWrite s q (R.EIC_PEND k) fun r w => eicPendWrite s r k w)

/-- EIC_CLR_WRITE (R312). -/
def execEicClrWrite (q : RegAcc) (k : Fin 8) (s : State) : Out :=
  .next (onWrite s q (R.EIC_CLR k) fun r w => eicClrWrite s r k w)

/-- EIC_CLAIM_READ (R318). -/
def execEicClaimRead (q : RegAcc) (p : Fin 2) (s : State) : Out :=
  .next (onRead s q (R.EIC_CLAIM p) fun r => eicClaimRead s r p false)

/-- EIC_FCLAIM_READ (R318). -/
def execEicFclaimRead (q : RegAcc) (p : Fin 2) (s : State) : Out :=
  .next (onRead s q (R.EIC_FCLAIM p) fun r => eicClaimRead s r p true)

/-- EIC_DONE_WRITE (R321, R322). -/
def execEicDoneWrite (q : RegAcc) (p : Fin 2) (s : State) : Out :=
  .next (onWrite s q (R.EIC_DONE p) fun r w => eicDone s r p w)

/-- EIC_STRAY_CLEAR (R322). -/
def execEicStrayClear (q : RegAcc) (s : State) : Out :=
  .next (onWrite s q R.EIC_STRAY fun r w => eicStrayWrite s r w)

/-! Bungs -/

def bung (s : State) (n : Nat) : BungState := mget s.bungs n .free
def setBung (s : State) (n : Nat) (b : BungState) : State := { s with bungs := mset s.bungs n b }

/-- HOLDER and WORLD as a reader sees them: a secure holder is hidden from the normal world (R324). -/
def bungHolder (r : Req) (id : Byte) (w : World) : Nat :=
  if r.world = .normal ∧ w = .secure then 0x1FF00 else b2n (w = .secure) <<< 16 + id.toNat <<< 8

/-- The result word of a read of BUNGn (R323, R324). -/
def bungResult (r : Req) : BungState → Nat
  | .free => b2n (r.world = .secure) <<< 16 + r.id.toNat <<< 8
  | .broken id w => bungHolder r id w + 1
  | .held id w => bungHolder r id w + 2

/-- Whether a requester's read acquires: a control core, the PCIe host, HCP (R323, R328). -/
def bungTaker : Requester → Bool
  | .cc _ | .pcie | .hcp => true
  | _ => false

/-- A read of BUNGn (R323, R328). -/
def bungRead (s : State) (r : Req) (n : Nat) : State × Word :=
  let b := bung s n
  let v := word (bungResult r b)
  match b with
  | .held _ _ => (s, v)
  | _ => if bungTaker r.who then (setBung s n (.held r.id r.world), v) else (s, v)

/-- A write of BUNGn (R325). -/
def bungWrite (s : State) (r : Req) (n : Nat) (w : Wr) : State :=
  if w.one 31 then
    if bung s n = .held r.id r.world then setBung s n .free
    else logReq s (worldRing r.world) Code.BUNG_BAD_RELEASE r (word n) 0
  else s

/-- A read of BUNG_STATEn: it acquires nothing. -/
def bungState (s : State) (r : Req) (n : Nat) : Word :=
  word (match bung s n with
    | .free => 0
    | .held id w => bungHolder r id w + 1
    | .broken id w => bungHolder r id w + 2)

/-- The world that owns bung n. -/
def bungOwner (s : State) (n : Nat) : Nat := b2n (rbit s R.PART_BUNG_OWN n)

/-- Bung n breaks with its holder recorded; `code` is BUNG_BROKEN or BUNG_FORCED (R326, R327). -/
def bungBreakOne (s : State) (n : Nat) (code : Nat) : State :=
  match bung s n with
  | .held id w => logTo (setBung s n (.broken id w)) (bungOwner s n) code id (w = .secure) (word n) 0
  | _ => s

/-- Every bung held by a requester identity becomes free-broken, because that holder was reset (R326). -/
def bungBreakAll (s : State) (id : Byte) : State :=
  (List.range 64).foldl (fun s n => match bung s n with
    | .held h _ => if h = id then bungBreakOne s n Code.BUNG_BROKEN else s
    | _ => s) s

/-- A write of BUNG_BREAK (R327). -/
def bungBreak (s : State) (r : Req) (w : Wr) : State :=
  if !(w.one 31) then s
  else if r.machine then
    let n := w.bits 5 0
    match bung s n with
    | .held id h => logReq (setBung s n (.broken id h)) (bungOwner s n) Code.BUNG_FORCED r (word n) 0
    | _ => s
  else logReq s 1 Code.SEALED_WRITE r (word R.BUNG_BREAK) 0

/-- The HCP session closes: its keys go, and the bungs it holds break (R585). -/
def hcpClose (s : State) : State :=
  if rbit s R.HCP_STAT 3 then
    let s := rput { s with io := { s.io with hcp := { s.io.hcp with reqKey := [], rspKey := [], seq := 0 } } } R.HCP_STAT 4 3 0
    bungBreakAll (logUnit s (unitSecure s 0x1E) Code.HCP_SESSION 0 0) 0x81
  else s

def bungUnitWrite (s : State) (r : Req) (a : Nat) (w : Wr) : State :=
  let off := a - 0x40040000
  if off = 0x400 then bungBreak s r w
  else if off < 0x200 ∧ off % 8 = 0 then bungWrite s r (off / 8) w
  else s

def bungUnitRead (s : State) (r : Req) (a : Nat) : State × Word :=
  let off := a - 0x40040000
  if off < 0x200 then (if off % 8 = 0 then bungRead s r (off / 8) else (s, bungState s r (off / 8))) else (s, 0)

/-- BUNG_ACQUIRE (R323). -/
def execBungAcquire (q : RegAcc) (n : Fin 64) (s : State) : Out :=
  .next (onRead s q (R.BUNG n) fun r => bungRead s r n)

/-- BUNG_RELEASE (R325). -/
def execBungRelease (q : RegAcc) (n : Fin 64) (s : State) : Out :=
  .next (onWrite s q (R.BUNG n) fun r w => bungWrite s r n w)

/-- BUNG_BREAK (R327). -/
def execBungBreak (q : RegAcc) (s : State) : Out :=
  .next (onWrite s q R.BUNG_BREAK fun r w => bungBreak s r w)

end Sys2Proof.Machine
end

