-- ==== Sys2Proof/Machine/Log.lean ====
section
/-! DEFINITION. LOG's rings and their registers (R618 to R627, R637), and the watchdog (R628 to R631). -/
namespace Sys2Proof.Machine

/-- The register of ring r's block at offset `o`. -/
def lget (s : State) (r o : Nat) : Nat := (rget s (logReg r o)).toNat

/-- The condition of R626 for ring r. -/
def logCond (s : State) (r : Nat) : Bool :=
  rbit s (logReg r 0x1C) 1 && decide (rbits s (logReg r 0x18) 11 0 ≤ lget s r 0 - lget s r 8)

/-- A change of ring r, with the edge that a change of the condition from false to true gives (R626). -/
def logStep (r : Nat) (s t : State) : State :=
  if r < 2 ∧ ¬ logCond s r ∧ logCond t r then edge t (5 - r) else t

/-- A part with an entry added; the oldest goes when it is full (R623). -/
def ringPush (cap : Nat) (l : List LogEntry) (e : LogEntry) : List LogEntry × Option LogEntry :=
  if l.length < cap then (l ++ [e], none) else (l.drop 1 ++ [e], l.head?)

/-- An entry written into ring r: SEQ is WSEQ, and an unread entry that it replaces is counted (R618 to R623). -/
def ringWrite (s : State) (r : Nat) (e : LogEntry) : State :=
  let x := ringOf s r
  let seq := rget s (logReg r 0)
  let e := { e with seq := seq }
  let guest : Bool := r = 1 ∧ e.flags.getLsbD 0 = false
  let cap := if r = 0 then 2048 else if r = 2 then 256 else if guest then 256 else 1792
  let (l, gone) := ringPush cap (if guest then x.guest else x.main) e
  let s := setRing s r (if guest then { x with guest := l } else { x with main := l })
  let s := rset s (logReg r 0) (seq + 1)
  match gone with
  | some g => if lget s r 8 ≤ g.seq.toNat then rcount s (logReg r (if guest then 0x14 else 0x10)) 1 else s
  | none => s

/-- The entries of ring r in either part. -/
def ringEntries (s : State) (r : Nat) : List LogEntry := (ringOf s r).main ++ (ringOf s r).guest

/-- The entry with the lowest SEQ at or above `n` in either part (R625). -/
def ringAt (s : State) (r n : Nat) : Option LogEntry :=
  (ringEntries s r).foldl (fun (b : Option LogEntry) e =>
    if e.seq.toNat < n then b else match b with
    | none => some e
    | some x => if e.seq.toNat < x.seq.toNat then some e else b) none

/-- The SEQ of the oldest entry held, WSEQ where none is. -/
def ringOldest (s : State) (r : Nat) : Nat :=
  match ringAt s r 0 with | some e => e.seq.toNat | none => lget s r 0

/-- The four doublewords of an entry (the table under "Entries"). -/
def LogEntry.dw (e : LogEntry) (j : Nat) : Word :=
  match j with
  | 0 => e.time
  | 1 => word (e.seq.toNat % 2 ^ 32 + e.code.toNat <<< 32 + e.req.toNat <<< 48 + e.flags.toNat <<< 56)
  | 2 => e.arg0
  | _ => e.arg1

/-- An entry as a read returns it: uncorrectable, every field is zero but SEQ and FLAGS.BAD (R637). -/
def LogEntry.afterEcc (e : LogEntry) (ecc : Ecc) : LogEntry :=
  if ecc = .uncorrected then { e with time := 0, code := 0, req := 0, flags := 2, arg0 := 0, arg1 := 0 } else e

/-- A read of doubleword j of LOG_RDATAr; that of +0x18 advances LOG_RSEQr (R625). -/
def logRead (s : State) (r j : Nat) (ecc : Ecc) : State × Word :=
  let rs := lget s r 8
  if lget s r 0 ≤ rs then (s, 0)
  else match ringAt s r rs with
    | none => (s, 0)
    | some e =>
      let at' := e.seq.toNat
      let v := (e.afterEcc ecc).dw j
      if j = 3 then (logStep r s (rset s (logReg r 8) (word (at' + 1))), v)
      else (if rs < ringOldest s r then rset s (logReg r 8) (word at') else s, v)

/-- A write of LOG_RSEQr, held between the oldest entry and LOG_WSEQr (R625). -/
def logRseqWrite (s : State) (q : Req) (r : Nat) (w : Wr) : State :=
  let v := ((genericWrite s q (logReg r 8) w))
  let n := lget v r 8
  logStep r s (rset v (logReg r 8) (word (min (lget s r 0) (max n (ringOldest s r)))))

/-- Who may clear ring r (R627). -/
def logMayClear (q : Req) (r : Nat) : Bool :=
  match r with
  | 0 => true
  | 1 => q.world = .secure
  | _ => q.machine

/-- Ring r cleared by a requester (R627): the counters at zero, LOG_CLEARED the first entry. -/
def logClear (s : State) (q : Req) (r : Nat) : State :=
  let x := ringOf s r
  let s := setRing s r { x with main := [], guest := [] }
  let s := [0x00, 0x08, 0x10, 0x14].foldl (fun s o => rset s (logReg r o) 0) s
  ringWrite s r ⟨if r = 2 then rget s R.AON_RTC else dtbNs s, 0, BitVec.ofNat 16 Code.LOG_CLEARED, q.id,
    if q.world = .secure then 1 else 0, word r, 0⟩

/-- A write of LOG_CTRLr (R626, R627). CLEAR reads 0, the clear having ended. -/
def logCtrlWrite (s : State) (q : Req) (r : Nat) (w : Wr) : State :=
  let t := if w.m.getLsbD 1 then rputb s (logReg r 0x1C) 1 (bit w.v 1) else s
  let t := if w.one 0 then
      if logMayClear q r then logClear t q r else logReq t 1 Code.SEALED_WRITE q (word (logReg r 0x1C)) 0
    else t
  logStep r s t

/-- Register writes of LOG. -/
def logWrite (s : State) (q : Req) (a : Nat) (w : Wr) : State :=
  let r := (a - 0x40050100) / 0x40
  match (a - 0x40050100) % 0x40 with
  | 0x08 => logRseqWrite s q r w
  | 0x18 => logStep r s (genericWrite s q a w)
  | 0x1C => logCtrlWrite s q r w
  | _ => s

/-- Register reads of LOG. -/
def logUnitRead (s : State) (q : Req) (a : Nat) (m : Word) : State × Word :=
  let r := (a - 0x40050100) / 0x40
  let o := (a - 0x40050100) % 0x40
  if 0x20 ≤ o then logRead s r ((o - 0x20) / 8) .good else genericRead s q a m

/-- LOG_ENTRY_ACCEPT (R624): the ring takes the entry at the head of its queue. -/
def execLogEntryAccept (r : Fin 3) (s : State) : Out :=
  match (ringOf s r).queue with
  | [] => .next s
  | e :: rest =>
    let t := setRing s r { ringOf s r with queue := rest }
    .next (logStep r s (ringWrite t r e))

/-- LOG_READ_ADVANCE (R625, R637). -/
def execLogReadAdvance (q : RegAcc) (r : Fin 3) (ecc : Ecc) (s : State) : Out :=
  .next (onRead s q (logReg r 0x38) fun _ => logRead s r 3 ecc)

/-- LOG_RSEQ_WRITE (R625). -/
def execLogRseqWrite (q : RegAcc) (r : Fin 3) (s : State) : Out :=
  .next (onWrite s q (logReg r 8) fun x w => logRseqWrite s x r w)

/-- LOG_CLEAR (R627). -/
def execLogClear (q : RegAcc) (r : Fin 3) (s : State) : Out :=
  .next (onWrite s q (logReg r 0x1C) fun x w => logCtrlWrite s x r w)

/-! Watchdog -/

/-- A write of WDT_CTRL: EN starts the first stage and stays set (R628). -/
def wdtCtrlWrite (s : State) (w : Wr) : State :=
  let t := if w.m.getLsbD 1 then rputb s R.WDT_CTRL 1 (bit w.v 1) else s
  if w.one 0 ∧ ¬ rbit s R.WDT_CTRL 0 then rset (rputb t R.WDT_CTRL 0 true) R.WDT_COUNT (rget s R.WDT_FIRST) else t

/-- A write of WDT_FIRST or WDT_FINAL: while EN is 0, and within the range (R628). -/
def wdtTimeWrite (s : State) (a : Nat) (w : Wr) : State :=
  let v := w.bits 31 0
  if rbit s R.WDT_CTRL 0 ∨ v < 1000 ∨ 60000000 < v then s else rset s a (word v)

/-- A write of WDT_KICK (R630). -/
def wdtKick (s : State) (r : Req) (w : Wr) : State :=
  if w.bits 31 0 = 0x4B1C then
    if rbit s R.WDT_CTRL 0 then rset (rputb s R.WDT_STAT 2 false) R.WDT_COUNT (rget s R.WDT_FIRST) else s
  else logReq (rputb s R.WDT_STAT 1 true) 1 Code.WDT_BADKICK r 0 0

def wdtWrite (s : State) (r : Req) (a : Nat) (w : Wr) : State :=
  if a = R.WDT_CTRL then wdtCtrlWrite s w
  else if a = R.WDT_FIRST ∨ a = R.WDT_FINAL then wdtTimeWrite s a w
  else if a = R.WDT_KICK then wdtKick s r w
  else genericWrite s r a w

/-- Whether the watchdog's count is paused: DBGSTOP with both control cores halted by DEBUG (R631). -/
def wdtPaused (s : State) : Bool :=
  rbit s R.WDT_CTRL 1 ∧ (coreOf s 0).phase = .halted ∧ (coreOf s 1).phase = .halted

/-- WDT_ENABLE (R628). -/
def execWdtEnable (q : RegAcc) (s : State) : Out :=
  .next (onWrite s q R.WDT_CTRL fun _ w => wdtCtrlWrite s w)

/-- WDT_KICK (R630). -/
def execWdtKick (q : RegAcc) (s : State) : Out :=
  .next (onWrite s q R.WDT_KICK fun r w => wdtKick s r w)

/-- WDT_FIRST_EXPIRY (R629): the final stage starts. -/
def execWdtFirstExpiry (s : State) : Out :=
  if rbit s R.WDT_CTRL 0 ∧ ¬ rbit s R.WDT_STAT 2 ∧ ¬ wdtPaused s then
    let t := edge s 0
    let t := rputb (rputb t R.WDT_STAT 0 true) R.WDT_STAT 2 true
    let t := rset t R.WDT_COUNT (rget s R.WDT_FINAL)
    .next (logUnit t true Code.WDT_FIRST 0 0)
  else .next s

end Sys2Proof.Machine
end

