-- ==== Sys2Proof/Machine/Timebase.lean ====
section
/-! DEFINITION. The device timebase: count, external time, discipline servo and alarm (R368, R382 to R392). -/
namespace Sys2Proof.Machine

/-- DTB_INC's nominal value and its greatest distance from it (R382, R383). -/
def incNominal : Int := 0x140000000
def incSpan : Int := 0x28F5C2

/-- An increment clipped to the range of R383, as DTB_INC holds it. -/
def clipInc (i : Int) : Nat := (max (incNominal - incSpan) (min (incNominal + incSpan) i)).toNat

/-- A signed offset from nominal clipped to the same range. -/
def clipFreq (f : Int) : Int := max (-incSpan) (min incSpan f)

def dtbFreq (s : State) : Int := sint 40 (rget s R.DTB_FREQ).toNat

/-- DTB_INC set; a PLL that follows scales its fraction with it (R368). -/
def setInc (s : State) (n : Nat) : State :=
  let t := rset s R.DTB_INC (word n)
  { t with servo := { t.servo with
      pllA := if rbit s R.DTB_CTRL 8 then n else t.servo.pllA
      pllB := if rbit s R.DTB_CTRL 9 then n else t.servo.pllB } }

/-- A PLL's fraction at a write of DTB_CTRL: scaled with DTB_INC while it follows, nominal while it does not (R368). -/
def pllFollow (s : State) : State :=
  let at' (b : Bool) : Nat := if b then (rget s R.DTB_INC).toNat else incNominal.toNat
  { s with servo := { s.servo with pllA := at' (rbit s R.DTB_CTRL 8), pllB := at' (rbit s R.DTB_CTRL 9) } }

/-- A CLK_SOC cycle passes: the DTB adds DTB_INC (R382). -/
def dtbTick (s : State) : State :=
  { s with dtb := s.dtb + (rget s R.DTB_INC).setWidth 96, ticks := s.ticks + 1 }

def servoSrc (s : State) : Nat := rbits s R.DTB_CTRL 2 0
def servoState (s : State) : Nat := rbits s R.DTB_STATE 1 0

/-- The servo's state becomes `n`; a change pends EIC 19 and logs DTB_STATE (R390). -/
def setServoState (s : State) (n : Nat) : State :=
  let t := { s with servo := { s.servo with good := 0 } }
  if servoState s = n then t
  else logUnit (edge (rput t R.DTB_STATE 1 0 n) 19) (unitSecure s 9) Code.DTB_STATE 0 0

/-- A step of EPOCH or of the grid is counted and logged (R387, R389), by the requester of a write or by the servo. -/
def dtbStep (s : State) (by' : Option Req) : State :=
  logBy (rcount s R.DTB_STEPS 1) by' (unitSecure s 9) Code.DTB_STEP 0 0

/-- DTB_EPOCH and DTB_EPOCHF as one 96-bit number (R387). -/
def epoch (s : State) : Nat := (rget s R.DTB_EPOCH).toNat * 2 ^ 32 + (rget s R.DTB_EPOCHF).toNat

def setEpoch (s : State) (n : Nat) : State :=
  rset (rset s R.DTB_EPOCH (word (n / 2 ^ 32 % 2 ^ 64))) R.DTB_EPOCHF (word (n % 2 ^ 32))

/-- The CLK_SOC cycles that the servo divides by, at least one (R389). -/
def servoCycles (s : State) : Nat := max 1 (s.ticks - s.servo.last)

/-- A measurement of phase error `e`, in 2^-16 ns, under the present SRC; `stamp` is the edge's stamp for SRC 3 and 4
(R389, R390). -/
def dtbMeasure (s : State) (e : Int) (stamp : Option Dtb) : State :=
  let n := servoCycles s
  let lockNs := rbits s R.DTB_SERVO 31 16
  let kp := rbits s R.DTB_SERVO 3 0
  let ki := rbits s R.DTB_SERVO 11 8
  let st := servoState s
  let t := rset s R.DTB_ERR (word (uint 64 e))
  let t := { t with servo := { t.servo with measured := true, last := s.ticks } }
  if rbits s R.DTB_STEP_US 15 0 * 1000 * 2 ^ 16 < e.natAbs then
    let t := match stamp with
      | none => setEpoch t (uint 96 ((epoch t : Int) + e * 2 ^ 16))
      | some x => { t with servo := { t.servo with grid := some x } }
    setServoState (dtbStep t none) 1
  else
    let f := clipFreq (dtbFreq s + Int.tdiv (e * 2 ^ (16 - ki)) n)
    let t := rset t R.DTB_FREQ (word (uint 40 f))
    let t := setInc t (clipInc (incNominal + f + Int.tdiv (e * 2 ^ (16 - kp)) n))
    if st = 0 ∨ st = 3 then setServoState t 1
    else if st = 2 then
      if 4 * lockNs * 2 ^ 16 < e.natAbs then
        setServoState { t with servo := { t.servo with grid := none } } 1
      else t
    else if e.natAbs ≤ lockNs * 2 ^ 16 then
      if t.servo.good + 1 = 8 then setServoState t 2 else { t with servo := { t.servo with good := t.servo.good + 1 } }
    else { t with servo := { t.servo with good := 0 } }

/-- A rising edge at the ball of SRC 3 or 4, stamped with the DTB; the first one sets the grid (R388). -/
def dtbEdge (s : State) (src : Nat) : State :=
  if servoSrc s = src then
    match s.servo.grid with
    | none => { s with servo := { s.servo with grid := some s.dtb } }
    | some g =>
      let g' := g + (rget s R.DTB_REFPER).setWidth 96
      let e := ((sint 96 (g' - s.dtb).toNat) / 2 ^ 16 : Int)
      dtbMeasure { s with servo := { s.servo with grid := some g' } } e (some s.dtb)
  else s

/-- A write of DTB_CTRL (R391). -/
def dtbCtrlWrite (s : State) (r : Req) (w : Wr) : State :=
  let src := w.bits 2 0
  if 5 ≤ src then genericWrite s r R.DTB_CTRL ⟨w.v, w.m &&& ~~~ mask 2 0⟩
  else
    let t := pllFollow (genericWrite s r R.DTB_CTRL w)
    let t := { t with servo := { t.servo with measured := false, last := s.ticks, grid := none } }
    if src = 0 then setServoState (setInc t (clipInc (incNominal + dtbFreq s))) 0
    else if servoState s = 1 ∨ servoState s = 2 then setServoState t 1
    else t

/-- A write of DTB_FREQ: ignored unless SRC is 0 (R391). -/
def dtbFreqWrite (s : State) (r : Req) (w : Wr) : State :=
  if servoSrc s = 0 then
    let t := genericWrite s r R.DTB_FREQ w
    setInc t (clipInc (incNominal + dtbFreq t))
  else s

/-- A write of DTB_EPOCH; one of 64 bits is a step (R387). -/
def dtbEpochWrite (s : State) (r : Req) (w : Wr) : State :=
  let t := genericWrite s r R.DTB_EPOCH w
  if w.m = ~~~ 0#64 then
    let t := dtbStep (rset t R.DTB_EPOCHF 0) (some r)
    if servoSrc s = 0 then t else setServoState t 1
  else t

/-- A 64-bit write of DTB_MEAS with SRC 1 (R388). -/
def dtbMeasWrite (s : State) (w : Wr) : State :=
  if servoSrc s = 1 ∧ w.m = ~~~ 0#64 then dtbMeasure s (sint 64 w.v.toNat) none else s

def dtbWrite (s : State) (r : Req) (a : Nat) (w : Wr) : State :=
  if a = R.DTB_CTRL then dtbCtrlWrite s r w
  else if a = R.DTB_FREQ then dtbFreqWrite s r w
  else if a = R.DTB_EPOCH then dtbEpochWrite s r w
  else if a = R.DTB_MEAS then dtbMeasWrite s w
  else genericWrite s r a w

/-- A read of DTB_NOW, of all of it or of the half that `m` covers; one of 64 bits by a control core latches the fraction for its
world (R385). -/
def dtbNowRead (s : State) (r : Req) (m : Word) : State × Word :=
  let core : Bool := match r.who with | .cc _ => true | _ => false
  let t := if core ∧ m = ~~~ 0#64 then
      let f : BitVec 32 := s.dtb.setWidth 32
      { s with servo := if r.world = .secure then { s.servo with nowfS := f } else { s.servo with nowfN := f } }
    else s
  (t, dtbNs s &&& m)

def dtbRead (s : State) (r : Req) (a : Nat) (m : Word) : State × Word :=
  if a = R.DTB_NOW then dtbNowRead s r m
  else if a = R.DTB_NOWF then (s, (if r.world = .secure then s.servo.nowfS else s.servo.nowfN).setWidth 64)
  else genericRead s r a m

/-- The mask of an access of a command's width. -/
def accMask (q : RegAcc) : Word := if q.wide then ~~~ 0#64 else 0xFFFFFFFF

/-- DTB_NOW_READ (R385). -/
def execDtbNowRead (q : RegAcc) (s : State) : Out :=
  .next (onRead s q R.DTB_NOW fun r => dtbNowRead s r (accMask q))

/-- DTB_EPOCH_WRITE (R387). -/
def execDtbEpochWrite (q : RegAcc) (s : State) : Out :=
  .next (onWrite s q R.DTB_EPOCH fun r w => dtbEpochWrite s r w)

/-- DTB_MEASUREMENT (R388, R389). -/
def execDtbMeasurement (q : RegAcc) (s : State) : Out :=
  .next (onWrite s q R.DTB_MEAS fun _ w => dtbMeasWrite s w)

/-- DTB_REF_EDGE (R388): a rising edge at WCLK_IN, or at VREF_IN. -/
def execDtbRefEdge (video : Bool) (s : State) : Out := .next (dtbEdge s (if video then 4 else 3))

/-- DTB_SRC_WRITE (R391). -/
def execDtbSrcWrite (q : RegAcc) (s : State) : Out :=
  .next (onWrite s q R.DTB_CTRL fun r w => dtbCtrlWrite s r w)

/-- DTB_FREQ_WRITE (R391). -/
def execDtbFreqWrite (q : RegAcc) (s : State) : Out :=
  .next (onWrite s q R.DTB_FREQ fun r w => dtbFreqWrite s r w)

/-- DTB_HOLDOVER_TIMEOUT (R390): the proportional term is dropped. -/
def execDtbHoldoverTimeout (s : State) : Out :=
  if servoState s = 1 ∨ servoState s = 2 then
    let t := setInc s (clipInc (incNominal + dtbFreq s))
    .next (setServoState { t with servo := { t.servo with grid := none } } 3)
  else .next s

/-- DTB_ALARM_FIRE (R392). -/
def execDtbAlarmFire (s : State) : Out :=
  if rbit s R.DTB_ALARMCTL 0 ∧ (rget s R.DTB_ALARM).toNat ≤ (dtbNs s).toNat then
    .next (edge (rputb s R.DTB_ALARMCTL 0 false) 18)
  else .next s

end Sys2Proof.Machine
end

