-- ==== Sys2Proof/Machine/Grants.lean ====
section
/-! DEFINITION. GRANT: the 64 dual-clock queues, their endpoints, allocation, visibility, drift meters (R369 to R381,
R393 to R397). -/
namespace Sys2Proof.Machine

def grantOf (s : State) (n : Nat) : Grant := mget s.grants n {}
def setGrant (s : State) (n : Nat) (g : Grant) : State := { s with grants := mset s.grants n g }

def grantOn (s : State) (n : Nat) : Bool := rbit s (R.GRANT_CFG n) 0
def grantTs (s : State) (n : Nat) : Bool := rbit s (R.GRANT_CFG n) 1
def grantWriter (s : State) (n : Nat) : Nat := rbits s (R.GRANT_CFG n) 15 8
def grantReader (s : State) (n : Nat) : Nat := rbits s (R.GRANT_CFG n) 23 16
def grantDepth (s : State) (n : Nat) : Nat := 2 ^ rbits s (R.GRANT_CFG n) 5 2
def grantAsync (s : State) (n : Nat) : Bool := rbit s (R.GRANT_STAT n) 4
def grantSecure (s : State) (n : Nat) : Bool := rbit s R.PART_GT_OWN n

/-- Entries the reader sees, and entries not freed for the writer (R376). -/
def rlevel (s : State) (n : Nat) : Nat := (grantOf s n).q.length - (grantOf s n).hidden
def wlevel (s : State) (n : Nat) : Nat := (grantOf s n).q.length + (grantOf s n).unfreed

/-- Whether an endpoint code serves a side on the variant (R369, R370, and each port chapter's table). -/
def endpointServes (s : State) (c : Nat) (writer : Bool) : Bool :=
  if 0x02 ≤ c ∧ c ≤ 0x0D then c - 2 < tunCount s
  else if 0x40 ≤ c ∧ c < 0x60 then c - 0x40 < spargeChannels s
  else if 0x60 ≤ c ∧ c < 0x70 then writer && c - 0x60 < tapEngines s
  else if 0x70 ≤ c ∧ c < 0x80 then !writer && c - 0x70 < tapEngines s
  else if 0x90 ≤ c ∧ c < 0x98 then writer && c - 0x90 < sapPorts s
  else if 0x98 ≤ c ∧ c < 0xA0 then !writer && c - 0x98 < sapPorts s
  else if 0xA0 ≤ c ∧ c < 0xA4 then writer && c - 0xA0 < aes3Pairs s
  else if 0xA4 ≤ c ∧ c < 0xA8 then !writer && c - 0xA4 < aes3Pairs s
  else if c = 0xA8 then writer && unitPresent s 0x14
  else if c = 0xA9 then !writer && unitPresent s 0x14
  else if c = 0xAA then writer
  else if 0xB0 ≤ c ∧ c < 0xC8 then (writer == ((c - 0xB0) / 4 % 2 == 0)) && (c - 0xB0) % 4 < sdiPorts s
  else if 0xC8 ≤ c ∧ c < 0xCC then !writer
  else if 0xCC ≤ c ∧ c < 0xD0 then writer
  else if 0xD0 ≤ c ∧ c < 0xD4 then !writer && unitPresent s 0x18
  else if 0xD4 ≤ c ∧ c < 0xD8 then writer && unitPresent s 0x18
  else if 0xD8 ≤ c ∧ c < 0xDC then !writer
  else if 0xDC ≤ c ∧ c < 0xE0 then writer
  else if 0xE0 ≤ c ∧ c < 0xE8 then !writer && unitPresent s 0x1B
  else if 0xE8 ≤ c ∧ c < 0xF0 then writer && unitPresent s 0x1B
  else c == 0xF0

/-- A port or tap endpoint: one grant at most, and it cannot stall (R370, R395). -/
def endpointPort (c : Nat) : Bool := (0x60 ≤ c ∧ c < 0x80) ∨ (0x90 ≤ c ∧ c < 0xF0)

/-- The domain of SAP port p, as 0 CLK_SOC, 2 CLK_AUDA, 3 CLK_AUDB (R422). -/
def sapDomain (s : State) (p : Nat) : Nat :=
  let own (p : Nat) := if rbit s (R.SAP_CFG p) 1 then 2 + rbits s (R.SAP_CFG p) 2 2 else 0
  if rbit s (R.SAP_CFG p) 18 then own (rbits s (R.SAP_CFG p) 21 19) else own p

/-- A number for the clock domain of an endpoint (R369, R422, R457): equal numbers are one domain. -/
def endpointDomain (s : State) (c : Nat) : Nat :=
  if 0x02 ≤ c ∧ c ≤ 0x0D then 1
  else if 0x60 ≤ c ∧ c < 0x80 then 32 + c % 16
  else if 0x90 ≤ c ∧ c < 0xA0 then sapDomain s (c % 8)
  else if 0xA4 ≤ c ∧ c < 0xA8 then 2 + rbits s (R.AES3_TXCFG (c - 0xA4)) 1 1
  else if c = 0xAA then 2 + rbits s R.PDM_CFG 1 1
  else if 0xB0 ≤ c ∧ c < 0xC8 then
    let p := c % 4
    if (c - 0xB0) / 4 % 2 = 0 then 8 + p
    else if rbits s (R.SDI_TXCFG p) 6 5 = 2 then 8 + rbits s (R.SDI_TXCFG p) 8 7
    else 64 + 8 * rbits s (R.SDI_TXCFG p) 4 4 + rbits s (R.SDI_TXCFG p) 3 1
  else if 0xC8 ≤ c ∧ c < 0xD8 then 16
  else if 0xD8 ≤ c ∧ c < 0xE0 then 17
  else 0

/-- A sticky STAT bit is set by its event; the event that EVT selects pends EIC 56 + n (R397). `evt` is the event's
number in EVT. -/
def grantSticky (s : State) (n bitNo evt : Nat) : State :=
  let t := rputb s (R.GRANT_STAT n) bitNo true
  if rbits s (R.GRANT_CFG n) 26 24 = evt then edge t (56 + n) else t

/-- The level event that EVT selects, when a change from `s` to `t` makes it (R397). -/
def grantLevels (n : Nat) (s t : State) : State :=
  let th := rbits t (R.GRANT_THRESH n) 11 0
  if (rbits t (R.GRANT_CFG n) 26 24 = 1 ∧ rlevel s n < th ∧ th ≤ rlevel t n) ∨
      (rbits t (R.GRANT_CFG n) 26 24 = 2 ∧ th < wlevel s n ∧ wlevel t n ≤ th) then
    edge (rputb t (R.GRANT_STAT n) 3 true) (56 + n)
  else t

/-- An overrun: counted, sticky, logged first per clear; the drift window that it falls in is discarded (R380, R395). -/
def grantOver (s : State) (n : Nat) (by' : Option Req := none) : State :=
  let first := !(rbit s (R.GRANT_STAT n) 0)
  let t := grantSticky (rcount s (R.GRANT_OVER n) 1) n 0 3
  let g := grantOf t n
  let t := setGrant t n { g with skip := g.q.length, count := 0 }
  if first then logBy t by' (grantSecure s n) Code.GRANT_OVERRUN (word n) 0 else t

/-- An underrun, likewise. -/
def grantUnder (s : State) (n : Nat) (by' : Option Req := none) : State :=
  let first := !(rbit s (R.GRANT_STAT n) 1)
  let t := grantSticky (rcount s (R.GRANT_UNDER n) 1) n 1 4
  let g := grantOf t n
  let t := setGrant t n { g with skip := g.q.length, count := 0 }
  if first then logBy t by' (grantSecure s n) Code.GRANT_UNDERRUN (word n) 0 else t

/-- Whether the writer finds the grant full, and the reader finds it empty. -/
def grantFull (s : State) (n : Nat) : Bool := grantDepth s n ≤ wlevel s n
def grantEmpty (s : State) (n : Nat) : Bool := rlevel s n = 0

/-- A push served into a grant that is not full, with its own stamp or the DTB's (R374, R375, R379). -/
def grantPush (s : State) (n : Nat) (v : Word) (side : Option Word) : State :=
  let g := grantOf s n
  let e : GEntry := ⟨v, if grantTs s n then side.getD (dtbNs s) else 0, s.dtb.toNat⟩
  grantLevels n s (setGrant s n { g with
    q := g.q ++ [e], hidden := if grantAsync s n then g.hidden + 1 else g.hidden })

/-- The drift meter at a pop (R380). -/
def driftPop (s : State) (n : Nat) (g : Grant) (e : GEntry) : Grant :=
  if 0 < g.skip then { g with skip := g.skip - 1 }
  else
    let g := if g.count = 0 then { g with pushFirst := e.pushed, popFirst := s.dtb.toNat } else g
    if g.count + 1 = 2 ^ rbits s (R.GRANT_DCFG n) 4 0 then
      { g with count := 0, ended := some (e.pushed - g.pushFirst, s.dtb.toNat - g.popFirst) }
    else { g with count := g.count + 1 }

/-- A pop served from a grant that shows an entry: the entry, and the state after it. -/
def grantPop (s : State) (n : Nat) : State × GEntry :=
  let g := grantOf s n
  match g.q with
  | [] => (s, ⟨0, 0, 0⟩)
  | e :: rest =>
    let g := driftPop s n g e
    (grantLevels n s (setGrant s n { g with
      q := rest, unfreed := if grantAsync s n then g.unfreed + 1 else g.unfreed }), e)

/-- An uncorrectable error in a grant RAM entry (R396). -/
def grantEccBad (s : State) (n : Nat) : State :=
  logUnit (grantSticky s n 2 5) (grantSecure s n) Code.ECC_UNCORRECTED (word n) (word (0x80 + n))

/-- Stream m has an input descriptor posted and not completed (R400). -/
def streamInput (s : State) (m : Nat) : Bool :=
  (mget s.sparge (rbits s (R.STR_CFG m) 20 16) []).any fun e =>
    match e.stream with | some (x, false, _) => x = m | _ => false

/-- A stream that is STOPPING, with no block of its run left to capture, ARMED or STOPPED pops and discards what reaches its GIN
(R409). -/
def streamDiscards (s : State) (n : Nat) : Bool :=
  (List.range 64).any fun m =>
    let st := rbits s (R.STR_STATE m) 2 0
    (st = 1 || st = 4 || (st = 3 && !(streamInput s m))) && rbits s (R.STR_CFG m) 5 0 = n

/-- The enabled grant that an endpoint code is bound to on a side. -/
def grantBound (s : State) (c : Nat) (writer : Bool) : Option Nat :=
  (List.range 64).find? fun n => grantOn s n && ((if writer then grantWriter s n else grantReader s n) == c)

/-- A push by a port or tap endpoint: dropped when the grant is full (R395). Without a grant nothing happens. -/
def portPush (s : State) (c : Nat) (v : Word) (side : Option Word) : State :=
  match grantBound s c true with
  | none => s
  | some n =>
    if grantFull s n then grantOver s n
    else
      let s := grantPush s n v side
      if streamDiscards s n then
        let g := grantOf s n
        setGrant (grantPop s n).1 n { g with q := [], hidden := 0 }
      else s

/-- A push of several entries of one frame, all with one stamp. -/
def portPushAll (s : State) (c : Nat) (vs : List Word) (side : Option Word) : State :=
  vs.foldl (fun s v => portPush s c v side) s

/-- A pop by a port or tap endpoint at its deadline: an empty grant is an underrun and gives no entry; so does an
uncorrectable entry (R395, R396). -/
def portPop (s : State) (c : Nat) (ecc : Ecc) : State × Option GEntry :=
  match grantBound s c false with
  | none => (s, none)
  | some n =>
    if grantEmpty s n then (grantUnder s n, none)
    else
      let (t, e) := grantPop s n
      if ecc = .uncorrected then (grantUnder (grantEccBad t n) n, none) else (t, some e)

/-- What a port sees of its transmit grant: how many entries it may pop. -/
def portLevel (s : State) (c : Nat) : Nat :=
  match grantBound s c false with | none => 0 | some n => rlevel s n

/-! Registers -/

/-- First word and number of words of a grant's range in grant RAM (R372). -/
def grantRange (s : State) (cfg : Word) (n : Nat) : Nat × Nat :=
  (rbits s (R.GRANT_BASE n) 15 3 * 8, 2 ^ bits cfg 5 2 * (if bit cfg 1 then 2 else 1))

/-- The endpoint check of R370 for a configuration word; a tap of a block of the other world is no endpoint (R565). -/
def grantEndpointBad (s : State) (n : Nat) (cfg : Word) : Bool :=
  let w := bits cfg 15 8
  let r := bits cfg 23 16
  let taken (c : Nat) (writer : Bool) : Bool := endpointPort c &&
    (match grantBound s c writer with | some m => m != n | none => false)
  let foreign (c : Nat) : Bool := 0x60 ≤ c && c < 0x80 && unitSecure s (0x0D + c % 16 / 4) != grantSecure s n
  !(endpointServes s w true) || !(endpointServes s r false) || taken w true || taken r false ||
  foreign w || foreign r || w == r

/-- The allocation check of R372. -/
def grantAllocBad (s : State) (n : Nat) (cfg : Word) : Bool :=
  let d := bits cfg 5 2
  let (b, l) := grantRange s cfg n
  d < 3 || 11 < d || 65536 < b + l ||
  (List.range 64).any fun m => m != n && grantOn s m &&
    (let (b', l') := grantRange s (rget s (R.GRANT_CFG m)) m; decide (b < b' + l' ∧ b' < b + l))

/-- A write of GRANT_CFGn (R370 to R373). -/
def grantCfgWrite (s : State) (r : Req) (n : Nat) (w : Wr) : State :=
  let a := R.GRANT_CFG n
  if grantOn s n then
    if bit w.v 0 then s
    else
      let t := genericWrite s r a w
      rputb (setGrant t n {}) (R.GRANT_DSTAT n) 0 false
  else
    let t := genericWrite s r a ⟨setBit w.v 0 false, w.m⟩
    if !(bit w.v 0) then t
    else
      let cfg := rget t a
      let eb := grantEndpointBad t n cfg
      let ab := grantAllocBad t n cfg
      if eb || ab then
        let t := if eb then rputb t (R.GRANT_STAT n) 6 true else t
        let t := if ab then rputb t (R.GRANT_STAT n) 5 true else t
        logReq t (b2n (grantSecure s n)) Code.GRANT_CFG_BAD r (word n) 0
      else
        let wd := endpointDomain t (bits cfg 15 8)
        let rd := endpointDomain t (bits cfg 23 16)
        rputb (rputb (setGrant t n { wdom := wd, rdom := rd }) a 0 true) (R.GRANT_STAT n) 4 (wd != rd)

/-- A write of GRANT_PUSHn (R377). -/
def grantPushWrite (s : State) (r : Req) (n : Nat) (w : Wr) : State :=
  if grantOn s n ∧ grantWriter s n = 0xF0 then
    if grantFull s n then grantOver s n (some r) else grantPush s n w.v none
  else s

/-- A read of GRANT_POPn, its value and whether the entry is uncorrectable (R378, R396). -/
def grantPopRead (s : State) (r : Req) (n : Nat) (ecc : Ecc) : State × Sum BusErr Word :=
  if grantOn s n ∧ grantReader s n = 0xF0 then
    if r.who = .debug then
      (s, .inr (if grantEmpty s n then 0 else match (grantOf s n).q with | e :: _ => e.val | [] => 0))
    else if grantEmpty s n then (grantUnder s n (some r), .inr 0)
    else
      let (t, e) := grantPop s n
      if ecc = .uncorrected then (grantEccBad t n, .inl .eccUncorrected)
      else (if grantTs s n then rset t (R.GRANT_POPTS n) e.side else t, .inr e.val)
  else (s, .inr 0)

/-- Register writes of GRANT. -/
def grantWrite (s : State) (r : Req) (a : Nat) (w : Wr) : State :=
  let n := (a - 0x400B0100) / 0x40
  match (a - 0x400B0100) % 0x40 with
  | 0x00 => grantCfgWrite s r n w
  | 0x04 => if grantOn s n then s else genericWrite s r a w
  | 0x1C => if 6 ≤ w.bits 4 0 ∧ w.bits 4 0 ≤ 16 then
      let t := genericWrite s r a w
      rputb (setGrant t n { grantOf t n with count := 0, ended := none }) (R.GRANT_DSTAT n) 0 false
    else s
  | 0x28 => grantPushWrite s r n w
  | _ => genericWrite s r a w

/-- Register reads of GRANT. -/
def grantRead (s : State) (r : Req) (a : Nat) (m : Word) : State × Sum BusErr Word :=
  let n := (a - 0x400B0100) / 0x40
  match (a - 0x400B0100) % 0x40 with
  | 0x08 => (s, .inr (word (wlevel s n + rlevel s n <<< 16)))
  | 0x30 => grantPopRead s r n .good
  | _ => let (t, v) := genericRead s r a m; (t, .inr v)

/-! Commands -/

/-- GRANT_ENABLE (R370, R372). -/
def execGrantEnable (q : RegAcc) (n : Fin 64) (s : State) : Out :=
  .next (onWrite s q (R.GRANT_CFG n) fun r w => grantCfgWrite s r n w)

/-- GRANT_DISABLE (R373). -/
def execGrantDisable (q : RegAcc) (n : Fin 64) (s : State) : Out :=
  .next (onWrite s q (R.GRANT_CFG n) fun r w => grantCfgWrite s r n w)

/-- GRANT_PUSH_WRITE (R377). -/
def execGrantPushWrite (q : RegAcc) (n : Fin 64) (s : State) : Out :=
  .next (onWrite s q (R.GRANT_PUSH n) fun r w => grantPushWrite s r n w)

/-- GRANT_POP_READ (R378, R396). -/
def execGrantPopRead (q : RegAcc) (n : Fin 64) (ecc : Ecc) (s : State) : Out :=
  .next (onRead s q (R.GRANT_POP n) fun r =>
    match grantPopRead s r n ecc with
    | (t, .inr v) => (t, v)
    | (t, .inl e) => (refuse t r (R.GRANT_POP n) e, s.lastRead))

/-- GRANT_POINTER_CROSS (R375): the write pointer crosses to the reader, or the read pointer to the writer. -/
def execGrantPointerCross (n : Fin 64) (toReader : Bool) (s : State) : Out :=
  let g := grantOf s n
  .next (grantLevels n s (setGrant s n (if toReader then { g with hidden := 0 } else { g with unfreed := 0 })))

/-- DRIFT_WINDOW_END (R380, R381): round((Sr / Sw − 1) × 2^32), saturated; a push span of zero gives a free value. -/
def execDriftWindowEnd (n : Fin 64) (s : State) : Out :=
  match (grantOf s n).ended with
  | none => .next s
  | some (sw, sr) =>
    let t := setGrant s n { grantOf s n with ended := none }
    let (v, t) := if sw = 0 then
        ((Config.freeWord t.freeIx) &&& 0xFFFFFFFF, { t with freeIx := t.freeIx + 1 })
      else
        let x := (((sr : Int) - sw) * 2 ^ 33 + sw) / (2 * sw)
        (word (uint 32 (max (-(2 ^ 31 - 1)) (min (2 ^ 31 - 1) x))), t)
    .next (rputb (rset t (R.GRANT_DRIFT n) v) (R.GRANT_DSTAT n) 0 true)

end Sys2Proof.Machine
end

