-- ==== Sys2Proof/Machine/Sparge.lean ====
section
/-! DEFINITION. SPARGE: posts, checks, chains, completion and abort of transfers (R265 to R278, R701); bursts stand in
SpargeMove.lean. ECC accounting of Cellar and local memory (R281 to R283). -/
namespace Sys2Proof.Machine

/-! ECC (R281, R282) -/

/-- The part identity of the bank that holds an address of Cellar or of a tun's local memory. -/
def eccPart (s : State) (a : Nat) : Option Nat :=
  match regionOf s a with
  | .cellar => some ((a - 0x10000000) / 0x80000)
  | .tun n off => some (0x20 + 8 * n + off / 8 % 8)
  | _ => none

/-- The corrected-error counter of a part. -/
def eccCounter (part : Nat) : Nat := if part < 0x20 then R.SPARGE_ECC_CEL part else R.SPARGE_ECC_TUN (part - 0x20)

/-- A corrected error in the granule of an address: counted, and the granule is to be written back. -/
def eccCorrected (s : State) (a : Nat) : State :=
  match eccPart s a with
  | none => s
  | some p =>
    let s := rcount s (eccCounter p) 1
    let g := a / 8 * 8
    { s with eccPend := if g ∈ s.eccPend then s.eccPend else g :: s.eccPend }

/-- An uncorrectable error: recorded, counted, logged in the secure ring with its part identity. -/
def eccFatal (s : State) (a : Nat) (req : Byte) (w : World) : State :=
  match eccPart s a with
  | none => s
  | some p =>
    let s := rset s R.SPARGE_UE_LAST (word (p * 2 ^ 40 + a / 8 * 8))
    let s := rcount s R.SPARGE_UE_COUNT 1
    logTo s 1 Code.ECC_UNCORRECTED req (w = .secure) (word a) (word p)

/-- ECC_WRITEBACK (R281): a granule whose corrected data wait is written back; its contents do not change. -/
def execEccWriteback (g : BitVec 40) (s : State) : Out :=
  .next { s with eccPend := s.eccPend.filter (fun x => x ≠ g.toNat / 8 * 8) }

/-! Orders as SPARGE sees them -/

def jentry (s : State) (j : Nat) : Option JEntry := (s.journal.find? (fun e => e.1 = j)).map Prod.snd

/-- Descriptor fields of an order (the table under "Descriptor" of spec/12). -/
def JEntry.f (e : JEntry) (o n : Nat) : Nat := fieldAt e.d o n
def JEntry.rackable (e : JEntry) : Bool := e.f 0x26 2 % 2 = 1
def JEntry.barrier (e : JEntry) : Bool := e.f 0x26 2 / 4 % 2 = 1
def JEntry.useFk (e : JEntry) : Option (Fin 16) :=
  if e.f 0x24 1 / 16 % 2 = 1 then some (Fin.ofNat 16 (e.f 0x24 1 % 16)) else none

/-- World of an order queue (R36). -/
def oqWorld (s : State) (n : Nat) : World := worldOf (rbit s R.PART_OQ_OWN n)

/-- Address and size of the staging slot of gyle `g` of queue `n` (R341, the table of ORDER_QSTGn). -/
def stagingSlot (s : State) (n g : Nat) : Nat × Nat :=
  let sz := 2 ^ rbits s (R.ORDER_QSTGCFG n) 12 8
  (rbits s (R.ORDER_QSTG n) 39 12 * 4096 + g % 2 ^ rbits s (R.ORDER_QSTGCFG n) 2 0 * sz, sz)

/-! Channels -/

abbrev St.OK : Byte := 0
abbrev St.BUS_ERROR : Byte := 1
abbrev St.ECC_ERROR : Byte := 2
abbrev St.SEAL_FAULT : Byte := 3
abbrev St.FIRKIN_ACCESS : Byte := 4
abbrev St.ABORTED : Byte := 5
abbrev St.DESC_BAD : Byte := 6
abbrev St.STAGING_ONLY : Byte := 7

def spQueue (s : State) (c : Nat) : List SpEntry := mget s.sparge c []
def setSpQueue (s : State) (c : Nat) (q : List SpEntry) : State := { s with sparge := mset s.sparge c q }
def spSecure (s : State) (c : Nat) : Bool := rbit s R.PART_SPG_OWN c

/-- The status that a refused access of a transfer ends it with (R276). -/
def spStatus : BusErr → Byte
  | .sealFault => St.SEAL_FAULT
  | .firkinAccess => St.FIRKIN_ACCESS
  | .eccUncorrected => St.ECC_ERROR
  | _ => St.BUS_ERROR

/-- CAUSE of a BUS_ERROR; another status leaves it (R700). -/
def spCause (s : State) (c : Nat) (e : BusErr) : State :=
  if spStatus e = St.BUS_ERROR then rput s (R.SPARGE_CHSTAT c) 31 24 (busErrNum e) else s

def spZero : SpDesc := ⟨0, 0, 0, 0, 0, 0, 0, 0, 0, 0, 0, 0⟩

/-- A descriptor read from its 64 bytes (the table under "Descriptor format"). -/
def spDesc (l : List Byte) : SpDesc :=
  let f (o n : Nat) := fieldAt l o n
  ⟨word (f 0 8), word (f 8 8), BitVec.ofNat 32 (f 0x10 4), BitVec.ofNat 16 (f 0x14 2), BitVec.ofNat 16 (f 0x16 2),
   BitVec.ofNat 32 (f 0x18 4), BitVec.ofNat 32 (f 0x1C 4), word (f 0x20 8), BitVec.ofNat 8 (f 0x28 1),
   BitVec.ofNat 56 (f 0x29 7), word (f 0x30 8), word (f 0x38 8)⟩

def SpDesc.chain (d : SpDesc) : Bool := d.flags.getLsbD 0
def SpDesc.donePush (d : SpDesc) : Bool := d.flags.getLsbD 1
def SpDesc.fence (d : SpDesc) : Bool := d.flags.getLsbD 2
def SpDesc.fill (d : SpDesc) : Bool := d.flags.getLsbD 3
def SpDesc.stamp (d : SpDesc) : Bool := d.flags.getLsbD 4
def SpDesc.srcGt (d : SpDesc) : Bool := d.flags.getLsbD 5
def SpDesc.dstGt (d : SpDesc) : Bool := d.flags.getLsbD 6
def SpDesc.total (d : SpDesc) : Nat := d.rowLen.toNat % 2 ^ 24 * d.rows.toNat

/-- A field marked zero holds another value. -/
def SpDesc.fieldsBad (d : SpDesc) : Bool :=
  (if d.srcGt then bits d.src 63 6 ≠ 0 else !d.fill && bits d.src 63 40 ≠ 0) ||
  (if d.dstGt then bits d.dst 63 6 ≠ 0 else bits d.dst 63 40 ≠ 0) ||
  2 ^ 24 ≤ d.rowLen.toNat || 2 ^ 7 ≤ d.flags.toNat ||
  bits d.next 5 0 ≠ 0 || bits d.next 63 40 ≠ 0 ||
  64 ≤ d.doneGt.toNat || d.zero29 ≠ 0 || 2 ^ 56 ≤ d.doneTag.toNat || d.zero38 ≠ 0 ||
  (d.fill && d.srcGt) || ((d.srcGt || d.dstGt) && d.rowLen.toNat % 8 ≠ 0)

/-- The grants a descriptor names serve this channel on the needed side (R271): source and destination; completion. -/
def spDataGrantsOk (s : State) (c : Nat) (d : SpDesc) : Bool :=
  (!d.srcGt || (grantOn s (bits d.src 5 0) && grantReader s (bits d.src 5 0) == 0x40 + c)) &&
  (!d.dstGt || (grantOn s (bits d.dst 5 0) && grantWriter s (bits d.dst 5 0) == 0x40 + c))
def spDoneGrantOk (s : State) (c : Nat) (d : SpDesc) : Bool :=
  !d.donePush || (grantOn s (d.doneGt.toNat % 64) && grantWriter s (d.doneGt.toNat % 64) == 0x40 + c)

/-- RACK_WRITE_REFUSED, in the ring of the order's world; the order is marked (R277, R345). -/
def spRefuseRack (s : State) (e : SpEntry) (arg0 : Nat) : State :=
  let w := match e.order.bind (jentry s) with | some j => oqWorld s j.queue | none => e.req.world
  let s := logTo s (worldRing w) Code.RACK_WRITE_REFUSED e.req.id (w = .secure) (word arg0) (word e.gyle)
  match e.order with
  | some j => match jentry s j with
    | some x => { s with journal := mset s.journal j { x with stagingOnly := true } }
    | none => s
  | none => s

/-- SPARGE_DESC_BAD, caused by the poster, in the ring of the world that owns the channel (R618, R621). -/
def spLogBad (s : State) (c : Nat) (r : Req) : State := logReq s (b2n (spSecure s c)) Code.SPARGE_DESC_BAD r (word c) 6

/-- The descriptor in progress ends with a status; `quiet` withholds its completion entry. An OK one that chains goes
on to NEXT; any other status ends the chain (R701). -/
def SpEntry.finish (e : SpEntry) (st : Byte) (quiet : Bool) : SpEntry :=
  { e with fin := e.fin ++ [(e.desc, st, quiet)], phase := if st = St.OK ∧ e.desc.chain then .chain else .ended }

/-- A descriptor taken into an entry: the checks of R271 and R277 made at its post, and a null descriptor (R272). -/
def spAdmit (s : State) (c : Nat) (e : SpEntry) : State × SpEntry :=
  let d := e.desc
  if d.fieldsBad ∨ ¬ spDataGrantsOk s c d ∨ ¬ spDoneGrantOk s c d then
    (spLogBad s c e.post, e.finish St.DESC_BAD (!(spDoneGrantOk s c d)))
  else if e.rackable ∧ d.donePush ∧ some (grantReader s (d.doneGt.toNat % 64)) ≠ e.tun.map (fun t => t.val + 2) then
    (spRefuseRack s e (d.doneGt.toNat % 64), e.finish St.STAGING_ONLY true)
  else if e.rackable ∧ d.dstGt then (spRefuseRack s e (bits d.dst 5 0), e.finish St.STAGING_ONLY false)
  else if d.total = 0 then (s, { e with phase := .queued })
  else (s, { e with phase := .queued, moved := 0 })

/-- The attributes of a channel's transfers (R35): the world that owns the channel, the level of the core that posted or,
where that world does not have it, its supervisor level; the firkin attribute of the post (R278). -/
def spReq (s : State) (c : Nat) (r : Req) : Req :=
  let sec := spSecure s c
  let v : Level := if sec then (if r.level = .n then .s else r.level)
    else (if r.level = .s ∨ r.level = .m then .n else r.level)
  ⟨.sparge (Fin.ofNat 32 c), BitVec.ofNat 8 (0x40 + c), worldOf sec, v, r.firkin⟩

/-- A post: the descriptor is read at `a` with the poster's attributes and takes its place in the channel (R268, R269). -/
def spPost (s : State) (c : Nat) (r : Req) (tun : Option (Fin 12)) (a : Nat) : State :=
  let ord := tun.bind fun t => (coreOf s (t.val + 2)).order
  let j := ord.bind (jentry s)
  let rackable : Bool := match j with
    | some x => x.rackable
    | none => false
  let e : SpEntry := ⟨spReq s c r, tun, ord, (j.map JEntry.gyle).getD 0, rackable, spZero, .queued, 0, [], none, r⟩
  match memRead s r a 64 .read with
  | (s, .inr l) =>
    let (s, e) := spAdmit s c { e with desc := spDesc l }
    setSpQueue s c (spQueue s c ++ [e])
  | (s, .inl x) =>
    let s := spCause s c x
    setSpQueue s c (spQueue s c ++ [e.finish (spStatus x) true])

/-- A write of SPARGE_POSTc (R266, R269). -/
def spPostWrite (s : State) (r : Req) (c : Nat) (v : Word) : State :=
  if spargeChannels s ≤ c then s
  else if 8 ≤ (spQueue s c).length then rputb s (R.SPARGE_CHSTAT c) 5 true
  else if bits v 5 0 ≠ 0 ∨ bits v 63 40 ≠ 0 then
    edge (spLogBad (rput s (R.SPARGE_CHSTAT c) 15 8 6) c r) (120 + c)
  else spPost s c r none v.toNat

/-- Abort of a channel: every posted descriptor ends ABORTED; bytes written stay. -/
def spAbort (s : State) (c : Nat) : State :=
  setSpQueue s c ((spQueue s c).map fun e => if e.phase = .ended then e else e.finish St.ABORTED false)

/-- A write of SPARGE_CHCTLc. -/
def spCtlWrite (s : State) (r : Req) (c : Nat) (w : Wr) : State :=
  let s := genericWrite s r (R.SPARGE_CHCTL c) w
  if w.one 1 then spAbort s c else s

/-- Whether a range touches a tun's local window. -/
def inWindow (n a len : Nat) : Bool :=
  let b := 0x20000000 + n * 0x100000
  a < b + 0x40000 && b < a + len

/-- Whether a transfer reads or writes tun n's window: the extent of its rows. -/
def spTouches (d : SpDesc) (n : Nat) : Bool :=
  let len := d.rowLen.toNat % 2 ^ 24
  (List.range d.rows.toNat).any fun r =>
    (!d.srcGt && !d.fill && inWindow n (uint 40 ((d.src.toNat : Int) + r * d.srcStride.toInt)) len) ||
    (!d.dstGt && inWindow n (uint 40 ((d.dst.toNat : Int) + r * d.dstStride.toInt)) len)

/-- A tun that posted is part-reset, retired or taken into steeping: its descriptors that have not started, and the
started ones that touch its window, end ABORTED ("Part reset of a poster"). -/
def spPosterGone (s : State) (n : Nat) : State :=
  (List.range 32).foldl (fun s c =>
    setSpQueue s c ((spQueue s c).map fun e =>
      if e.tun.map Fin.val = some n ∧ e.phase ≠ .ended ∧ (e.phase ≠ .running ∨ spTouches e.desc n) then
        e.finish St.ABORTED false
      else e)) s

/-- Whether tun n has a posted descriptor that has not completed, on channel c (R276). -/
def spOutstanding (s : State) (c n : Nat) : Bool := (spQueue s c).any fun e => e.tun.map Fin.val = some n

/-! Completion -/

/-- What a completion adds: LAST, DONE, and EIC source 120 + c for a status other than OK (R273). -/
def spCount (s : State) (c : Nat) (st : Byte) : State :=
  let s := rwrap (rput s (R.SPARGE_CHSTAT c) 15 8 st.toNat) (R.SPARGE_DONE c) 1
  if st = St.OK then s else edge s (120 + c)

/-- The front of a channel completes its oldest finished descriptor, pushing its completion entry; a full completion
grant holds the channel (R271, R273, R275). -/
def spComplete (s : State) (c : Nat) : State :=
  match spQueue s c with
  | [] => s
  | e :: rest =>
    match e.fin with
    | [] => s
    | (d, st, quiet) :: more =>
      let gt := d.doneGt.toNat % 64
      let pop (s : State) (e : SpEntry) : State :=
        setSpQueue s c (if more = [] ∧ e.phase = .ended then rest else { e with fin := more } :: rest)
      if !d.donePush || quiet then pop (spCount s c st) e
      else if !(spDoneGrantOk s c d) then
        let s := spLogBad s c e.post
        pop (spCount s c St.DESC_BAD) { e with phase := .ended }
      else if grantFull s gt then s
      else
        let s := grantPush s gt (word (st.toNat * 2 ^ 56 + bits d.doneTag 55 0)) none
        pop (spCount s c st) e

/-- Whether entry i of a channel may begin: the channel is enabled, its fence is met, no earlier entry is still to
begin (R267, R271, R274). -/
def spMayStart (s : State) (c i : Nat) : Bool :=
  rbit s (R.SPARGE_CHCTL c) 0 &&
  (match (spQueue s c)[i]? with
   | some e => e.phase = .queued && (!e.desc.fence || i = 0) && ((spQueue s c).take i).all (fun x => x.phase ≠ .queued)
   | none => false)

/-- A change to entry i of a channel. -/
def spModify (s : State) (c i : Nat) (f : SpEntry → SpEntry) : State :=
  setSpQueue s c ((spQueue s c).modify i f)

/-! Registers -/

def spWrite (s : State) (r : Req) (a : Nat) (w : Wr) : State :=
  let off := a - 0x400C0000
  if 0x100 ≤ off ∧ off < 0x500 then
    let c := (off - 0x100) / 0x20
    if spargeChannels s ≤ c then s
    else match (off - 0x100) % 0x20 with
    | 0x00 => spPostWrite s r c w.v
    | 0x0C => spCtlWrite s r c w
    | _ => genericWrite s r a w
  else genericWrite s r a w

def spRead (s : State) (r : Req) (a : Nat) (m : Word) : State × Word :=
  let off := a - 0x400C0000
  if off = 0 then (s, word (spargeChannels s))
  else if 0x100 ≤ off ∧ off < 0x500 then
    let c := (off - 0x100) / 0x20
    if spargeChannels s ≤ c then (s, 0)
    else if (off - 0x100) % 0x20 = 8 then
      let q := spQueue s c
      (s, setBits (setBit (rget s a) 4 (q.any fun e => e.phase = .running)) 3 0 q.length)
    else genericRead s r a m
  else genericRead s r a m

/-! Commands -/

/-- SPARGE_POST (R269). -/
def execSpargePost (q : RegAcc) (c : Fin 32) (s : State) : Out :=
  .next (onWrite s q (R.SPARGE_POST c) fun r w => spPostWrite s r c w.v)

/-- SPARGE_TRANSFER_START (R267, R271, R274): entry i of the channel begins; a null descriptor completes at once. -/
def execSpargeTransferStart (c : Fin 32) (i : Fin 8) (s : State) : Out :=
  if spMayStart s c i then
    .next (spModify s c i fun e => if e.desc.total = 0 then e.finish St.OK false else { e with phase := .running })
  else .next s

/-- SPARGE_CHAIN_NEXT (R701): the descriptor at NEXT of entry i. -/
def execSpargeChainNext (c : Fin 32) (i : Fin 8) (s : State) : Out :=
  match (spQueue s c)[i.val]? with
  | some e =>
    if e.phase = .chain then
      match memRead s e.post (bits e.desc.next 39 0) 64 .read with
      | (t, .inr l) =>
        let (t, e) := spAdmit t c { e with desc := spDesc l, moved := 0, phase := .queued }
        .next (spModify t c i fun _ => e)
      | (t, .inl x) => .next (spModify (spCause t c x) c i fun e => { e with desc := spZero }.finish (spStatus x) true)
    else .next s
  | none => .next s

/-- SPARGE_ABORT (R276 and "Abort"). -/
def execSpargeAbort (q : RegAcc) (c : Fin 32) (s : State) : Out :=
  .next (onWrite s q (R.SPARGE_CHCTL c) fun r w => spCtlWrite s r c w)

end Sys2Proof.Machine
end

