-- ==== Sys2Proof/Machine/Orders.lean ====
section
/-! DEFINITION. ORDER and STEEP: queues, acceptance, dispatch, attempts, re-run (R333 to R351, R354), the steep
rotation (R357 to R366). Racking, which writes memory over the fabric, stands in Rack.lean. -/
namespace Sys2Proof.Machine

def setJ (s : State) (j : Nat) (e : JEntry) : State := { s with journal := mset s.journal j e }

/-- Unracked orders of queue n. -/
def queueOrders (s : State) (n : Nat) : List (Nat × JEntry) := s.journal.filter fun e => e.2.queue = n

def queueSize (s : State) (n : Nat) : Nat := 2 ^ rbits s (R.ORDER_QCFG n) 4 1
def queueOn (s : State) (n : Nat) : Bool := rbit s (R.ORDER_QCFG n) 0
def queueSecure (s : State) (n : Nat) : Bool := rbit s R.PART_OQ_OWN n

/-- The attributes with which ORDER reads a queue's ring and racks its outputs: the queue's world (R347). -/
def orderReq (s : State) (n : Nat) : Req := ⟨.own, 0xFE, oqWorld s n, if queueSecure s n then .s else .n, none⟩

/-- An entry about an order: the queue in ARG0, the gyle in ARG1 (R618). -/
def logOrder (s : State) (n : Nat) (code g : Nat) : State := logUnit s (queueSecure s n) code (word n) (word g)

/-! Internal requests to Keeve (R99) -/

/-- A write that a unit asks of Keeve: carried out at once where Keeve is idle, else queued, STEEP ahead of Copper. -/
def keeveAsk (s : State) (q : KeeveReq) (steep : Bool) : State :=
  match s.keeve.running with
  | none => rputb { s with keeve := { s.keeve with running := some q } } R.KEEVE_STATUS 8 true
  | some _ => { s with keeve := { s.keeve with queue := if steep then q :: s.keeve.queue else s.keeve.queue ++ [q] } }

/-! Tuns as ORDER and STEEP see them -/

def tunRetired (s : State) (p : Nat) : Bool := rbit s R.STEEP_RETIRED p
def tunInPool (s : State) (p : Nat) : Bool := rbit s R.STEEP_POOL p
def setPool (s : State) (p : Nat) (b : Bool) : State := rputb s R.STEEP_POOL p b
/-- Present, non-retired tuns, by processor number. -/
def aliveTuns (s : State) : List Nat := ((List.range 14).drop 2).filter fun p => procPresent s p && !(tunRetired s p)

/-- A tun's registers as R153 leaves them, keeping nothing. -/
def freshTun (pc : Nat) (fetching : Bool) : Core := { phase := .running, pc := pc, fetching := fetching }

/-- Every byte of tun n's local memory cleared. -/
def clearLocal (s : State) (n : Nat) : State := clearRange s (0x20000000 + n * 0x100000) (0x20000000 + n * 0x100000 + 0x40000)

/-- The part reset of a tun (R22, R153): its transfers end, its registers and local memory are cleared, and it waits at
its fetcher. -/
def tunPartReset (s : State) (p : Nat) : State :=
  let s := spPosterGone s (p - 2)
  setCore (clearLocal s (p - 2)) p (freshTun (rbits s R.SYSCON_TUN_VECTOR 39 2 * 4) true)

/-- A tun must steep next (R350, R366). -/
def steepNext (s : State) (p : Nat) : State :=
  if p ∈ s.steep.must then s else { s with steep := { s.steep with must := s.steep.must ++ [p] } }

/-! The end of an attempt -/

/-- A tun leaves its order and is back at its fetcher, in the secure world at T level (R153, R697). -/
def tunFree (s : State) (p : Nat) : State :=
  modCore s p fun c =>
    setCreg
      { c with
        order := none, odone := false, fetching := true, bundle := [], inflight := [], stall := none, delay := none,
        event := none, haltHeld := false, lastWorld := coreWorld p c, nonlocalSeen := false,
        phase := if c.haltHeld then .halted else c.phase } 1 4

/-- Whether an untried tun could still serve an order (R341, R351). -/
def untriedTun (s : State) (e : JEntry) (tried : List Nat) : Bool :=
  (aliveTuns s).any fun p => p ∉ tried && rbit s (R.ORDER_QELIG e.queue) p &&
    (!(queueSecure s e.queue) || rbit s R.PART_TUN_SECURE p) &&
    (match e.useFk with | some f => rbit s (R.PART_FK_TUN f) p | none => true)

/-- ORDER_FAILED of an order that no untried tun is left for: the attempt's own cause stands beside the queue in ARG0 (R351). -/
def logNoTun (s : State) (n own g : Nat) : State :=
  logUnit s (queueSecure s n) Code.ORDER_FAILED (word (n + own * 256)) (word g)

/-- An attempt of journal entry j on processor p ends by an event of R350: re-run under R351 where the event asks it of
a rackable order, else FAILED with the event's cause. -/
def attemptEvent (s : State) (p j : Nat) (cause : Nat) (rerun : Bool) (sw : Byte) : State :=
  match jentry s j with
  | none => s
  | some e =>
    let tried := e.tried ++ [p]
    let n := e.attempts + 1
    let s := logOrder s e.queue Code.ORDER_RERUN e.gyle
    let e := { e with attempts := n, tried := tried, cause := cause, sw := sw, proc := none }
    if rerun ∧ e.rackable then
      if 3 ≤ n then logOrder (setJ s j { e with st := .staged, failed := true }) e.queue Code.ORDER_FAILED e.gyle
      else if untriedTun s e tried then setJ s j { e with st := .accepted }
      else logNoTun (setJ s j { e with st := .staged, failed := true, cause := 13 }) e.queue cause e.gyle
    else setJ s j { e with st := .staged, failed := true }

/-- What an event of R350 does to the tun that ran the attempt. -/
inductive TunAnswer where | partReset | steeps | stays | scrubs
  deriving DecidableEq, Repr

/-- A 1 KiB block of local memory cleared. -/
def clearBlock (s : State) (n b : Nat) : State :=
  clearRange s (0x20000000 + n * 0x100000 + b * 1024) (0x20000000 + n * 0x100000 + (b + 1) * 1024)

/-- The scrub of R51: the written blocks cleared, the instruction cache invalid, no firkin line left. -/
def tunScrub (s : State) (p : Nat) : State :=
  let s := (coreOf s p).written.foldl (fun s b => clearBlock s (p - 2) b) s
  modCore s p fun c =>
    { c with
      written := [], fkLines := [], icache := [], fetchErr := [], g := [], p := 1, fastG := [], fastP := 0, xa := [] }

/-- An event of R350 on the tun of processor p: its attempt, if it runs one, ends. -/
def tunEvent (s : State) (p : Nat) (cause : Nat) (rerun : Bool) (sw : Byte) (ans : TunAnswer) : State :=
  let s := match (coreOf s p).order with
    | some j => attemptEvent s p j cause rerun sw
    | none => s
  match ans with
  | .partReset => steepNext (tunPartReset s p) p
  | .steeps => steepNext (tunFree s p) p
  | .stays => tunFree s p
  | .scrubs => tunScrub (tunFree s p) p

/-! Queue registers -/

/-- Whether queue n has no unracked order. -/
def queueDrained (s : State) (n : Nat) : Bool := (queueOrders s n).isEmpty

/-- Whether the staging pool of queue n lies wholly in one valid KIND 1 entry of its world (R335). -/
def stagingOk (s : State) (n : Nat) : Bool :=
  let lo := rbits s (R.ORDER_QSTG n) 39 12 * 4096
  let len := 2 ^ rbits s (R.ORDER_QSTGCFG n) 2 0 * 2 ^ rbits s (R.ORDER_QSTGCFG n) 12 8
  rbits s (R.ORDER_QSTGCFG n) 2 0 ≤ 6 && 12 ≤ rbits s (R.ORDER_QSTGCFG n) 12 8 && rbits s (R.ORDER_QSTGCFG n) 12 8 ≤ 20 &&
  (List.range 32).any fun i => rgnValid s i && rgnKind s i = 1 && (bit (rgnAttr s i) 1 == queueSecure s n) &&
    decide (rgnLo s i ≤ lo ∧ lo + len ≤ rgnHi s i)

/-- A write of ORDER_QCFGn (R334, R335). -/
def queueCfgWrite (s : State) (r : Req) (n : Nat) (w : Wr) : State :=
  let a := R.ORDER_QCFG n
  let locked := queueOn s n || !(queueDrained s n)
  let t := genericWrite s r a ⟨setBit w.v 0 false, if locked then w.m &&& ~~~ mask 4 1 else w.m⟩
  if !(bit w.v 0) then { t with doors := mdel t.doors n }
  else if queueOn s n then rputb t a 0 true
  else
    let z := rbits t a 4 1
    if z < 3 ∨ 8 < z then t
    else if !(stagingOk t n) then
      logBy (rputb t (R.ORDER_QSTAT n) 2 true) (some r) (queueSecure s n) Code.STAGING_BAD (word n) 0
    else
      let i := (rget t (R.ORDER_QGYLE n)).toNat % 2 ^ z
      rputb (rset t (R.ORDER_QPTR n) (word (i + i <<< 8))) a 0 true

/-- A write of ORDER_QGYLEn (R339). -/
def queueGyleWrite (s : State) (r : Req) (n : Nat) (w : Wr) : State :=
  let t := genericWrite s r (R.ORDER_QGYLE n) w
  if queueOn s n ∨ (rget t (R.ORDER_QGYLE n)).toNat < (rget s (R.ORDER_QGYLE n)).toNat then s else t

/-- A write of ORDER_QDOORn: a doorbell of 1 to 256 descriptors; ignored while a live stream names the queue (R415). -/
def queueDoor (s : State) (r : Req) (n k : Nat) : State :=
  match (List.range 64).find? (fun m => let st := rbits s (R.STR_STATE m) 2 0
                                        (st = 2 || st = 3) && rbits s (R.STR_CFG m) 28 24 = n) with
  | some m =>
    let x := mget s.streams m {}
    if x.busyLogged then s
    else logBy { s with streams := mset s.streams m { x with busyLogged := true } } (some r) (rbit s R.PART_OQ_OWN n)
      Code.STREAM_QUEUE_BUSY (word n) 0
  | none =>
  if k = 0 ∨ 256 < k ∨ !(queueOn s n) then s else { s with doors := mset s.doors n (mget s.doors n [] ++ [k]) }

/-- Register writes of the queue blocks and global registers of ORDER. -/
def queueWrite (s : State) (r : Req) (a : Nat) (w : Wr) : State :=
  let off := a - 0x400A0000
  if off < 0x100 then genericWrite s r a w
  else
    let n := (off - 0x100) / 0x80
    let open' := !(queueOn s n) && queueDrained s n
    match (off - 0x100) % 0x80 with
    | 0x00 => queueCfgWrite s r n w
    | 0x08 | 0x10 | 0x18 | 0x20 | 0x40 | 0x48 => if open' then genericWrite s r a w else s
    | 0x24 => genericWrite s r a ⟨w.v, w.m &&& procMask s⟩
    | 0x28 => queueDoor s r n (w.bits 8 0)
    | 0x30 => queueGyleWrite s r n w
    | _ => genericWrite s r a w

/-- Register reads of ORDER's queue blocks: INFLIGHT, DRAINED and USED are what the journal says. -/
def queueRead (s : State) (r : Req) (a : Nat) (m : Word) : State × Word :=
  let off := a - 0x400A0000
  if off = 4 then (s, setBits (rget s a) 10 0 s.journal.length)
  else if off < 0x100 then genericRead s r a m
  else
    let n := (off - 0x100) / 0x80
    match (off - 0x100) % 0x80 with
    | 0x2C => (s, setBits (rget s a) 24 16 (queueOrders s n).length)
    | 0x54 => (s, setBit (rget s a) 1 (queueDrained s n))
    | _ => genericRead s r a m

/-! Acceptance (R336 to R338) -/

/-- A descriptor breaks R336. -/
def orderDescBad (s : State) (n : Nat) (d : List Byte) : Bool :=
  let f := fieldAt d
  let inLen := f 0x10 4
  let outLen := f 0x20 4
  let flags := f 0x26 2
  let barrier := flags / 4 % 2 = 1
  f 0 8 % 4 ≠ 0 || 2 ^ 40 ≤ f 0 8 || 2 ^ 40 ≤ f 8 8 || 2 ^ 40 ≤ f 0x18 8 || f 0x24 1 / 32 ≠ 0 || f 0x25 1 / 4 ≠ 0 ||
  flags / 8 ≠ 0 || f 0x39 7 ≠ 0 || f 0x38 1 ≠ 0 || inLen % 8 ≠ 0 || 0x20000 < inLen || f 0x14 4 % 8 ≠ 0 ||
  0x3FFC0 < f 0x14 4 + inLen || (stagingSlot s n 0).2 < outLen || (flags % 2 = 0 && outLen ≠ 0) ||
  (barrier && (f 0 8 ≠ 0 || inLen ≠ 0 || outLen ≠ 0 || f 0x24 1 / 16 % 2 = 1))

/-- The lowest free journal index. -/
def journalFree (s : State) : Nat := ((List.range 1024).find? fun j => !(mhas s.journal j)).getD 1024

/-- The rest of the front doorbell of queue n is refused (R338). -/
def queueRefuse (s : State) (n k : Nat) : State :=
  let s := { s with doors := mset s.doors n ((mget s.doors n []).drop 1) }
  let s := edge (rputb (rcount s (R.ORDER_QREFUSED n) k) (R.ORDER_QSTAT n) 0 true) 52
  logUnit s (queueSecure s n) Code.JOURNAL_FULL (word n) 0

/-- One descriptor of queue n's front doorbell is accepted, or the doorbell's rest is refused (R337, R338). -/
def orderAccept (s : State) (n : Nat) : State :=
  match mget s.doors n [] with
  | [] => s
  | k :: rest =>
    if !(queueOn s n) then s
    else
      let size := queueSize s n
      let i := rbits s (R.ORDER_QPTR n) 15 8
      let g := (rget s (R.ORDER_QGYLE n)).toNat
      if 1024 ≤ s.journal.length ∨ (queueOrders s n).any (fun e => e.2.gyle % size = g % size) then queueRefuse s n k
      else
        let a := rbits s (R.ORDER_QRING n) 39 6 * 64 + i * 64
        let (s, got) := memRead s (orderReq s n) a 64 .read
        let d := match got with | .inr l => l | .inl _ => []
        let bad := d = [] || orderDescBad s n d
        let barrier := fieldAt d 0x26 2 / 4 % 2 = 1
        let e : JEntry :=
         {
          gyle := g, queue := n, desc := a, st := if bad || barrier then .staged else .accepted, attempts := 0,
          tried := [], cause := if bad then 11 else 0, sw := 0, acceptNs := (dtbNs s).toNat, d := d, proc := none, failed := bad,
          stagingOnly := false, replayed := false }
        let s := setJ s (journalFree s) e
        let s := rset s (R.ORDER_QGYLE n) (word ((g + 1) % 2 ^ 64))
        let s := rput s (R.ORDER_QPTR n) 15 8 ((i + 1) % size)
        let s := { s with doors := mset s.doors n (if k = 1 then rest else (k - 1) :: rest) }
        if bad then logOrder s n Code.ORDER_DESC_BAD g else s

/-! Dispatch (R341 to R344) -/

/-- Firkin slot f's state (R141): 0 EMPTY, 1 LOADING, 2 LOADED, 3 RUNNING, 4 STOPPED. -/
def fkState (s : State) (f : Nat) : Nat := rbits s R.COPPER_FK_STATE (4 * f + 2) (4 * f)

/-- Whether the fetcher of processor p is free to take an order. -/
def fetcherFree (s : State) (p : Nat) : Bool :=
  let c := coreOf s p
  c.fetching && (c.phase = .running) && c.order.isNone && tunInPool s p && !(p ∈ s.steep.must) && rbit s R.ORDER_CTRL 0 &&
  rbits s R.PCC_STAT 2 0 ≤ 1 && !(s.pcc.target.any fun t => decide (2 ≤ t))

/-- Whether processor p may take an accepted order (R341); an order of an EMPTY slot may be taken, to fail (R141). -/
def mayTake (s : State) (p : Nat) (e : JEntry) : Bool :=
  rbit s (R.ORDER_QELIG e.queue) p && (!(queueSecure s e.queue) || rbit s R.PART_TUN_SECURE p) &&
  (match e.useFk with
   | some f => rbit s (R.PART_FK_TUN f) p && (fkState s f = 3 || fkState s f = 0)
   | none => true) &&
  !(p ∈ e.tried) &&
  !((queueOrders s e.queue).any fun x => x.2.gyle < e.gyle &&
      (stagingSlot s e.queue x.2.gyle).1 = (stagingSlot s e.queue e.gyle).1)

/-- The better of two candidates: higher PRIO, then lower ACCEPT_NS, then lower queue (R342). -/
def betterOrder (s : State) (a b : Nat × JEntry) : Bool :=
  let pa := rbits s (R.ORDER_QCFG a.2.queue) 11 8
  let pb := rbits s (R.ORDER_QCFG b.2.queue) 11 8
  pb < pa || (pa = pb && (a.2.acceptNs < b.2.acceptNs || (a.2.acceptNs = b.2.acceptNs && a.2.queue < b.2.queue)))

/-- The order that processor p's fetcher takes: of each queue the oldest accepted order it may take, then the best. -/
def orderFor (s : State) (p : Nat) : Option (Nat × JEntry) :=
  let cand := (List.range 32).filterMap fun n =>
    ((queueOrders s n).filter fun e => e.2.st = .accepted && mayTake s p e.2).foldl
      (fun (b : Option (Nat × JEntry)) e => match b with
        | none => some e
        | some x => if e.2.gyle < x.2.gyle then some e else some x) none
  cand.foldl (fun (b : Option (Nat × JEntry)) e => match b with
    | none => some e
    | some x => if betterOrder s e x then some e else some x) none

/-- Processor p claims an order (R342); one whose firkin slot is EMPTY completes FAILED (R141). -/
def orderClaim (s : State) (p : Nat) : State :=
  if fetcherFree s p then
    match orderFor s p with
    | none => s
    | some (j, e) =>
      if e.useFk.any (fun f => fkState s f = 0) then setJ s j { e with st := .staged, failed := true, cause := 5 }
      else
        let s := setJ s j { e with st := .running, proc := some p }
        modCore s p fun c => setCreg { c with order := some j, fetching := true } 1
          (word (b2n (queueSecure s e.queue) * 4 + (if e.useFk.isSome then 8 else 0)))
  else s

/-- Code base of a firkin slot: its KIND 3 entry of lowest index (R49, R142). -/
def fkCodeBase (s : State) (f : Nat) : Nat :=
  match (List.range 32).find? fun i => rgnUsed s i && rgnKind s i = 3 && rgnFk s i = f with
  | some i => rgnLo s i
  | none => 0

/-- The registers of an order's first bundle (R343, R344). -/
def attemptCore (s : State) (c : Core) (e : JEntry) : Core :=
  let entry := e.f 0 8
  let sec := queueSecure s e.queue
  let pc := match e.useFk with
    | some f => fkCodeBase s f + (mget s.copper.fk f ⟨[], 0, 0, 0⟩).entry
    | none => entry
  let edth := rget s (R.ORDER_QEDTH e.queue)
  let keep := c.creg.filter fun x => x.1 = 27 ∨ x.1 = 28 ∨ x.1 = 29 ∨ x.1 = 32 ∨ x.1 = 33 ∨ x.1 = 34
  let regs : List (Nat × Word) := [(1, word (b2n sec * 4 + (if e.useFk.isSome then 8 else 0))),
    (24, rget s (R.ORDER_QEDTT e.queue)), (25, if sec then 0 else edth), (26, if sec then edth else 0),
    (40, word e.gyle), (41, word e.queue)]
  { c with
    pc := pc, fetching := false, odone := false, p := 1, fastG := [], fastP := 0, xa := [], inflight := [], bundle := [], stall := none,
    delay := none, event := none, odoneHeld := none, settle := [], edt := [], nonlocalSeen := false, lastFk := e.useFk,
    g := [(1, word entry), (2, word (e.f 0x30 8)), (3, word (stagingSlot s e.queue e.gyle).1), (4, 0x3FFC0), (64, 0x3FFC0)],
    creg := regs.foldl (fun m x => mset m x.1 x.2) keep }

/-- An attempt starts on the tun of processor p, which has claimed its order: scrub, descriptor copy, input copy, first
state (R343, R344); a refused input copy ends it FAILED INPUT_DENIED (R350). -/
def attemptStart (s : State) (p : Nat) : State :=
  let c := coreOf s p
  match c.order.bind (jentry s), c.order with
  | some e, some j =>
    if !c.fetching then s
    else
      let s := if c.lastWorld ≠ oqWorld s e.queue ∨ c.lastFk ≠ e.useFk then tunScrub s p else s
      let base := 0x20000000 + (p - 2) * 0x100000
      let (s, got) := memRead s (orderReq s e.queue) e.desc 64 .read
      let e := match got with | .inr l => { e with d := l } | .inl _ => e
      let s := setJ s j e
      let d := e.d.take 0x38 ++ [BitVec.ofNat 8 e.attempts] ++ e.d.drop 0x39
      let own : Req := ⟨.tun (Fin.ofNat 12 (p - 2)), BitVec.ofNat 8 p, oqWorld s e.queue, .t, e.useFk⟩
      let (s, _) := memWrite s own (base + 0x3FFC0) d
      let (s, input) := memRead s { own with firkin := none } (e.f 8 8) (e.f 0x10 4) .read
      match input with
      | .inl _ => tunEvent s p 10 false 0 .stays
      | .inr l =>
        let (s, _) := memWrite s own (base + e.f 0x14 4) l
        modCore s p fun c => attemptCore s c e
  | _, _ => s

/-- The attempt on processor p has ended: ODONE has drained and every transfer it posted has completed (R345). -/
def attemptEnd (s : State) (p : Nat) : State :=
  let c := coreOf s p
  match c.order.bind (jentry s), c.order with
  | some e, some j =>
    if e.st = .running ∧ c.fetching ∧ e.proc = some p ∧ c.odone ∧ (List.range 32).all (fun ch => !(spOutstanding s ch (p - 2))) then
      let e := { e with st := .staged, attempts := e.attempts + 1, tried := e.tried ++ [p], proc := none }
      let s := setJ s j (if e.stagingOnly then { e with failed := true, cause := 9 } else e)
      tunFree s p
    else s
  | _, _ => s

/-! Commands of ORDER -/

/-- QUEUE_ENABLE (R334, R335). -/
def execQueueEnable (q : RegAcc) (n : Fin 32) (s : State) : Out :=
  .next (onWrite s q (R.ORDER_QCFG n) fun r w => queueCfgWrite s r n w)

/-- QUEUE_DISABLE (R334). -/
def execQueueDisable (q : RegAcc) (n : Fin 32) (s : State) : Out :=
  .next (onWrite s q (R.ORDER_QCFG n) fun r w => queueCfgWrite s r n w)

/-- GYLE_WRITE (R339). -/
def execGyleWrite (q : RegAcc) (n : Fin 32) (s : State) : Out :=
  .next (onWrite s q (R.ORDER_QGYLE n) fun r w => queueGyleWrite s r n w)

/-- ORDER_DOORBELL (R337). -/
def execOrderDoorbell (q : RegAcc) (n : Fin 32) (s : State) : Out :=
  .next (onWrite s q (R.ORDER_QDOOR n) fun r w => queueDoor s r n (w.bits 8 0))

/-- ORDER_ACCEPT (R337, R338). -/
def execOrderAccept (n : Fin 32) (s : State) : Out := .next (orderAccept s n)

/-- ORDER_CLAIM (R341, R342). -/
def execOrderClaim (t : Fin 12) (s : State) : Out := .next (orderClaim s (t.val + 2))

/-- ATTEMPT_START (R343, R344). -/
def execAttemptStart (t : Fin 12) (s : State) : Out := .next (attemptStart s (t.val + 2))

/-- ATTEMPT_END (R345). -/
def execAttemptEnd (t : Fin 12) (s : State) : Out := .next (attemptEnd s (t.val + 2))

/-- ATTEMPT_WATCHDOG_EXPIRY (R350). -/
def execAttemptWatchdogExpiry (t : Fin 12) (s : State) : Out :=
  let p := t.val + 2
  match (coreOf s p).order.bind (jentry s) with
  | some e => if rbits s (R.ORDER_BUDGET (e.f 0x25 1 % 4)) 15 0 ≠ 0 then .next (tunEvent s p 3 true 0 .partReset) else .next s
  | none => .next s

/-- ORDER_RUN (R354). -/
def execOrderRun (q : RegAcc) (s : State) : Out :=
  .next (onWrite s q R.ORDER_CTRL fun r w => genericWrite s r R.ORDER_CTRL w)

/-! STEEP -/

abbrev Ph.spare : Nat := 0
abbrev Ph.waiting : Nat := 1
abbrev Ph.lbist : Nat := 2
abbrev Ph.mbist : Nat := 3

def steepSpare (s : State) : Nat := rbits s R.STEEP_STATUS 3 0
def steepPhase (s : State) : Nat := rbits s R.STEEP_STATUS 10 8
def setSpare (s : State) (p : Nat) : State := rput s R.STEEP_STATUS 3 0 p
def setPhase (s : State) (x : Nat) : State := rput s R.STEEP_STATUS 10 8 x
def steepPaused (s : State) : Bool := rbit s R.SYSCON_PROMISE 1

/-- The next tun of the rotation after processor p: increasing, wrapping, skipping retired tuns and the spare (R357). -/
def rotationNext (s : State) (p : Nat) : Nat :=
  let l := (aliveTuns s).filter fun x => x ≠ steepSpare s
  ((l.find? fun x => p < x).orElse fun _ => l.head?).getD (steepSpare s)

/-- The first spare (R357): the tun that the retired-tun record names most recently, else the highest number. -/
def firstSpare (s : State) : Nat :=
  let l := aliveTuns s
  match s.keeve.lastRetired with
  | some t => if t + 2 ∈ l then t + 2 else l.getLast?.getD 0
  | none => l.getLast?.getD 0

/-- The rotation begins at SYSCON_TUN_RELEASE.GO: the first spare leaves the pool and is tested. -/
def steepBegin (s : State) : State :=
  let f := firstSpare s
  let s := (aliveTuns s).foldl (fun s x => setPool s x (x ≠ f)) s
  if f = 0 then s
  else
    let s := modCore s f fun _ => freshTun 0 true
    setPhase (rput (setSpare s f) R.STEEP_STATUS 7 4 (rotationNext (setSpare s f) f)) Ph.lbist

/-- A swap begins: a directed test first, then a tun that must steep, then the rotation's next (R358, R362, R364). -/
def steepSwap (s : State) : State :=
  if s.steep.swapping ∨ steepPhase s ≠ Ph.spare ∨ !(rbit s R.SYSCON_TUN_RELEASE 0) then s
  else
    let must := s.steep.must.filter fun p => p ∈ aliveTuns s
    let pick : Option Nat := match s.steep.direct, must with
      | some p, _ => some p
      | none, p :: _ => some p
      | none, [] => if steepPaused s then none else some (rbits s R.STEEP_STATUS 7 4)
    match pick with
    | none => s
    | some n =>
      if n = 0 then s
      else
        let direct := s.steep.direct = some n
        let s := if direct then rputb s R.STEEP_STATUS 13 false else s
        let s := { s with steep := { must := must.filter fun p => p ≠ n, direct := if direct then none else s.steep.direct,
                                     swapping := true, out := n } }
        let s := setPool s n false
        let s := if rbits s R.STEEP_STATUS 7 4 = n then rput s R.STEEP_STATUS 7 4 (rotationNext s n) else s
        setPhase s Ph.waiting

/-- The attempt of the tun being swapped has ended: the tested spare returns and the self-test starts (R358). -/
def steepTestStart (s : State) : State :=
  let n := s.steep.out
  if s.steep.swapping ∧ steepPhase s = Ph.waiting ∧ (coreOf s n).order.isNone then
    let sp := steepSpare s
    let s := if sp ≠ 0 ∧ sp ≠ n ∧ ¬ tunRetired s sp then setPool s sp true else s
    let s := clearLocal (spPosterGone s (n - 2)) (n - 2)
    let s := setCore s n (freshTun 0 true)
    setPhase (setSpare s n) Ph.lbist
  else s

/-- A tun that failed its self-test is retired until cold reset, and its bit leaves every queue's and firkin slot's mask
(R360, R361). -/
def steepRetire (s : State) (n sig : Nat) : State :=
  let s := (List.range 32).foldl (fun s k => rputb s (R.ORDER_QELIG k) n false) s
  let s := (List.range 16).foldl (fun s k => rputb s (R.PART_FK_TUN k) n false) s
  let s := rputb (setPool s n false) R.STEEP_RETIRED n true
  let s := logUnit (edge s 53) true Code.TUN_RETIRED (word n) (word sig)
  keeveAsk (setSpare s 0) (.retire (n - 2) sig (rget s R.AON_RTC >>> 15)) true

/-- A stage of the self-test ends: LBIST passes to MBIST; a failure retires the tun; the last pass makes it the spare,
or returns it to the pool while the rotation is paused (R358, R360, R362). -/
def steepTestDone (s : State) (pass : Bool) : State :=
  let ph := steepPhase s
  let n := steepSpare s
  if ph ≠ Ph.lbist ∧ ph ≠ Ph.mbist then s
  else if pass ∧ ph = Ph.lbist then setPhase s Ph.mbist
  else
    let s := rwrap s R.STEEP_COUNT 1
    let s := { setPhase s Ph.spare with steep := { s.steep with swapping := false } }
    if pass then
      let s := rput s R.STEEP_STATUS 12 11 1
      if rbit s R.STEEP_CTRL 1 then rputb (setSpare (setPool s n true) 0) R.SYSCON_PROMISE 1 true else s
    else
      let sig := if ph = Ph.lbist then 1 else 2
      let s := rcount (rput s R.STEEP_STATUS 12 11 (1 + sig)) R.STEEP_FAILS 1
      let s := steepRetire s n sig
      if rbit s R.STEEP_CTRL 1 then rputb s R.SYSCON_PROMISE 1 true else s

/-- A write of STEEP_CTRL (R362): a pause takes effect at once where no test is in progress. -/
def steepCtrlWrite (s : State) (r : Req) (w : Wr) : State :=
  let t := genericWrite s r R.STEEP_CTRL w
  if rbit t R.STEEP_CTRL 1 then
    if steepPhase t = Ph.spare ∧ ¬ steepPaused t then
      let sp := steepSpare t
      rputb (if sp = 0 then t else setSpare (setPool t sp true) 0) R.SYSCON_PROMISE 1 true
    else t
  else rputb t R.SYSCON_PROMISE 1 false

/-- A write of STEEP_DIRECT (R364). -/
def steepDirect (s : State) (w : Wr) : State :=
  let p := w.bits 3 0
  if w.one 8 ∧ s.steep.direct.isNone ∧ p ∈ aliveTuns s then
    rputb { s with steep := { s.steep with direct := some p } } R.STEEP_STATUS 13 true
  else s

def steepWrite (s : State) (r : Req) (a : Nat) (w : Wr) : State :=
  if a = R.STEEP_CTRL then steepCtrlWrite s r w
  else if a = R.STEEP_PERIOD then
    (if 10 ≤ w.bits 15 0 ∧ w.bits 15 0 ≤ 60000 then genericWrite s r a w else s)
  else if a = R.STEEP_DIRECT then steepDirect s w
  else genericWrite s r a w

/-- STEEP_SWAP (R358). -/
def execSteepSwap (s : State) : Out := .next (steepSwap s)

/-- STEEP_SELFTEST_START (R358). -/
def execSteepSelftestStart (s : State) : Out := .next (steepTestStart s)

/-- STEEP_TEST_DONE (R358, R360): the stage that runs ends, with a pass or a failure. -/
def execSteepTestDone (pass : Bool) (s : State) : Out := .next (steepTestDone s pass)

/-- STEEP_PAUSE (R362). -/
def execSteepPause (q : RegAcc) (s : State) : Out :=
  .next (onWrite s q R.STEEP_CTRL fun r w => steepCtrlWrite s r w)

/-- STEEP_UNPAUSE (R362). -/
def execSteepUnpause (q : RegAcc) (s : State) : Out :=
  .next (onWrite s q R.STEEP_CTRL fun r w => steepCtrlWrite s r w)

/-- STEEP_DIRECT (R364). -/
def execSteepDirect (q : RegAcc) (s : State) : Out :=
  .next (onWrite s q R.STEEP_DIRECT fun _ w => steepDirect s w)

end Sys2Proof.Machine
end

