-- ==== Sys2Proof/Machine/Keeve.lean ====
section
/-! DEFINITION. KEEVE (R94 to R99, R127) and TRNG (R100 to R104). -/
namespace Sys2Proof.Machine

/-! TRNG and DRBG -/

/-- DRBG output is released (R101, R102). -/
def drbgReady (s : State) : Bool := rbit s R.TRNG_STATUS 0

/-- A reseed of the DRBG: its output depends on fresh entropy, so it stays a free value (R103). -/
def drbgReseed (s : State) : State :=
  { s with trng := { s.trng with requests := 0, reseeds := s.trng.reseeds + 1 } }

/-- One generate request: at most 64 bytes (R103); a reseed comes after 4,096 requests. -/
def drbgGen (s : State) (n : Nat) : List Byte × State :=
  let s := if 4096 ≤ s.trng.requests then drbgReseed s else s
  freeBytes { s with trng := { s.trng with requests := s.trng.requests + 1 } } n

/-- A read of TRNG_OUT (R693): eight fresh bytes, zero while READY is 0. -/
def trngOut (s : State) (r : Req) : State × Word :=
  if drbgReady s ∧ r.who ≠ .debug then
    let (l, s) := drbgGen s 8
    (s, word (leNat l))
  else (s, 0)

def trngRead (s : State) (r : Req) (a : Nat) (m : Word) : State × Word :=
  if a = R.TRNG_OUT then trngOut s r else genericRead s r a m

/-- TRNG_HEALTH_FAIL (R100, R102); its source is 7 (R313). -/
def execTrngHealthFail (s : State) : Out :=
  if rbit s R.TRNG_STATUS 3 then .next s
  else
    let row := s.trng.row + 1
    let s := rcount { s with trng := { s.trng with row := row } } R.TRNG_FAILS 1
    let s := rputb (rputb (rputb s R.TRNG_STATUS 2 true) R.TRNG_STATUS 0 false) R.TRNG_STATUS 1 true
    let s := logUnit (edge s 7) true Code.TRNG_HEALTH 0 0
    .next (if 3 ≤ row then
      logUnit (rputb (rputb s R.TRNG_STATUS 1 false) R.TRNG_STATUS 3 true) true Code.TRNG_DEAD 0 0 else s)

/-- TRNG_STARTUP_DONE (R101, R102): the start-up test passes and output is released. -/
def execTrngStartupDone (s : State) : Out :=
  if rbit s R.TRNG_STATUS 3 ∨ rbit s R.TRNG_STATUS 0 then .next s
  else .next (rputb (rputb { drbgReseed s with trng := { (drbgReseed s).trng with row := 0 } } R.TRNG_STATUS 1 false)
    R.TRNG_STATUS 0 true)

/-- DRBG_RESEED (R103). -/
def execDrbgReseed (s : State) : Out := .next (drbgReseed s)

/-- TRNG_OUT_READ (R693). -/
def execTrngOutRead (q : RegAcc) (s : State) : Out :=
  .next (onRead s q R.TRNG_OUT fun r => trngOut s r)

/-! Keeve -/

abbrev KR.OK : Nat := 0
abbrev KR.BUSY : Nat := 1
abbrev KR.NOT_ERASED : Nat := 2
abbrev KR.DENIED : Nat := 3
abbrev KR.LAST_ROOT : Nat := 4
abbrev KR.VERSION_HOLD : Nat := 5

def keeveResult (s : State) (n : Nat) : State := rput s R.KEEVE_STATUS 7 0 n

/-- The boot policy that holds: slot B's offset and BOOT_TIMEOUT in milliseconds, by default 0x100_0000 and 2 s (R65, R85,
R127). -/
def bootPolicy (s : State) : Nat × Nat :=
  match (if 0 ∈ s.keeve.lost then none else s.keeve.policy) with
  | some (b, t) => (b.toNat, t)
  | none => (0x1000000, 2000)

/-- Unrevoked maker root slots that hold a hash. -/
def liveRoots (s : State) : List Nat :=
  (List.range 4).filter fun r => match keeveRoot s r with | some e => !e.revoked | none => false

/-- What a write to Keeve leaves, once it has been carried out. -/
def keeveApply (s : State) (q : KeeveReq) : State :=
  let k := s.keeve
  match q with
  | .program off data =>
    { s with keeve := { k with data := (data.zipIdx).foldl (fun m (v, i) => mset m (off + i) v) k.data } }
  | .erase sec => { s with keeve := { k with data := k.data.filter fun e => e.1 / 4096 ≠ sec } }
  | .policy b t => { s with keeve := { k with policy := some (b, t), lost := k.lost.filter (· ≠ 0) } }
  | .counter i v => { s with keeve := { k with counters := mset k.counters i v, lost := k.lost.filter (· ≠ 0x100 + i) } }
  | .revoke r =>
    let s := if s.io.hcp.root = r then hcpClose s else s
    { s with keeve := { k with roots := mset k.roots r { (keeveRoot s r).getD ⟨[], false⟩ with revoked := true } } }
  | .root r h => { s with keeve := { k with roots := mset k.roots r ⟨h, false⟩, lost := k.lost.filter (· ≠ 0x200 + r) } }
  | .retire t sig rtc =>
    let e := mget k.retired t ⟨0, 0, 0⟩
    { s with keeve := { k with retired := mset k.retired t ⟨e.count + 1, rtc, sig⟩, lastRetired := some t } }
  | .licence i rec => { s with keeve := { k with licences := mset k.licences i rec, lost := k.lost.filter (· ≠ 0x800 + i) } }
  | .unlicence i => { s with keeve := { k with licences := mdel k.licences i, lost := k.lost.filter (· ≠ 0x800 + i) } }
  | .vendor salt cert => { s with keeve := { k with salt := some salt, cert := cert } }

/-- The operation in progress ends, which pends source 6 (R313); the next queued request starts (R99). -/
def keeveDone (s : State) : State :=
  match s.keeve.running with
  | none => s
  | some q =>
    let s := edge (keeveResult (keeveApply s q) KR.OK) 6
    match s.keeve.queue with
    | [] => rputb { s with keeve := { s.keeve with running := none } } R.KEEVE_STATUS 8 false
    | n :: rest => { s with keeve := { s.keeve with running := some n, queue := rest } }

/-- A command taken: it runs until KEEVE_OP_DONE. -/
def keeveStart (s : State) (q : KeeveReq) : State :=
  rputb { s with keeve := { s.keeve with running := some q } } R.KEEVE_STATUS 8 true

/-- The first `n` bytes of KEEVE_BUF. -/
def keeveBuf (s : State) (n : Nat) : List Byte :=
  ((List.range 32).map fun i => leBytes 8 (rget s (R.KEEVE_BUF i)).toNat).flatten.take n

/-- Whether a counter may be raised to v by this requester (R73). -/
def counterOk (s : State) (r : Req) (i v : Nat) : Bool :=
  rbits s R.PART_PHASE 1 0 = 1 && bootCode s r && rbit s R.AON_BOOT_STATUS 11 && decide (keeveCounter s i < v) &&
  (if i = 0 then decide (v ≤ s.boot.ver1)
   else match s.boot.manifest with
     | some (c, ver) => c = i && decide (v ≤ ver)
     | none => false)

/-- A refusal that is logged. -/
def keeveDeny (s : State) (r : Req) (code arg : Nat) (res : Nat) : State :=
  keeveResult (logReq s 1 code r (word arg) 0) res

/-- A write of KEEVE_CMD (R94 to R99). -/
def keeveCmd (s : State) (r : Req) (w : Wr) : State :=
  let off := rbits s R.KEEVE_ADDR 17 3 * 8
  let len := rbits s R.KEEVE_LEN 8 0
  let ix := w.bits 15 8
  if s.keeve.running.isSome then keeveResult s KR.BUSY
  else match w.bits 3 0 with
  | 1 =>
    if off < 0xC000 ∨ 0x40000 < off + len ∨ len < 8 ∨ 256 < len ∨ len % 8 ≠ 0 then keeveResult s KR.DENIED
    else if (List.range len).any (fun i => mget s.keeve.data (off + i) 0xFF ≠ 0xFF) then keeveResult s KR.NOT_ERASED
    else keeveStart s (.program off (keeveBuf s len))
  | 2 => if off < 0xC000 then keeveResult s KR.DENIED else keeveStart s (.erase (off / 4096))
  | 3 =>
    if off / 4096 = 0 then
      if rbits s R.PART_PHASE 1 0 = 1 ∧ bootCode s r then
        let b := keeveBuf s 12
        keeveStart s (.policy (word (fieldAt b 0 8)) (fieldAt b 8 4))
      else keeveResult s KR.DENIED
    else if off / 4096 = 1 then
      if ix < 16 ∧ counterOk s r ix (fieldAt (keeveBuf s 4) 0 4) then
        keeveStart s (.counter ix (fieldAt (keeveBuf s 4) 0 4))
      else keeveDeny s r Code.VERSION_HOLD ix KR.VERSION_HOLD
    else keeveResult s KR.DENIED
  | 4 =>
    if !(bootCode s r) || decide (4 ≤ ix) || ix = s.boot.root || 4 ≤ s.boot.root then keeveResult s KR.DENIED
    else if ((liveRoots s).filter (· ≠ ix)).isEmpty then keeveDeny s r Code.KEEVE_REFUSED ix KR.LAST_ROOT
    else keeveStart s (.revoke ix)
  | _ => s

def keeveWrite (s : State) (r : Req) (a : Nat) (w : Wr) : State :=
  if a = R.KEEVE_CMD then keeveCmd s r w
  else if a = R.KEEVE_LEN then
    (if 8 ≤ w.bits 8 0 ∧ w.bits 8 0 ≤ 256 ∧ w.bits 8 0 % 8 = 0 then genericWrite s r a w else s)
  else if R.KEEVE_BUF 0 ≤ a ∧ a < R.KEEVE_BUF 32 then
    rset s (a / 8 * 8) ((rget s (a / 8 * 8) &&& ~~~ w.m) ||| (w.v &&& w.m))
  else genericWrite s r a w

/-- The record of a system region that an offset of the Keeve window lies in, as `Keeve.lost` names it. -/
def keeveRecord (off : Nat) : Option Nat :=
  if off < 0x1000 then some 0
  else if 0x1000 ≤ off ∧ off < 0x1040 then some (0x100 + (off - 0x1000) / 4)
  else if 0x2000 ≤ off ∧ off < 0x2100 then some (0x200 + (off - 0x2000) / 64)
  else if 0x8000 ≤ off ∧ off < 0xC000 then some (0x800 + (off - 0x8000) / 256)
  else none

/-- What a read of the Keeve window finds in its ECC (R127): one copy corrected or repaired; both copies of a system record
lost; an uncorrectable error in the data area, which is a bus error. -/
def keeveEcc (s : State) (r : Req) (off : Nat) (ecc : Ecc) : State × Option BusErr :=
  let a := word (0x30000000 + off)
  match ecc with
  | .good => (s, none)
  | .corrected =>
    let s := rcount s R.KEEVE_ECC_COUNT 1
    (if off < 0xC000 then logReq s 1 Code.KEEVE_ECC_FIXED r a 0 else s, none)
  | .uncorrected =>
    if 0xC000 ≤ off then (logReq s 1 Code.KEEVE_ECC_DATA r a 13, some .eccUncorrected)
    else
      let s := logReq s 1 Code.KEEVE_ECC_FATAL r a 0
      match keeveRecord off with
      | some k => ({ s with keeve := { s.keeve with lost := if k ∈ s.keeve.lost then s.keeve.lost else k :: s.keeve.lost } },
          none)
      | none => (s, none)

/-- KEEVE_PROGRAM (R99). -/
def execKeeveProgram (q : RegAcc) (s : State) : Out :=
  .next (onWrite s q R.KEEVE_CMD fun r w => keeveCmd s r w)

/-- KEEVE_ERASE (R98). -/
def execKeeveErase (q : RegAcc) (s : State) : Out :=
  .next (onWrite s q R.KEEVE_CMD fun r w => keeveCmd s r w)

/-- KEEVE_RECORD_WRITE (R73, R96). -/
def execKeeveRecordWrite (q : RegAcc) (s : State) : Out :=
  .next (onWrite s q R.KEEVE_CMD fun r w => keeveCmd s r w)

/-- KEEVE_REVOKE (R97). -/
def execKeeveRevoke (q : RegAcc) (s : State) : Out :=
  .next (onWrite s q R.KEEVE_CMD fun r w => keeveCmd s r w)

/-- KEEVE_OP_DONE (R98, R99). -/
def execKeeveOpDone (s : State) : Out := .next (keeveDone s)

end Sys2Proof.Machine
end

