-- ==== Sys2Proof/Machine/Copper.lean ====
section
/-! DEFINITION. COPPER's device keys, key slots and contexts (R90 to R93, R105 to R119, R125, R126). The operations stand
in CopperOps.lean. -/
namespace Sys2Proof.Machine

/-- Result codes of CX_RESULT and COPPER_KS_RESULT (R110 and the table of CX blocks). -/
abbrev CR.OK : Nat := 0
abbrev CR.SLOT_FULL : Nat := 1
abbrev CR.KEY_EMPTY : Nat := 3
abbrev CR.KEY_CLEARED : Nat := 4
abbrev CR.LENGTH : Nat := 5
abbrev CR.TAG_FAIL : Nat := 6
abbrev CR.SIG_FAIL : Nat := 7
abbrev CR.NO_ENTROPY : Nat := 8
abbrev CR.MSG_OPEN : Nat := 9
abbrev CR.PARK_DENIED : Nat := 10
abbrev CR.PARK_STALE : Nat := 11
abbrev CR.PARK_FULL : Nat := 12
abbrev CR.LIC_FORMAT : Nat := 13
abbrev CR.LIC_DEVICE : Nat := 14
abbrev CR.LIC_SIG : Nat := 15
abbrev CR.LIC_UNWRAP : Nat := 16
abbrev CR.LIC_DUPLICATE : Nat := 17
abbrev CR.LIC_FULL : Nat := 18
abbrev CR.LIC_REFUSED : Nat := 19
abbrev CR.BUS_ERROR : Nat := 20
abbrev CR.ALG_UNKNOWN : Nat := 21
abbrev CR.POLICY : Nat := 22
abbrev CR.NO_KEY : Nat := 23
abbrev CR.ABORTED : Nat := 24

/-! Device keys (R90 to R92) -/

def ascii (t : String) : List Byte := t.toList.map fun c => BitVec.ofNat 8 c.toNat

/-- SP 800-108 counter mode over HMAC-SHA-384 with the fixed input of "Key hierarchy". -/
def kdf384 (key label ctx : List Byte) (n : Nat) : List Byte :=
  kdfCtr hmac384 48 key (label ++ [0] ++ ctx ++ beBytes 4 (8 * n)) n

def deviceId (s : State) : List Byte := leBytes 8 s.otp.deviceId.toNat

def duk (s : State) : List Byte := kdf384 Config.dukSeed (ascii "DUK") (deviceId s) 48
def wakeKey (s : State) : List Byte := kdf384 (duk s) (ascii "WAKE") (deviceId s) 48
def storeKw (s : State) : List Byte := kdf384 (duk s) (ascii "STOREKW") (deviceId s) 32
def storeMac (s : State) : List Byte := kdf384 (duk s) (ascii "STOREMAC") (deviceId s) 48
def licKem (s : State) : List Byte := kdf384 (duk s) (ascii "LICKEM") (deviceId s) 64

/-- The order of the P-384 group. -/
def p384n : Nat :=
  0xFFFFFFFFFFFFFFFFFFFFFFFFFFFFFFFFFFFFFFFFFFFFFFFFC7634D81F4372DDF581A0DB248B0A77AECEC196ACCC52973

/-- The ATTEST private key: the first KDF block in [1, n − 1], sought among the first 256; none without a salt, or once
erased (R55, R92). -/
def attestKey (s : State) : Option (List Byte) :=
  match s.keeve.salt with
  | none => none
  | some salt =>
    if s.copper.attestErased then none
    else
      let all := kdf384 (duk s) (ascii "ATTEST") (deviceId s ++ salt) (48 * 256)
      (blocks 48 all).find? fun b => 1 ≤ beNat b && beNat b < p384n

/-! Key slots -/

def ksPolicy (s : State) (k : Nat) : Word := rget s (R.COPPER_KS_POLICY k)
def ksType (s : State) (k : Nat) : Nat := bits (ksPolicy s k) 27 24
def ksLen (p : Word) : Nat := 8 * (bits p 23 18 + 1)
def ksSecret (s : State) (k : Nat) : List Byte := mget s.copper.keys k []

/-- Whether a policy's TYPE can hold its LEN (R110; the pairs are log entry 21). -/
def ksLenOk (p : Word) : Bool :=
  let n := ksLen p
  match bits p 27 24 with
  | 1 => n = 16 || n = 32
  | 2 => n = 24
  | 3 => n = 32 || n = 64
  | 4 | 5 => n ≤ 64
  | 6 => n = 32
  | 7 => n = 48
  | 8 => n = 64
  | _ => false

/-- A slot filled: its secret, its policy with ORIGIN. -/
def ksFill (s : State) (k : Nat) (p : Word) (origin : Nat) (secret : List Byte) : State :=
  let s := { s with copper := { s.copper with keys := mset s.copper.keys k (sub secret 0 (ksLen p)) } }
  rset s (R.COPPER_KS_POLICY k) (setBits (setBits (p &&& 0x0FFFFFFF) 15 14 0 &&& ~~~ mask 11 8) 31 28 origin)

/-- Whether a world may load slot k with a policy (R106). -/
def ksMayLoad (s : State) (w : World) (k : Nat) (p : Word) : Bool :=
  w = .secure || (!(rbit s R.COPPER_KS_SECURE k) && bits p 13 12 = 2)

/-- A refusal by policy, logged in the requester's ring (R106, R107). -/
def policyLog (s : State) (r : Req) (k : Nat) : State :=
  logReq s (worldRing r.world) Code.COPPER_POLICY r (word k) 22

/-! Contexts -/

def cx (s : State) (n : Nat) : Cx := mget s.copper.cx n {}
def setCx (s : State) (n : Nat) (c : Cx) : State := { s with copper := { s.copper with cx := mset s.copper.cx n c } }
def cxFree (s : State) (n : Nat) : Bool := (cx s n).holder.isNone
def freeCx (s : State) : List Nat := (List.range 8).filter (cxFree s)

/-- CX_RESULT: STATE and the result code. -/
def setCxResult (s : State) (n st res : Nat) : State :=
  rset s (R.CX_RESULT n) (word (st * 256 + res))

/-- Registers of context n at their reset values. -/
def cxWipe (s : State) (n : Nat) : State :=
  [R.CX_STATUS n, R.CX_RESULT n, R.CX_OP n, R.CX_SRC n, R.CX_DST n, R.CX_LEN n, R.CX_AUX n, R.CX_DONE n, R.CX_PARK n].foldl
    (fun s a => { s with regs := mdel s.regs a }) s

/-- A context becomes free. -/
def cxRelease (s : State) (n : Nat) : State := cxWipe (setCx s n {}) n

/-- The message of context n ends with a result and pends its source (R111). -/
def cxEnd (s : State) (n res : Nat) : State :=
  match (cx s n).msg with
  | none => s
  | some _ => edge (setCxResult (setCx s n { cx s n with msg := none }) n 2 res) (8 + n)

/-- What a holder looks like to a requester's world (R115). -/
def holderSeen (r : Req) (h : Req) : Bool := r.world = .secure || h.world = .normal

/-- A read of COPPER_CLAIM (R115): HOLDER, WORLD and RESULT. -/
def cxClaim (s : State) (r : Req) : State × Word :=
  let free := freeCx s
  let least := rbits s R.COPPER_CX_RESERVE 3 0
  if free ≠ [] ∧ (r.world = .secure ∨ least < free.length) ∧ r.who ≠ .debug then
    let n := free.headD 0
    let c := { s.copper with claims := s.copper.claims + 1 }
    (setCx { s with copper := c } n { holder := some r, since := s.copper.claims }, word (0xFF000000 + n))
  else
    let held := (List.range 8).filterMap fun n => match (cx s n).holder with
      | some h => if holderSeen r h then some ((cx s n).since, h) else none
      | none => none
    let best := held.foldl (fun (b : Option (Nat × Req)) e => match b with
      | none => some e
      | some x => if e.1 < x.1 then some e else some x) none
    match best with
    | some (_, h) => (s, word (h.id.toNat <<< 24 + b2n (h.world = .secure) <<< 23 + 0xF))
    | none => (s, word (0xFF <<< 24 + 1 <<< 23 + 0xF))

/-- COPPER_HOLDERn as a world reads it (R115). -/
def cxHolder (s : State) (r : Req) (n : Nat) : Word :=
  match (cx s n).holder with
  | some h => if holderSeen r h then word (b2n (h.world = .secure) <<< 8 + h.id.toNat) else 0xFF
  | none => 0xFF

/-! Commands of COPPER_KS_CMD (R105 to R110) -/

/-- A CLEAR of slot k: secret and policy zero; messages that use it end KEY_CLEARED (R108, R125). -/
def ksClear (s : State) (k : Nat) : State :=
  let s := { s with copper := { s.copper with keys := mdel s.copper.keys k } }
  let s := rset s (R.COPPER_KS_POLICY k) 0
  (List.range 8).foldl (fun s n => match (cx s n).msg with
    | some m => if m.key = some k then cxEnd s n CR.KEY_CLEARED else s
    | none => s) s

def ksResult (s : State) (n : Nat) : State := rset s R.COPPER_KS_RESULT (word n)

/-- A write of COPPER_KS_CMD. -/
def ksCmd (s : State) (r : Req) (w : Wr) : State :=
  let p : Word := word (w.bits 63 32)
  let k := w.bits 20 16
  let op := w.bits 3 0
  if op = 3 then ksResult (ksClear s k) CR.OK
  else if op = 4 then
    if ksType s k = 0 then ksResult s CR.KEY_EMPTY
    else
      let old := ksPolicy s k
      ksResult (rset s (R.COPPER_KS_POLICY k) (setBits (old &&& p) 27 24 (bits old 27 24))) CR.OK
  else if op = 0 ∨ 4 < op ∨ bits p 27 24 = 0 ∨ 8 < bits p 27 24 ∨ !(ksLenOk p) then ksResult s CR.ALG_UNKNOWN
  else if !(ksMayLoad s r.world k p) then ksResult (policyLog s r k) CR.POLICY
  else if ksType s k ≠ 0 then ksResult s CR.SLOT_FULL
  else if op = 1 then
    let data := ((List.range 8).map fun i => leBytes 8 (rget s (R.COPPER_KS_DATA i)).toNat).flatten
    ksResult (ksFill s k p 0 data) CR.OK
  else if !(drbgReady s) then ksResult s CR.NO_ENTROPY
  else
    let (l, s) := drbgGen s (ksLen p)
    ksResult (ksFill s k p 1 l) CR.OK

/-! Part reset and abort (R111, R126) -/

/-- Every context of a reset requester is freed; a message bound to it ends ABORTED. -/
def cxHolderGone (s : State) (id : Byte) : State :=
  (List.range 8).foldl (fun s n => match (cx s n).holder with
    | some h => if h.id = id then cxRelease (cxEnd s n CR.ABORTED) n else s
    | none => s) s

/-! Park and resume (R117 to R119) -/

/-- The state of a parked message, as the 256-byte blob carries it before sealing (its layout is log entry 22). -/
def cxState (s : State) (n : Nat) : List Byte :=
  sub (leBytes 4 (rget s (R.CX_OP n)).toNat ++ leBytes 4 (b2n (cx s n).msg.isSome) ++ leBytes 8 (rget s (R.CX_SRC n)).toNat ++
    leBytes 8 (rget s (R.CX_DST n)).toNat ++ leBytes 8 (rget s (R.CX_LEN n)).toNat ++ leBytes 8 (rget s (R.CX_AUX n)).toNat ++
    leBytes 8 (rget s (R.CX_DONE n)).toNat) 0 228

/-- Whether an operation uses the slot that CX_OP.KEY names. -/
def algKeyed (alg : Nat) : Bool :=
  (1 ≤ alg ∧ alg ≤ 7) || alg ∈ [0x18, 0x19, 0x20, 0x22, 0x24, 0x25, 0x3A, 0x48]

/-- The message that a CX_OP word describes. -/
def cxMsgOf (op : Word) : CxMsg := ⟨bits op 7 0, if algKeyed (bits op 7 0) then some (bits op 20 16) else none⟩

/-- World, serial and slot number, the associated data of a blob. -/
def parkAad (w : World) (serial n : Nat) : List Byte := leBytes 1 (b2n (w = .secure)) ++ leBytes 4 serial ++ leBytes 1 n

/-- Whether a world may park at an address (R118): any of the 256 bytes. -/
def parkAllowed (s : State) (w : World) (a : Nat) : Bool :=
  [a, a + 255].all fun a => match rgnFor s a with
    | none => w = .secure
    | some i => bit (rgnAttr s i) 1 == decide (w = .secure)

/-- PARK of context n (R117 to R119). -/
def cxPark (s : State) (n : Nat) (h : Req) : State :=
  match (cx s n).msg with
  | none => s
  | some _ =>
    let a := rbits s (R.CX_PARK n) 39 0
    if !(parkAllowed s h.world a) then setCxResult s n 1 CR.PARK_DENIED
    else if 64 ≤ s.copper.serials.length then setCxResult s n 1 CR.PARK_FULL
    else
      let serial := s.copper.nextSerial
      let (iv, s) := freeBytes s 12
      let pt := cxState s n
      let ct := gcmCrypt s.copper.parkKey iv pt
      let tag := gcmTag s.copper.parkKey iv (parkAad h.world serial (rbits s (R.CX_OP n) 20 16)) ct
      match memWrite s h a (iv ++ ct ++ tag) with
      | (s, some _) => cxEnd s n CR.BUS_ERROR
      | (s, none) =>
        let s := { s with copper := { s.copper with serials := s.copper.serials ++ [serial],
                                                    nextSerial := (serial + 1) % 2 ^ 32 } }
        rset (cxRelease s n) (R.CX_STATUS n) (word serial)

/-- RESUME into context n, newly claimed (R117, R119). -/
def cxResume (s : State) (n : Nat) (h : Req) : State :=
  let a := rbits s (R.CX_PARK n) 39 0
  let serial := rbits s (R.CX_PARK n) 63 32
  let key := rbits s (R.CX_OP n) 20 16
  if (cx s n).msg.isSome then setCxResult s n 1 CR.MSG_OPEN
  else if serial ∉ s.copper.serials then setCxResult s n 2 CR.PARK_STALE
  else
    let s := { s with copper := { s.copper with serials := s.copper.serials.filter (· ≠ serial) } }
    match memRead s h a 256 .read with
    | (s, .inl _) => setCxResult s n 2 CR.BUS_ERROR
    | (s, .inr l) =>
      let iv := l.take 12
      let ct := sub l 12 228
      if gcmTag s.copper.parkKey iv (parkAad h.world serial key) ct ≠ sub l 240 16 then setCxResult s n 2 CR.PARK_STALE
      else
        let pt := gcmCrypt s.copper.parkKey iv ct
        let s := rset s (R.CX_OP n) (word (fieldAt pt 0 4))
        let s := rset s (R.CX_SRC n) (word (fieldAt pt 8 8))
        let s := rset s (R.CX_DST n) (word (fieldAt pt 16 8))
        let s := rset s (R.CX_LEN n) (word (fieldAt pt 24 8))
        let s := rset s (R.CX_AUX n) (word (fieldAt pt 32 8))
        let s := rset s (R.CX_DONE n) (word (fieldAt pt 40 8))
        setCxResult (setCx s n { cx s n with msg := some (cxMsgOf (word (fieldAt pt 0 4))) }) n 1 0

/-! Commands -/

/-- CONTEXT_CLAIM (R115). -/
def execContextClaim (q : RegAcc) (s : State) : Out :=
  .next (onRead s q R.COPPER_CLAIM fun r => cxClaim s r)

/-- KS_IMPORT (R105, R106, R110). -/
def execKsImport (q : RegAcc) (s : State) : Out :=
  .next (onWrite s q R.COPPER_KS_CMD fun r w => ksCmd s r w)

/-- KS_GENERATE (R104 to R106, R110). -/
def execKsGenerate (q : RegAcc) (s : State) : Out :=
  .next (onWrite s q R.COPPER_KS_CMD fun r w => ksCmd s r w)

/-- KS_CLEAR (R108, R125). -/
def execKsClear (q : RegAcc) (s : State) : Out :=
  .next (onWrite s q R.COPPER_KS_CMD fun r w => ksCmd s r w)

/-- KS_NARROW (R108, R125). -/
def execKsNarrow (q : RegAcc) (s : State) : Out :=
  .next (onWrite s q R.COPPER_KS_CMD fun r w => ksCmd s r w)

end Sys2Proof.Machine
end

