-- ==== Sys2Proof/Machine/CopperOps.lean ====
section
/-! DEFINITION. COPPER's operations (R104, R107, R109, R111, R121 to R124, R145). What stands at CX_AUX for each operation,
and where a tag stands, is log entry 20. -/
namespace Sys2Proof.Machine

/-! What an operation needs (R104, R107, R121) -/

/-- The secret of an AES slot in bytes, by TYPE. -/
def aesSize (t : Nat) : Nat := match t with | 1 => 16 | 2 => 24 | _ => 32

/-- Whether slot k may serve a context's operation: its TYPE, its usage bit, its worlds, SEAL and FIRKIN (R106, R107).
Answers the result code. -/
def keyCheck (s : State) (h : Req) (alg k : Nat) (dir : Bool) : Nat :=
  let p := ksPolicy s k
  let t := bits p 27 24
  let n := ksLen p
  let use (a b : Nat) : Bool := bit p (if dir then b else a)
  let ok : Bool := match alg with
    | 1 | 2 | 3 => 1 ≤ t && t ≤ 3 && n = aesSize t && use 0 1
    | 4 => (t = 1 || t = 3) && n = 2 * aesSize t && use 0 1
    | 5 => 1 ≤ t && t ≤ 3 && n = aesSize t && use 2 3
    | 6 | 7 | 0x48 => 1 ≤ t && t ≤ 3 && n = aesSize t && use 5 6
    | 0x18 => t = 4 && use 2 3
    | 0x19 => (t = 5 || (t = 3 && n = 32)) && bit p 4
    | 0x20 => t = 6 && bit p 2
    | 0x22 => t = 7 && bit p 2
    | 0x24 => t = 6 && bit p 4
    | 0x25 => t = 7 && bit p 4
    | 0x3A => t = 8 && bit p 4
    | _ => true
  if t = 0 then CR.KEY_EMPTY
  else if !ok || bit p 16 || (bit p 17 && h.firkin.isNone) || !(bit p (if h.world = .secure then 12 else 13)) then CR.POLICY
  else CR.OK

/-- Whether the length, and a tag length in PARAM, are within the operation's limits (R121). -/
def lengthOk (alg param len : Nat) (dir : Bool) : Bool :=
  match alg with
  | 1 => len % 16 = 0
  | 3 => len ≤ 2 ^ 36 - 32 && (param = 8 || param = 12 || param = 16)
  | 4 => 16 ≤ len && len ≤ 2 ^ 24
  | 5 => 8 ≤ param && param ≤ 16
  | 6 => if dir then len % 8 = 0 && 24 ≤ len && len ≤ 72 else len % 8 = 0 && 16 ≤ len && len ≤ 64
  | 7 => if dir then len % 8 = 0 && 16 ≤ len && len ≤ 72 else 1 ≤ len && len ≤ 64
  | 0x10 | 0x11 | 0x12 | 0x13 | 0x14 | 0x15 | 0x16 => len < 2 ^ 40
  | 0x1A => len ≤ 48
  | 0x20 | 0x21 => len = 32
  | 0x22 | 0x23 => len = 48
  | 0x30 => len ≤ 2 ^ 32
  | 0x40 => len ≤ 64
  | 0x58 => len = 1056
  | _ => true

/-- The ALG values of R121. -/
def algKnown (alg : Nat) : Bool :=
  (1 ≤ alg ∧ alg ≤ 7) || (0x10 ≤ alg ∧ alg ≤ 0x16) || (0x18 ≤ alg ∧ alg ≤ 0x1A) || (0x20 ≤ alg ∧ alg ≤ 0x26) ||
  alg ∈ [0x28, 0x30, 0x38, 0x39, 0x3A, 0x40, 0x48, 0x50, 0x51, 0x58, 0x59]

/-- Operations that write a key into OUT_SLOT, whatever their parameters. -/
def algFills (alg : Nat) (dir : Bool) : Bool :=
  alg ∈ [0x1A, 0x24, 0x25, 0x26, 0x38, 0x39, 0x3A] || (alg = 0x48 && dir)

/-- Operations that need randomness (R104). -/
def algRandom (alg : Nat) : Bool := alg ∈ [0x20, 0x22, 0x24, 0x25, 0x26, 0x38, 0x39, 0x40]

/-- The checks that a START makes; the code it would end with. -/
def cxStartCheck (s : State) (n : Nat) (h : Req) : Nat :=
  let op := rget s (R.CX_OP n)
  let alg := bits op 7 0
  let dir := bit op 8
  if !(algKnown alg) then CR.ALG_UNKNOWN
  else if (alg = 0x50 ∨ alg = 0x51) ∧ ¬ h.machine then CR.POLICY
  else if algKeyed alg ∧ keyCheck s h alg (bits op 20 16) dir ≠ CR.OK then keyCheck s h alg (bits op 20 16) dir
  else if !(lengthOk alg (bits op 31 24) (rget s (R.CX_LEN n)).toNat dir) then CR.LENGTH
  else if algFills alg dir ∧ ksType s (bits op 15 11) ≠ 0 then CR.SLOT_FULL
  else if algRandom alg ∧ !(drbgReady s) then CR.NO_ENTROPY
  else CR.OK

/-- START of context n (R111): the message is bound, or ends at once with a check's result. -/
def cxStart (s : State) (n : Nat) (h : Req) (pr : Bool) : State :=
  if (cx s n).msg.isSome then setCxResult s n 1 CR.MSG_OPEN
  else
    let res := cxStartCheck s n h
    let op := rget s (R.CX_OP n)
    let s := if pr then drbgReseed s else s
    let s := rset s (R.CX_DONE n) 0
    if res = CR.OK then setCxResult (setCx s n { cx s n with msg := some (cxMsgOf op) }) n 1 0
    else
      let s := if res = CR.POLICY then policyLog s h (bits op 20 16) else s
      edge (setCxResult s n 2 res) (8 + n)

/-! Results -/

/-- Bytes read for a message, or none where the access is refused. -/
def cxRead (s : State) (h : Req) (a n : Nat) : State × Option (List Byte) :=
  match memRead s h a n .read with
  | (s, .inr l) => (s, some l)
  | (s, .inl _) => (s, none)

/-- Bytes written for a message, and the result. -/
def cxWriteOut (s : State) (h : Req) (a : Nat) (l : List Byte) : State × Nat :=
  match memWrite s h a l with
  | (s, none) => (s, CR.OK)
  | (s, some _) => (s, CR.BUS_ERROR)

/-- A key written into OUT_SLOT under a policy (R105, R106, R110). -/
def cxFill (s : State) (h : Req) (k : Nat) (p : Word) (origin : Nat) (secret : List Byte) : State × Nat :=
  if bits p 27 24 = 0 ∨ 8 < bits p 27 24 ∨ !(ksLenOk p) then (s, CR.ALG_UNKNOWN)
  else if !(ksMayLoad s h.world k p) then (policyLog s h k, CR.POLICY)
  else if ksType s k ≠ 0 then (s, CR.SLOT_FULL)
  else (ksFill s k p origin secret, CR.OK)

/-- MEASn as its 48 bytes, and its extension by a digest (R68). -/
def measBytes (s : State) (n : Nat) : List Byte :=
  ((List.range 6).map fun j => leBytes 8 (rget s (R.COPPER_MEAS (8 * n + j))).toNat).flatten
def measExtend (s : State) (n : Nat) (d : List Byte) : State :=
  let h := sha384 (measBytes s n ++ d)
  (List.range 6).foldl (fun s j => rset s (R.COPPER_MEAS (8 * n + j)) (word (fieldAt h (8 * j) 8))) s

def hashOf (alg : Nat) (out : Nat) (msg : List Byte) : List Byte :=
  match alg with
  | 0x10 => sha256 msg | 0x11 => sha384 msg | 0x12 => sha512 msg | 0x13 => sha3_256 msg | 0x14 => sha3_512 msg
  | 0x15 => shake128 out msg | _ => shake256 out msg

def hmacOf (param : Nat) (key msg : List Byte) : List Byte :=
  match param with | 0 => hmac256 key msg | 1 => hmac384 key msg | _ => hmac512 key msg

/-- KWP's first semiblock for a plaintext length (SP 800-38F). -/
def kwpIcv (n : Nat) : List Byte := [0xA6, 0x59, 0x59, 0xA6] ++ beBytes 4 n

/-- AES-KW (`pad` false) or AES-KWP of a plaintext. -/
def kwSeal (pad : Bool) (key pt : List Byte) : List Byte :=
  if pad then
    let body := pt ++ List.replicate ((8 - pt.length % 8) % 8) 0
    if body.length = 8 then aesEnc key (kwpIcv pt.length ++ body) else kwWrap key (kwpIcv pt.length ++ body)
  else kwWrap key (List.replicate 8 0xA6 ++ pt)

/-- The plaintext of a wrapped key, where its integrity check passes. -/
def kwOpen (pad : Bool) (key ct : List Byte) : Option (List Byte) :=
  let l := if pad ∧ ct.length = 16 then aesDec key ct else kwUnwrap key ct
  if pad then
    let n := beNat (sub l 4 4)
    let body := l.drop 8
    if l.take 4 = [0xA6, 0x59, 0x59, 0xA6] ∧ n ≤ body.length ∧ body.length < n + 8 ∧ (body.drop n).all (· = 0) then
      some (body.take n) else none
  else if l.take 8 = List.replicate 8 0xA6 then some (l.drop 8) else none

/-- The AES operations on a message's bytes: the output, and whether a tag matched (R121, R122). -/
def aesMsg (alg param : Nat) (dir : Bool) (key aux msg tagIn : List Byte) : List Byte × Bool :=
  match alg with
  | 1 => (if dir then aesCbcDec key (aux.take 16) msg else aesCbcEnc key (aux.take 16) msg, true)
  | 2 => (aesCtr key (aux.take 16) 16 msg, true)
  | 3 =>
    let iv := aux.take 12
    let aad := aux.drop 16
    let out := gcmCrypt key iv msg
    if dir then (out, decide ((gcmTag key iv aad msg).take param = tagIn))
    else (out ++ (gcmTag key iv aad out).take param, true)
  | 4 =>
    let h := key.length / 2
    (aesXts (!dir) (key.take h) (key.drop h) (aux.take 16) msg, true)
  | _ =>
    let t := (aesCmac key msg).take param
    if dir then ([], decide (t = tagIn)) else (t, true)

/-! Licences (R123, R124) -/

abbrev licMagic : Nat := 0x4C494331
abbrev recMagic : Nat := 0x4C524331

def isZero (l : List Byte) : Bool := l.all (· = 0)

/-- Both signatures of a hybrid block (R66, R123, R139, R59): ECDSA key at `k`, ML-DSA key at `k + 0x68`, signatures at
`e` and `e + 0x60`, over the bytes before `e`. -/
def hybridEcdsa (l : List Byte) (k e : Nat) : Bool :=
  Config.ecdsaVerify 384 (sub l k 97) (sha384 (l.take e)) (sub l e 96)
def hybridMlDsa (l : List Byte) (k e : Nat) : Bool :=
  Config.mlDsaVerify (sub l (k + 0x68) 1952) (l.take e) (sub l (e + 0x60) 3309)

/-- A licence record as Copper reads it: absent where its MAC fails, which is logged (R124). -/
def licRecord (s : State) (i : Nat) : State × Option (List Byte) :=
  match keeveLicence s i with
  | none => (s, none)
  | some r =>
    if fieldAt r 0 4 = recMagic ∧ hmac384 (storeMac s) (r.take 0xD0) = sub r 0xD0 48 then (s, some r)
    else (logUnit s true Code.LIC_RECORD_BAD (word i) 0, none)

/-- Every valid record, with its index. -/
def licRecords (s : State) : State × List (Nat × List Byte) :=
  (List.range 64).foldl (fun (st : State × List (Nat × List Byte)) i =>
    match licRecord st.1 i with
    | (s, some r) => (s, st.2 ++ [(i, r)])
    | (s, none) => (s, st.2)) (s, [])

/-- The steps of R123 on a licence's 6,656 bytes: the code of the failed step, or the record to write and where. -/
def licCheck (s : State) (l : List Byte) : State × Sum Nat (Nat × List Byte) :=
  let id := sub l 0x10 16
  if fieldAt l 0 4 ≠ licMagic ∨ fieldAt l 4 2 ≠ 1 ∨ !(isZero (sub l 6 2)) ∨ fieldAt l 0x28 4 < 1 ∨ 16 < fieldAt l 0x28 4 ∨
      !(isZero (sub l 0x2C 4)) ∨ !(isZero (sub l 0x498 8)) ∨ !(isZero (sub l 0x501 7)) ∨ !(isZero (sub l 0x19F5 11)) then
    (s, .inl CR.LIC_FORMAT)
  else if sub l 8 8 ≠ deviceId s then (s, .inl CR.LIC_DEVICE)
  else if lifecycle s = 4 then (s, .inl CR.LIC_REFUSED)
  else if !(hybridEcdsa l 0x4A0 0xCA8) ∨ !(hybridMlDsa l 0x4A0 0xCA8) then (s, .inl CR.LIC_SIG)
  else
    let (s, recs) := licRecords s
    if recs.any (fun e => sub e.2 8 16 = id) then (s, .inl CR.LIC_DUPLICATE)
    else match (List.range 64).find? (fun i => !(recs.any fun e => e.1 = i)) with
    | none => (s, .inl CR.LIC_FULL)
    | some i =>
      let ss := Config.mlKemDecaps (Config.mlKemKeygen (licKem s)).2 (sub l 0x30 1088)
      let kek := kdf384 ss (ascii "LICKEK") (deviceId s ++ id) 32
      match kwOpen false kek (sub l 0x470 40) with
      | none => (s, .inl CR.LIC_UNWRAP)
      | some key =>
        let body := leBytes 4 recMagic ++ List.replicate 4 0 ++ id ++ sub l 0x20 12 ++ List.replicate 4 0 ++
          sha384 (sub l 0x4A0 (0xCA8 - 0x4A0)) ++ kwSeal false (storeKw s) key ++ List.replicate 80 0
        (s, .inr (i, body ++ hmac384 (storeMac s) body))

/-! The attestation report ("Attestation report") -/

def syscon_id (s : State) : Nat := match s.variant with | .zm8640 => 0x86400100 | .zm8620 => 0x86200100 | .zm8610 => 0x86100100

/-- An entry of the slot table. -/
def attestSlot (s : State) (f : Nat) : List Byte :=
  let st := fkState s f
  if st < 2 then leBytes 32 st
  else
    let e := mget s.copper.fk f ⟨[], 0, 0, 0⟩
    leBytes 4 st ++ leBytes 4 e.product ++ sub e.licenceId 0 16 ++ leBytes 4 e.version ++ leBytes 4 0

def attestReport (s : State) (nonce : List Byte) : List Byte :=
  leBytes 4 0x41545331 ++ leBytes 2 1 ++ leBytes 2 0 ++ deviceId s ++ leBytes 4 (syscon_id s) ++ leBytes 1 (lifecycle s) ++
  leBytes 1 (b2n (rbit s R.AON_BOOT_STATUS 6) + 2 * b2n (rbit s R.AON_BOOT_STATUS 10)) ++ leBytes 2 0 ++ sub nonce 0 32 ++
  leBytes 8 (dtbNs s).toNat ++ ((List.range 8).map (measBytes s)).flatten ++ ((List.range 16).map (attestSlot s)).flatten

/-! Running a message -/

/-- The parameters of a message: its context's registers. -/
structure CxArgs where
  h : Req
  alg : Nat
  param : Nat
  key : List Byte
  keyNo : Nat
  outSlot : Nat
  dir : Bool
  src : Nat
  dst : Nat
  len : Nat
  aux : Nat

def cxArgs (s : State) (n : Nat) (h : Req) : CxArgs :=
  let op := rget s (R.CX_OP n)
  { h := h, alg := bits op 7 0, param := bits op 31 24, key := ksSecret s (bits op 20 16), keyNo := bits op 20 16,
    outSlot := bits op 15 11, dir := bit op 8, src := rbits s (R.CX_SRC n) 39 0, dst := rbits s (R.CX_DST n) 39 0,
    len := rbits s (R.CX_LEN n) 47 0, aux := rbits s (R.CX_AUX n) 39 0 }

/-- A step of a message that a refused read ends with BUS_ERROR. -/
def withRead (s : State) (h : Req) (a n : Nat) (k : State → List Byte → State × Nat) : State × Nat :=
  match cxRead s h a n with
  | (s, some l) => k s l
  | (s, none) => (s, CR.BUS_ERROR)

def runAes (s : State) (x : CxArgs) : State × Nat :=
  let tagLen := if (x.alg = 3 ∨ x.alg = 5) ∧ x.dir then x.param else 0
  withRead s x.h x.aux 16 fun s a =>
  withRead s x.h x.aux (if x.alg = 3 then 16 + fieldAt a 12 4 else 16) fun s aux =>
  withRead s x.h x.src (x.len + tagLen) fun s m =>
    let (out, ok) := aesMsg x.alg x.param x.dir x.key aux (m.take x.len) (m.drop x.len)
    if ok then cxWriteOut s x.h x.dst out
    else
      let (s, e) := cxWriteOut s x.h x.dst (out.map fun _ => 0)
      (s, if e = CR.OK then CR.TAG_FAIL else e)

def runKw (s : State) (x : CxArgs) : State × Nat :=
  withRead s x.h x.src x.len fun s m =>
    if x.dir then match kwOpen (x.alg = 7) x.key m with
      | some pt => cxWriteOut s x.h x.dst pt
      | none => (s, CR.TAG_FAIL)
    else cxWriteOut s x.h x.dst (kwSeal (x.alg = 7) x.key m)

def runHash (s : State) (x : CxArgs) : State × Nat :=
  let xof : Bool := x.alg = 0x15 ∨ x.alg = 0x16
  withRead s x.h x.aux (if xof then 4 else 0) fun s a =>
    if xof ∧ 65536 < fieldAt a 0 4 then (s, CR.LENGTH)
    else withRead s x.h x.src x.len fun s m => cxWriteOut s x.h x.dst (hashOf x.alg (fieldAt a 0 4) m)

def runHmac (s : State) (x : CxArgs) : State × Nat :=
  withRead s x.h x.src x.len fun s m =>
    let t := hmacOf x.param x.key m
    if x.dir then withRead s x.h x.aux t.length fun s e => (s, if e = t then CR.OK else CR.TAG_FAIL)
    else cxWriteOut s x.h x.dst t

/-- KDF: AUX holds the policy, then the output length, then 1 for a slot; SRC the label, zero byte and context. -/
def runKdf (s : State) (x : CxArgs) : State × Nat :=
  withRead s x.h x.aux 16 fun s a =>
    let n := fieldAt a 8 4
    if n = 0 ∨ 1024 < n then (s, CR.LENGTH)
    else withRead s x.h x.src x.len fun s m =>
      let fixed := m ++ beBytes 4 (8 * n)
      let out := if x.key.length = 32 ∧ ksType s x.keyNo = 3 then kdfCtr aesCmac 16 x.key fixed n
        else kdfCtr hmac384 48 x.key fixed n
      if fieldAt a 12 1 = 1 then cxFill s x.h x.outSlot (word (fieldAt a 0 4)) 2 out else cxWriteOut s x.h x.dst out

/-- DERIVE_DEV (R93): AUX holds the policy, then the label. -/
def runDerive (s : State) (x : CxArgs) : State × Nat :=
  withRead s x.h x.aux (8 + x.len) fun s a =>
    let p := word (fieldAt a 0 4)
    let label := ascii (if x.h.world = .secure then "MK:" else "NW:") ++ a.drop 8
    cxFill s x.h x.outSlot p 2 (kdf384 (duk s) label (deviceId s) (ksLen p))

def runEcdsa (s : State) (x : CxArgs) : State × Nat :=
  let w := if x.alg = 0x20 ∨ x.alg = 0x21 then 256 else 384
  withRead s x.h x.src x.len fun s d =>
    if x.alg = 0x20 ∨ x.alg = 0x22 then
      let (nonce, s) := drbgGen s (w / 8)
      cxWriteOut s x.h x.dst (Config.ecdsaSign w x.key d nonce)
    else withRead s x.h x.aux (w / 4 + 1 + w / 4) fun s a =>
      (s, if Config.ecdsaVerify w (a.take (w / 4 + 1)) d (a.drop (w / 4 + 1)) then CR.OK else CR.SIG_FAIL)

def runEcdh (s : State) (x : CxArgs) : State × Nat :=
  let w := if x.alg = 0x24 then 256 else 384
  withRead s x.h x.aux (8 + w / 4 + 1) fun s a =>
    match Config.ecdh w x.key (a.drop 8) with
    | some z => cxFill s x.h x.outSlot (word (fieldAt a 0 4)) 2 z
    | none => (s, CR.SIG_FAIL)

def runKeyPair (s : State) (x : CxArgs) : State × Nat :=
  withRead s x.h x.aux 8 fun s a =>
    let p := word (fieldAt a 0 4)
    let w := if bits p 27 24 = 6 then 256 else 384
    if bits p 27 24 ≠ 6 ∧ bits p 27 24 ≠ 7 then (s, CR.ALG_UNKNOWN)
    else
      let (d, s) := drbgGen s (w / 8)
      match cxFill s x.h x.outSlot p 1 d with
      | (s, 0) => cxWriteOut s x.h x.dst (Config.ecPublic w d)
      | r => r

def runVerify (s : State) (x : CxArgs) : State × Nat :=
  let (pk, sig) := if x.alg = 0x28 then (32, 64) else (1952, 3309)
  withRead s x.h x.src x.len fun s m =>
  withRead s x.h x.aux (pk + sig) fun s a =>
    let ok := if x.alg = 0x28 then Config.ed25519Verify (a.take pk) m (a.drop pk)
      else Config.mlDsaVerify (a.take pk) m (a.drop pk)
    (s, if ok then CR.OK else CR.SIG_FAIL)

def runKem (s : State) (x : CxArgs) : State × Nat :=
  withRead s x.h x.aux 8 fun s a =>
    let p := word (fieldAt a 0 4)
    match x.alg with
    | 0x38 =>
      let (seed, s) := drbgGen s 64
      if bits p 27 24 ≠ 8 then (s, CR.ALG_UNKNOWN)
      else match cxFill s x.h x.outSlot p 1 seed with
      | (s, 0) => cxWriteOut s x.h x.dst (Config.mlKemKeygen seed).1
      | r => r
    | 0x39 =>
      withRead s x.h x.src 1184 fun s ek =>
        let (m, s) := drbgGen s 32
        match Config.mlKemEncaps ek m with
        | none => (s, CR.LENGTH)
        | some (ct, ss) => match cxFill s x.h x.outSlot p 2 ss with
          | (s, 0) => cxWriteOut s x.h x.dst ct
          | r => r
    | _ => withRead s x.h x.src 1088 fun s ct =>
        cxFill s x.h x.outSlot p 3 (Config.mlKemDecaps (Config.mlKemKeygen x.key).2 ct)

/-- WRAP of the key in OUT_SLOT, and UNWRAP into OUT_SLOT (R109). PARAM 1 selects AES-KWP. -/
def runWrap (s : State) (x : CxArgs) : State × Nat :=
  if x.dir then
    withRead s x.h x.aux 8 fun s a =>
    withRead s x.h x.src x.len fun s ct =>
      match kwOpen (x.param = 1) x.key ct with
      | some k => cxFill s x.h x.outSlot (word (fieldAt a 0 4)) 3 k
      | none => (s, CR.TAG_FAIL)
  else
    let p := ksPolicy s x.outSlot
    if bits p 27 24 = 0 then (s, CR.KEY_EMPTY)
    else if !(bit p 7) ∨ !(bit p (if x.h.world = .secure then 12 else 13)) then (policyLog s x.h x.outSlot, CR.POLICY)
    else cxWriteOut s x.h x.dst (kwSeal (x.param = 1) x.key (ksSecret s x.outSlot))

def runLicence (s : State) (x : CxArgs) : State × Nat :=
  if x.alg = 0x51 then (keeveAsk s (.unlicence (x.param % 64)) false, CR.OK)
  else withRead s x.h x.aux 6656 fun s l =>
    match licCheck s l with
    | (s, .inl code) => (logReq s 1 Code.LIC_REJECT x.h (word x.aux) (word code), code)
    | (s, .inr (i, rec)) => (keeveAsk s (.licence i rec) false, CR.OK)

def runAttest (s : State) (x : CxArgs) : State × Nat :=
  withRead s x.h x.aux 32 fun s nonce =>
    match attestKey s with
    | none => (s, CR.NO_KEY)
    | some k =>
      let r := attestReport s nonce
      let (n, s) := freeBytes s 48
      cxWriteOut s x.h x.dst (r ++ Config.ecdsaSign 384 k (sha384 r) n)

def runPubkey (s : State) (x : CxArgs) : State × Nat :=
  match attestKey s with
  | none => (s, CR.NO_KEY)
  | some k => cxWriteOut s x.h x.dst ((Config.mlKemKeygen (licKem s)).1 ++ Config.ecPublic 384 k)

def runRandom (s : State) (x : CxArgs) : State × Nat :=
  let (l, s) := drbgGen s x.len
  cxWriteOut s x.h x.dst l

/-- The operation of a message, by ALG. -/
def cxRun (s : State) (x : CxArgs) : State × Nat :=
  if 1 ≤ x.alg ∧ x.alg ≤ 5 then runAes s x
  else if x.alg ≤ 7 then runKw s x
  else if x.alg ≤ 0x16 then runHash s x
  else match x.alg with
  | 0x18 => runHmac s x
  | 0x19 => runKdf s x
  | 0x1A => runDerive s x
  | 0x20 | 0x21 | 0x22 | 0x23 => runEcdsa s x
  | 0x24 | 0x25 => runEcdh s x
  | 0x26 => runKeyPair s x
  | 0x28 | 0x30 => runVerify s x
  | 0x38 | 0x39 | 0x3A => runKem s x
  | 0x40 => runRandom s x
  | 0x48 => runWrap s x
  | 0x50 | 0x51 => runLicence s x
  | 0x58 => runAttest s x
  | _ => runPubkey s x

/-- The message of context n is carried out and ends (R111). -/
def cxDone (s : State) (n : Nat) : State :=
  match (cx s n).msg, (cx s n).holder with
  | some _, some h =>
    let x := cxArgs s n h
    let (s, res) := cxRun s x
    cxEnd (rset s (R.CX_DONE n) (word (if res = CR.OK then x.len else 0))) n res
  | _, _ => s

/-! Registers -/

/-- A write of CX_CTRLn by the holder. -/
def cxCtrl (s : State) (r : Req) (n : Nat) (w : Wr) : State :=
  match (cx s n).holder with
  | none => s
  | some h =>
    let _ := r
    if w.one 1 then cxEnd s n CR.ABORTED
    else if w.one 2 then cxPark s n h
    else if w.one 3 then cxResume s n h
    else if w.one 0 then cxStart s n h (w.one 5)
    else if w.one 4 then cxRelease (cxEnd s n CR.ABORTED) n
    else s

/-- A write of another register of a CX block: ignored while a message is bound (R111). -/
def cxRegWrite (s : State) (r : Req) (n a : Nat) (w : Wr) : State :=
  if (cx s n).msg.isSome then s else genericWrite s r a w

/-- START of one operation: the write of CX_CTRL, where CX_OP names that operation. -/
def copperStart (s : State) (alg : Nat) (dir : Option Bool) (q : RegAcc) (n : Nat) : Out :=
  let op := rget s (R.CX_OP n)
  if bits op 7 0 = alg ∧ dir.all (fun d => bit op 8 == d) ∧ bits q.value 4 0 = 1 then
    .next (onWrite s q (R.CX_CTRL n) fun r w => cxCtrl s r n w)
  else .next s

/-! Commands -/

/-- CX_ABORT (R111). -/
def execCxAbort (q : RegAcc) (n : Fin 8) (s : State) : Out := .next (onWrite s q (R.CX_CTRL n) fun r w => cxCtrl s r n w)
/-- CX_PARK (R117 to R119). -/
def execCxPark (q : RegAcc) (n : Fin 8) (s : State) : Out := .next (onWrite s q (R.CX_CTRL n) fun r w => cxCtrl s r n w)
/-- CX_RESUME (R117, R119). -/
def execCxResume (q : RegAcc) (n : Fin 8) (s : State) : Out := .next (onWrite s q (R.CX_CTRL n) fun r w => cxCtrl s r n w)
/-- CX_RELEASE (R111). -/
def execCxRelease (q : RegAcc) (n : Fin 8) (s : State) : Out := .next (onWrite s q (R.CX_CTRL n) fun r w => cxCtrl s r n w)
/-- AES_CBC (R121): START of the operation. -/
def execAesCbc (q : RegAcc) (n : Fin 8) (s : State) : Out := copperStart s 0x01 none q n
/-- AES_CTR (R121): START of the operation. -/
def execAesCtr (q : RegAcc) (n : Fin 8) (s : State) : Out := copperStart s 0x02 none q n
/-- AES_GCM (R121, R122): START of the operation. -/
def execAesGcm (q : RegAcc) (n : Fin 8) (s : State) : Out := copperStart s 0x03 none q n
/-- AES_XTS (R121): START of the operation. -/
def execAesXts (q : RegAcc) (n : Fin 8) (s : State) : Out := copperStart s 0x04 none q n
/-- AES_CMAC (R121, R122): START of the operation. -/
def execAesCmac (q : RegAcc) (n : Fin 8) (s : State) : Out := copperStart s 0x05 none q n
/-- AES_KW (R121): START of the operation. -/
def execAesKw (q : RegAcc) (n : Fin 8) (s : State) : Out := copperStart s 0x06 none q n
/-- AES_KWP (R121): START of the operation. -/
def execAesKwp (q : RegAcc) (n : Fin 8) (s : State) : Out := copperStart s 0x07 none q n
/-- SHA_256 (R121): START of the operation. -/
def execSha256 (q : RegAcc) (n : Fin 8) (s : State) : Out := copperStart s 0x10 none q n
/-- SHA_384 (R121): START of the operation. -/
def execSha384 (q : RegAcc) (n : Fin 8) (s : State) : Out := copperStart s 0x11 none q n
/-- SHA_512 (R121): START of the operation. -/
def execSha512 (q : RegAcc) (n : Fin 8) (s : State) : Out := copperStart s 0x12 none q n
/-- SHA3_256 (R121): START of the operation. -/
def execSha3256 (q : RegAcc) (n : Fin 8) (s : State) : Out := copperStart s 0x13 none q n
/-- SHA3_512 (R121): START of the operation. -/
def execSha3512 (q : RegAcc) (n : Fin 8) (s : State) : Out := copperStart s 0x14 none q n
/-- SHAKE128 (R121): START of the operation. -/
def execShake128 (q : RegAcc) (n : Fin 8) (s : State) : Out := copperStart s 0x15 none q n
/-- SHAKE256 (R121): START of the operation. -/
def execShake256 (q : RegAcc) (n : Fin 8) (s : State) : Out := copperStart s 0x16 none q n
/-- HMAC (R121): START of the operation. -/
def execHmac (q : RegAcc) (n : Fin 8) (s : State) : Out := copperStart s 0x18 none q n
/-- KDF (R121): START of the operation. -/
def execKdf (q : RegAcc) (n : Fin 8) (s : State) : Out := copperStart s 0x19 none q n
/-- DERIVE_DEV (R93): START of the operation. -/
def execDeriveDev (q : RegAcc) (n : Fin 8) (s : State) : Out := copperStart s 0x1A none q n
/-- ECDSA_P256_SIGN (R121): START of the operation. -/
def execEcdsaP256Sign (q : RegAcc) (n : Fin 8) (s : State) : Out := copperStart s 0x20 none q n
/-- ECDSA_P256_VERIFY (R121): START of the operation. -/
def execEcdsaP256Verify (q : RegAcc) (n : Fin 8) (s : State) : Out := copperStart s 0x21 none q n
/-- ECDSA_P384_SIGN (R121): START of the operation. -/
def execEcdsaP384Sign (q : RegAcc) (n : Fin 8) (s : State) : Out := copperStart s 0x22 none q n
/-- ECDSA_P384_VERIFY (R121): START of the operation. -/
def execEcdsaP384Verify (q : RegAcc) (n : Fin 8) (s : State) : Out := copperStart s 0x23 none q n
/-- ECDH_P256 (R121): START of the operation. -/
def execEcdhP256 (q : RegAcc) (n : Fin 8) (s : State) : Out := copperStart s 0x24 none q n
/-- ECDH_P384 (R121): START of the operation. -/
def execEcdhP384 (q : RegAcc) (n : Fin 8) (s : State) : Out := copperStart s 0x25 none q n
/-- EC_KEY_PAIR (R121): START of the operation. -/
def execEcKeyPair (q : RegAcc) (n : Fin 8) (s : State) : Out := copperStart s 0x26 none q n
/-- ED25519_VERIFY (R121): START of the operation. -/
def execEd25519Verify (q : RegAcc) (n : Fin 8) (s : State) : Out := copperStart s 0x28 none q n
/-- ML_DSA_65_VERIFY (R121): START of the operation. -/
def execMlDsa65Verify (q : RegAcc) (n : Fin 8) (s : State) : Out := copperStart s 0x30 none q n
/-- ML_KEM_768_KEYGEN (R121): START of the operation. -/
def execMlKem768Keygen (q : RegAcc) (n : Fin 8) (s : State) : Out := copperStart s 0x38 none q n
/-- ML_KEM_768_ENCAPSULATE (R121): START of the operation. -/
def execMlKem768Encapsulate (q : RegAcc) (n : Fin 8) (s : State) : Out := copperStart s 0x39 none q n
/-- ML_KEM_768_DECAPSULATE (R121): START of the operation. -/
def execMlKem768Decapsulate (q : RegAcc) (n : Fin 8) (s : State) : Out := copperStart s 0x3A none q n
/-- RANDOM (R121): START of the operation. -/
def execRandom (q : RegAcc) (n : Fin 8) (s : State) : Out := copperStart s 0x40 none q n
/-- WRAP (R109): START of the operation. -/
def execWrap (q : RegAcc) (n : Fin 8) (s : State) : Out := copperStart s 0x48 (some false) q n
/-- UNWRAP (R105, R109): START of the operation. -/
def execUnwrap (q : RegAcc) (n : Fin 8) (s : State) : Out := copperStart s 0x48 (some true) q n
/-- LIC_INSTALL (R123): START of the operation. -/
def execLicInstall (q : RegAcc) (n : Fin 8) (s : State) : Out := copperStart s 0x50 none q n
/-- LIC_REMOVE (R124): START of the operation. -/
def execLicRemove (q : RegAcc) (n : Fin 8) (s : State) : Out := copperStart s 0x51 none q n
/-- ATTEST (R145): START of the operation. -/
def execAttest (q : RegAcc) (n : Fin 8) (s : State) : Out := copperStart s 0x58 none q n
/-- DEVICE_PUBKEY (R121): START of the operation. -/
def execDevicePubkey (q : RegAcc) (n : Fin 8) (s : State) : Out := copperStart s 0x59 none q n
/-- COPPER_MESSAGE_DONE (R111): the bound message of context n is carried out and ends with its result. -/
def execCopperMessageDone (n : Fin 8) (s : State) : Out := .next (cxDone s n)

end Sys2Proof.Machine
end

