-- ==== Sys2Proof/Machine/Firkin.lean ====
section
/-! DEFINITION. RESEAL (R137), and the firkin slots: LOAD, START, STOP, DESTROY (R138 to R143). COPPER's register
accesses. -/
namespace Sys2Proof.Machine

abbrev FR.OK : Nat := 0
abbrev FR.FK_BUSY : Nat := 1
abbrev FR.FK_SLOT : Nat := 2
abbrev FR.FK_REFUSED : Nat := 3
abbrev FR.FK_FORMAT : Nat := 4
abbrev FR.FK_LICENCE : Nat := 5
abbrev FR.FK_VERSION : Nat := 6
abbrev FR.FK_INSTANCES : Nat := 7
abbrev FR.FK_SIZE : Nat := 8
abbrev FR.FK_LICENSOR : Nat := 9
abbrev FR.FK_SIG : Nat := 10
abbrev FR.FK_BODY : Nat := 11
abbrev FR.BUS_ERROR : Nat := 12
abbrev FR.NO_ENTROPY : Nat := 13

/-! Writing a region -/

/-- One line of region i written as Copper writes it: through sealing where the region is sealed. -/
def regionLine (s : State) (i line : Nat) (l : List Byte) : State :=
  if rgnSealed s i then match sealKey s i with
    | some key => sealWrite s i key line l
    | none => s
  else writeBytes s line l

/-- A region written whole: the bytes of `l`, then zero. -/
def regionFill (s : State) (i : Nat) (l : List Byte) : State :=
  (List.range ((rgnHi s i - rgnLo s i) / 64)).foldl (fun s j => regionLine s i (rgnLo s i + 64 * j) (sub l (64 * j) 64)) s

/-- A fresh DRBG key in a region's slot under a policy, with its epoch at 1. -/
def regionKey (s : State) (i : Nat) (origin : Nat) (p : Word) : State :=
  let (k, s) := drbgGen s 32
  let s := { s with copper := { s.copper with keys := mset s.copper.keys (rgnKey s i) k } }
  rset (rset s (R.COPPER_KS_POLICY (rgnKey s i)) (setBits p 31 28 origin)) (R.COPPER_SEAL_EPOCH i) 1

/-- A policy of TYPE AES-256 with SEAL 1 for the secure world. -/
def sealPolicy (firkin : Bool) : Word := word (3 <<< 24 + 3 <<< 18 + b2n firkin <<< 17 + 1 <<< 16 + 1 <<< 12)

/-! RESEAL (R137) -/

/-- A write of COPPER_SEAL_CMD. -/
def sealCmd (s : State) (r : Req) (w : Wr) : State :=
  let i := w.bits 4 0
  if !(w.one 8) ∨ ¬ r.machine ∨ !(rgnValid s i && rgnSealed s i) then s
  else
    let e := sealEpoch s i
    if regionOf s (rgnLo s i) = .xspi then
      if e = 0xFFFFFFFF then logReq s 1 Code.SEAL_EPOCH_END r (word i) 0
      else rputb (rset s (R.COPPER_SEAL_EPOCH i) (word (e + 1))) R.COPPER_SEAL_REVOKED i false
    else if i ∈ s.copper.reseals then s
    else { s with copper := { s.copper with reseals := s.copper.reseals ++ [i] } }

/-- A RESEAL of an LPDDR region is carried out: the epoch advances, or at its end a new key and epoch 1; every line is
zero with a valid tag; REVOKED clears. Without entropy for a new key the region stays as it was. -/
def resealDone (s : State) (i : Nat) : State :=
  if i ∉ s.copper.reseals then s
  else
    let s := { s with copper := { s.copper with reseals := s.copper.reseals.filter (· ≠ i) } }
    let e := sealEpoch s i
    if e = 0xFFFFFFFF ∧ !(drbgReady s) then s
    else
      let s := if e = 0xFFFFFFFF then
          let p := ksPolicy s (rgnKey s i)
          regionKey s i (bits p 31 28) p
        else rset s (R.COPPER_SEAL_EPOCH i) (word (e + 1))
      rputb (regionFill s i []) R.COPPER_SEAL_REVOKED i false

/-! Firkin slots -/

def setFkState (s : State) (f st : Nat) : State := rput s R.COPPER_FK_STATE (4 * f + 2) (4 * f) st

/-- Region entries of a firkin slot of one KIND, in index order (R49). -/
def fkRegions (s : State) (f kind : Nat) : List Nat :=
  (List.range 32).filter fun i => rgnValid s i && rgnKind s i = kind && rgnFk s i = f

def fkSize (s : State) (l : List Nat) : Nat := l.foldl (fun n i => n + (rgnHi s i - rgnLo s i)) 0

/-- A firkin command ends: its result, and source 16 (R138, R313). -/
def fkResult (s : State) (code : Nat) : State := edge (rset s R.COPPER_FK_RESULT (word code)) 16
def fkBusy (s : State) : State := rset s R.COPPER_FK_RESULT 0x100

/-- A refused LOAD (R139). -/
def fkReject (s : State) (r : Req) (code : Nat) : State := fkResult (logReq s 1 Code.FK_REJECT r 0 (word code)) code

/-- Slots that are not EMPTY and hold a licence. -/
def fkInstances (s : State) (id : List Byte) : Nat :=
  ((List.range 16).filter fun f => fkState s f ≠ 0 && (mget s.copper.fk f ⟨[], 0, 0, 0⟩).licenceId == id).length

/-- Steps 2 to 8 of R139 on an image header of 0x1600 bytes: the code of the first failure. -/
def fkCheck (s : State) (f : Nat) (h : List Byte) (rec : Option (List Byte)) : Nat :=
  if fieldAt h 0 4 ≠ 0x464B4931 ∨ fieldAt h 4 2 ≠ 1 ∨ !(isZero (sub h 6 2)) ∨ !(isZero (sub h 0x2C 4)) ∨
      !(isZero (sub h 0x3C 4)) ∨ !(isZero (sub h 0xE1 7)) ∨ !(isZero (sub h 0x15D5 43)) then FR.FK_FORMAT
  else match rec with
  | none => FR.FK_LICENCE
  | some l =>
    let code := fieldAt h 0x20 4
    let data := fieldAt h 0x24 4
    if sub l 8 16 ≠ sub h 8 16 ∨ sub l 0x18 4 ≠ sub h 0x18 4 then FR.FK_LICENCE
    else if fieldAt h 0x1C 4 < fieldAt l 0x1C 4 then FR.FK_VERSION
    else if fieldAt l 0x20 4 ≤ fkInstances s (sub h 8 16) then FR.FK_INSTANCES
    else if code % 64 ≠ 0 ∨ data % 64 ≠ 0 ∨ fkSize s (fkRegions s f 3) < code ∨ fkSize s (fkRegions s f 4) < data ∨
        code ≤ fieldAt h 0x28 4 ∨ fieldAt h 0x28 4 % 4 ≠ 0 then FR.FK_SIZE
    else if sha384 (sub h 0x80 (0x888 - 0x80)) ≠ sub l 0x28 48 then FR.FK_LICENSOR
    else if !(hybridEcdsa h 0x80 0x888) ∨ !(hybridMlDsa h 0x80 0x888) then FR.FK_SIG
    else FR.OK

/-- Machine level's own memory accesses for a LOAD. -/
def fkReq (r : Req) : Req := { r with firkin := none }

/-- LOAD of slot f with licence record i from the image at `src`, steps 1 to 9 (R139). -/
def fkLoad (s : State) (r : Req) (f i src : Nat) : State :=
  if fkRegions s f 3 = [] ∨ fkState s f ≠ 0 then fkReject s r FR.FK_SLOT
  else if lifecycle s = 4 then fkReject s r FR.FK_REFUSED
  else match memRead s (fkReq r) src 0x1600 .read with
  | (s, .inl _) => fkReject s r FR.BUS_ERROR
  | (s, .inr h) =>
    let (s, rec) := licRecord s i
    let code := fkCheck s f h rec
    if code ≠ FR.OK then fkReject s r code
    else if !(drbgReady s) then fkReject s r FR.NO_ENTROPY
    else
      let s := setFkState s f 1
      let s := (fkRegions s f 3 ++ fkRegions s f 4).foldl
        (fun s j => if rgnSealed s j then regionKey s j 1 (sealPolicy true) else s) s
      let info : FkSlot := ⟨sub h 8 16, fieldAt h 0x18 4, fieldAt h 0x1C 4, fieldAt h 0x28 4⟩
      fkBusy { s with copper := { s.copper with fk := mset s.copper.fk f info, fkJob := some ⟨f, true, h, i, src⟩ } }

/-- A range of bytes laid over a slot's regions in index order. -/
def fkFill (s : State) : List Nat → List Byte → State
  | [], _ => s
  | i :: rest, l => fkFill (regionFill s i l) rest (l.drop (rgnHi s i - rgnLo s i))

/-- DESTROY, steps 1 to 4 (R143): orders of the slot fail, tuns scrub, keys clear. -/
def fkDestroy (s : State) (f : Nat) : State :=
  let s := setFkState s f 4
  let s := (aliveTuns s).foldl (fun s p =>
    let c := coreOf s p
    let runs : Bool := match c.order.bind (jentry s) with
      | some e => e.useFk.map Fin.val = some f && e.st = .running && !c.fetching
      | none => false
    if runs then tunEvent s p 6 false 0 .scrubs
    else if c.lastFk.map Fin.val = some f ∧ c.order.isNone then tunScrub s p else s) s
  (fkRegions s f 3 ++ fkRegions s f 4).foldl (fun s i => if rgnSealed s i then ksClear s (rgnKey s i) else s) s

/-- DESTROY, steps 5 and 6: Cellar ranges zero, the slot EMPTY. -/
def fkDestroyEnd (s : State) (f : Nat) : State :=
  let s := (fkRegions s f 3 ++ fkRegions s f 4).foldl
    (fun s i => if (regionOf s (rgnLo s i)).external then s else clearRange s (rgnLo s i) (rgnHi s i)) s
  setFkState { s with copper := { s.copper with fk := mdel s.copper.fk f } } f 0

/-- The rest of a LOAD (R139, steps 9 to 11). -/
def fkLoadEnd (s : State) (r : Req) (j : FkJob) : State :=
  let s := { s with copper := { s.copper with fkJob := none } }
  let h := j.hdr
  let n := fieldAt h 0x20 4 + fieldAt h 0x24 4
  let fail (s : State) (code : Nat) : State := fkReject (fkDestroyEnd (fkDestroy s j.slot) j.slot) r code
  match memRead s (fkReq r) (j.src + 0x1600) n .read with
  | (s, .inl _) => fail s FR.BUS_ERROR
  | (s, .inr ct) =>
    let key := ((keeveLicence s j.licence).bind fun l => kwOpen false (storeKw s) (sub l 0x58 40)).getD []
    let pt := gcmCrypt key (sub h 0x30 12) ct
    let s := fkFill s (fkRegions s j.slot 3) (pt.take (fieldAt h 0x20 4))
    let s := fkFill s (fkRegions s j.slot 4) (pt.drop (fieldAt h 0x20 4))
    if sha384 ct ≠ sub h 0x50 48 ∨ gcmTag key (sub h 0x30 12) (h.take 0x40) ct ≠ sub h 0x40 16 then fail s FR.FK_BODY
    else
      let s := measExtend s (4 + j.slot / 4) (sha384 (BitVec.ofNat 8 j.slot :: h.take 0x888))
      fkResult (setFkState s j.slot 2) FR.OK

/-- A write of COPPER_FK_CMD (R138, R141). -/
def fkCmd (s : State) (r : Req) (w : Wr) : State :=
  let f := w.bits 11 8
  let op := w.bits 2 0
  if ¬ r.machine then logReq s 1 Code.FK_CMD_DENIED r (word f) 0
  else
    let s := match s.copper.fkJob with
      | some j => if op = 4 ∧ j.load ∧ j.slot = f then { s with copper := { s.copper with fkJob := none } } else s
      | none => s
    if s.copper.fkJob.isSome then edge (rput s R.COPPER_FK_RESULT 7 0 FR.FK_BUSY) 16
    else match op with
    | 1 => fkLoad s r f (w.bits 21 16) (rbits s R.COPPER_FK_SRC 39 0)
    | 2 => if fkState s f = 2 ∨ fkState s f = 4 then fkResult (setFkState s f 3) FR.OK else fkResult s FR.FK_SLOT
    | 3 => if fkState s f = 3 then fkResult (setFkState s f 4) FR.OK else fkResult s FR.FK_SLOT
    | 4 =>
      if fkState s f = 0 then fkResult s FR.FK_SLOT
      else fkBusy { fkDestroy s f with copper := { (fkDestroy s f).copper with fkJob := some { slot := f, load := false } } }
    | _ => s

/-! COPPER's registers, by address -/

/-- Policy words are readable by the worlds in WORLDS; the whole block is the secure world's (R110 and its table). -/
def copperWrite (s : State) (r : Req) (a : Nat) (w : Wr) : State :=
  let off := a - 0x40060000
  if 0x1000 ≤ off ∧ off < 0x1800 then
    let n := (off - 0x1000) / 0x100
    if off % 0x100 = 0 then cxCtrl s r n w else cxRegWrite s r n a w
  else if a = R.COPPER_KS_CMD then ksCmd s r w
  else if a = R.COPPER_SEAL_CMD then sealCmd s r w
  else if a = R.COPPER_FK_CMD then fkCmd s r w
  else if 0x2000 ≤ off ∧ off < 0x2080 then
    let i := (off - 0x2000) / 4
    if regionOf s (rgnLo s i) = .xspi then genericWrite s r a w else s
  else if 0x40 ≤ off ∧ off < 0x80 then rset s a ((rget s a &&& ~~~ w.m) ||| (w.v &&& w.m))
  else genericWrite s r a w

def copperRead (s : State) (r : Req) (a : Nat) (m : Word) : State × Word :=
  if a = R.COPPER_CLAIM then cxClaim s r
  else if a = R.COPPER_STATUS then
    (s, word (((freeCx s).foldl (fun v n => v + 2 ^ n) 0) <<< 8 + s.copper.serials.length))
  else if R.COPPER_HOLDER 0 ≤ a ∧ a < R.COPPER_HOLDER 8 then (s, cxHolder s r ((a - R.COPPER_HOLDER 0) / 4))
  else genericRead s r a m

/-! Commands -/

/-- RESEAL (R137). -/
def execReseal (q : RegAcc) (s : State) : Out := .next (onWrite s q R.COPPER_SEAL_CMD fun r w => sealCmd s r w)

/-- RESEAL_DONE (R137). -/
def execResealDone (i : Fin 32) (s : State) : Out := .next (resealDone s i)

/-- FK_LOAD (R138, R139). -/
def execFkLoad (q : RegAcc) (s : State) : Out := .next (onWrite s q R.COPPER_FK_CMD fun r w => fkCmd s r w)

/-- FK_LOAD_DONE (R139). -/
def execFkLoadDone (s : State) : Out :=
  match s.copper.fkJob with
  | some j => if j.load then .next (fkLoadEnd s { reqOf s .own with level := .m } j) else .next s
  | none => .next s

/-- FK_START (R141). -/
def execFkStart (q : RegAcc) (s : State) : Out := .next (onWrite s q R.COPPER_FK_CMD fun r w => fkCmd s r w)

/-- FK_STOP (R141). -/
def execFkStop (q : RegAcc) (s : State) : Out := .next (onWrite s q R.COPPER_FK_CMD fun r w => fkCmd s r w)

/-- FK_DESTROY (R143). -/
def execFkDestroy (q : RegAcc) (s : State) : Out := .next (onWrite s q R.COPPER_FK_CMD fun r w => fkCmd s r w)

/-- FK_DESTROY_DONE (R143). -/
def execFkDestroyDone (s : State) : Out :=
  match s.copper.fkJob with
  | some j =>
    if j.load then .next s
    else .next (fkResult (fkDestroyEnd { s with copper := { s.copper with fkJob := none } } j.slot) FR.OK)
  | none => .next s

end Sys2Proof.Machine
end

