-- ==== Sys2Proof/Machine/Reset.lean ====
section
/-! DEFINITION. Resets (R20 to R24, R354, R671, R672), SYSCON and PART registers (R34, R46 to R50, R302), core releases, and
DEBUG (R58 to R63). -/
namespace Sys2Proof.Machine

/-! Causes, as bits of SYSCON_RESET_CAUSE -/

abbrev Cause.POR : Nat := 0x001
abbrev Cause.AON_POR : Nat := 0x002
abbrev Cause.PIN : Nat := 0x004
abbrev Cause.HCP : Nat := 0x008
abbrev Cause.SW_COLD : Nat := 0x010
abbrev Cause.SW_WARM : Nat := 0x020
abbrev Cause.WDT : Nat := 0x040
abbrev Cause.BOOT_FAIL : Nat := 0x080
abbrev Cause.WEDGE_WARM : Nat := 0x100

/-- Whether the register at an address survives a reset: the always-on domain does, and on a warm reset what its row
marks as kept (R9, R22). -/
def regSurvives (warm : Bool) (a : Nat) : Bool :=
  match regAt a with
  | some (row, _) => match row.keep with
    | .always => true
    | .kept => warm
    | .same => false
  | none => false

/-- Bits of a register that survive although its row does not: DEBUG_STATUS.LOCKED and FAILS, TRNG_STATUS.DEAD and
HCP_STAT.AUTH_LOCK, on a warm reset. -/
def keptBits (s : State) : List (Nat × Word) :=
  [(R.DEBUG_STATUS, rget s R.DEBUG_STATUS &&& mask 8 4), (R.TRNG_STATUS, rget s R.TRNG_STATUS &&& mask 3 3),
   (R.HCP_STAT, rget s R.HCP_STAT &&& mask 6 6)].filter fun e => e.2 ≠ 0

/-- Whether a memory address survives a reset (R22): Retention RAM and flash always; on a warm reset LPDDR too, and Cellar
outside firkin data regions. -/
def memSurvives (s : State) (warm : Bool) (a : Nat) : Bool :=
  match regionOf s a with
  | .retention | .xspi => true
  | .lpddr => warm
  | .cellar => warm && !((List.range 32).any fun i => rgnValid s i && rgnKind s i = 4 && rgnLo s i ≤ a && a < rgnHi s i)
  | _ => false

/-- Replay of the journal on a warm reset (R354). -/
def journalReplay (s : State) : State :=
  { s with journal := s.journal.map fun e =>
      (e.1, { e.2 with st := if e.2.st = .running then .accepted else e.2.st, proc := none, replayed := true, record := [] }) }

/-- An operation that a reset interrupts in Keeve leaves its record at the old or the new value (R96): a free choice. -/
def keeveCut (s : State) : State :=
  match s.keeve.running with
  | none => s
  | some q =>
    let t := { s with freeIx := s.freeIx + 1 }
    let t := if Config.freeBit s.freeIx then keeveApply t q else t
    { t with keeve := { t.keeve with running := none, queue := [] } }

/-- The straps that a reset samples, into AON_BOOT_STATUS and HCP_STAT (R64, R575). -/
def strapSample (s : State) : State :=
  let v := s.boot.straps.toNat
  let s := rput s R.AON_BOOT_STATUS 2 0 (v % 8)
  rput s R.HCP_STAT 2 0 (v / 8)

/-- What both kinds of reset do (R22). -/
def resetClear (s : State) (warm : Bool) : State :=
  let kept := keptBits s
  let s := keeveCut s
  let regs := s.regs.filter fun e => regSurvives warm e.1
  { s with
      mem := s.mem.filter fun e => memSurvives s warm e.1
      regs := if warm then kept.foldl (fun m e => mset m e.1 e.2) regs else regs
      cores := [], claims := [], bungs := [], grants := [], sparge := [], doors := [], steep := {}, eccPend := []
      retiredSeen := [], safeWait := [], remote := [], sdk := [], sdkMarks := 0, streams := [], scenes := [], wire := [], io := { usb := { idHost := s.io.usb.idHost, vbus := s.io.usb.vbus } }, pcc := {}, lastRead := 0
      pcie := { perstN := s.pcie.perstN }
      dbg := { ir := s.dbg.ir }
      trng := if warm then { s.trng with row := s.trng.row, requests := 0 } else { reseeds := s.trng.reseeds }
      copper := { attestErased := s.copper.attestErased, nextSerial := s.copper.nextSerial } }

/-- What a cold reset clears besides: the journal, the normal and secure rings, DTB. -/
def coldClear (s : State) : State :=
  { s with journal := [], ring0 := {}, ring1 := {}, dtb := 0, servo := {}, hcpRefused := 0 }

/-- Whether Stage 0 can start: supplies valid, RESET_N high, TEST_MODE low, not in DORMANT (R666, R671). -/
def startOk (s : State) : Bool :=
  s.boot.soc && s.boot.aon && s.boot.resetN && !s.boot.testMode && !s.boot.dormant

/-- TRNG runs its start-up test after each reset (R101), unless DEAD. -/
def trngRestart (s : State) : State :=
  if rbit s R.TRNG_STATUS 3 then s else rputb s R.TRNG_STATUS 1 true

/-- The sources of a reset that is in progress: its scrubs run, it is held, or a retry waits (R21). -/
def causesDue (s : State) : Nat :=
  match s.boot.phase with
  | .held | .scrub | .retry => s.boot.causes
  | _ => 0

/-- A cold reset with its causes and those of a reset in progress that it overtakes (R20 to R22). `slot` keeps the slot: after a
verification failure (R83). -/
def coldReset (s : State) (new : Nat) (slot : Bool) : State :=
  let causes := new ||| causesDue s
  let t := coldClear (resetClear s false)
  let t := rset t R.SYSCON_RESET_CAUSE (word causes)
  let t := rput t R.AON_BOOT_STATUS 9 7 0
  let t := if slot then t else rputb t R.AON_BOOT_STATUS 6 (rbit t R.AON_BOOT_LAST 0)
  let b : Boot :=
   {
    soc := s.boot.soc, aon := s.boot.aon, resetN := s.boot.resetN, dormant := s.boot.dormant, cold := true, causes := causes,
    testMode := s.boot.testMode, pwrEn := s.boot.pwrEn, low := s.boot.low, wakeDue := s.boot.wakeDue,
    wakeReady := s.boot.wakeReady, wakeCfg := s.boot.wakeCfg,
    internalOsc := s.boot.internalOsc, straps := s.boot.straps, wake := s.boot.wake,
    phase := if startOk s then .ready else .held }
  trngRestart (strapSample (logUnit { t with boot := b } true Code.RESET 0 (word causes)))

/-- A warm reset leaves every stream that was not IDLE STOPPED, with no grid and SLIPS 0 (R418). -/
def streamsStop (old s : State) : State :=
  (List.range 64).foldl (fun s n =>
    if rbits old (R.STR_STATE n) 2 0 = 0 then s
    else rset s (R.STR_STATE n) (word 4 ||| (rget old (R.STR_STATE n) &&& mask 13 12))) s

/-- A warm reset with its causes (R20, R22, R87, R354). While a cold reset is in progress only the causes are recorded
(R21). -/
def warmReset (s : State) (causes : Nat) : State :=
  if s.boot.phase = .held ∨ s.boot.phase = .retry ∨ (s.boot.phase = .ready ∧ s.boot.cold) then
    rset s R.SYSCON_RESET_CAUSE (rget s R.SYSCON_RESET_CAUSE ||| word causes)
  else
    let t := journalReplay (streamsStop s (resetClear s true))
    let t := rset t R.SYSCON_RESET_CAUSE (rget s R.SYSCON_RESET_CAUSE ||| word causes)
    let t := rput t R.AON_BOOT_STATUS 9 7 0
    let t := rputb t R.ORDER_CTRL 0 false
    let b : Boot :=
     {
      soc := s.boot.soc, aon := s.boot.aon, resetN := s.boot.resetN, cold := false, causes := causes ||| causesDue s, internalOsc := s.boot.internalOsc,
      straps := s.boot.straps, phase := .scrub }
    trngRestart (strapSample (logUnit { t with boot := b } true Code.RESET 0 (word causes)))

/-! Power and pins -/

/-- VDD_SOC_POWER_ON (R20, R611, R671): VDD_SOC becomes valid; a cold reset. -/
def execVddSocPowerOn (s : State) : Out :=
  if s.boot.soc ∨ !s.boot.aon then .next s
  else .next (coldReset { s with boot := { s.boot with soc := true, low := false, wakeDue := false, wakeReady := false } } Cause.POR false)

/-- BROWN_OUT (R671): VDD_SOC is lost; in DORMANT the board has removed it. -/
def execBrownOut (s : State) : Out :=
  if s.boot.dormant then .next { s with boot := { s.boot with soc := false } }
  else if s.boot.soc then .next (coldReset { s with boot := { s.boot with soc := false } } Cause.POR false)
  else .next s

/-- Registers of the always-on domain at their VDDIO_AON power-on values. -/
def aonClear (s : State) : State :=
  { s with regs := s.regs.filter (fun e => match regAt e.1 with
      | some (row, _) => row.keep ≠ .always
      | none => true)
           ring2 := {}, mem := s.mem.filter fun e => regionOf s e.1 ≠ .retention }

/-- VDDIO_AON_POWER_ON (R20, R22): a cold reset, and the always-on domain is cleared. -/
def execVddioAonPowerOn (s : State) : Out :=
  if s.boot.aon then .next s
  else
    let s := aonClear { s with boot := { s.boot with aon := true, dormant := false, pwrEn := true, low := false,
                                                     wakeDue := false, wakeReady := false, wake := false, internalOsc := false } }
    .next (coldReset s (Cause.AON_POR + (if s.boot.soc then 0 else Cause.POR)) false)

/-- VDDIO_AON_LOSS (R671): the always-on domain is lost and the device holds itself in cold reset. -/
def execVddioAonLoss (s : State) : Out :=
  if s.boot.aon then
    let s := aonClear { s with boot := { s.boot with aon := false } }
    .next (coldReset s Cause.AON_POR false)
  else .next s

/-- RESET_N_LOW (R672): a pulse of 2 µs or longer starts a cold reset; in DORMANT it is no event (R664). -/
def execResetNLow (s : State) : Out :=
  let s := { s with boot := { s.boot with resetN := false } }
  if s.boot.dormant then .next s
  else
    let slot : Bool := s.boot.phase = .retry
    .next (coldReset s Cause.PIN slot)

/-- RESET_N_RISE (R64, R84, R666): the straps are sampled, and the start may proceed. -/
def execResetNRise (straps : BitVec 6) (testMode : Bool) (s : State) : Out :=
  if s.boot.resetN then .next s
  else
    let s := { s with boot := { s.boot with resetN := true, straps := straps, testMode := testMode } }
    let s := strapSample s
    .next (if startOk s ∧ s.boot.phase = .held then { s with boot := { s.boot with phase := .ready } } else s)

/-- RESET_SCRUB_DONE (R23): the scrubs of a warm reset end. -/
def execResetScrubDone (s : State) : Out :=
  if s.boot.phase = .scrub then .next { s with boot := { s.boot with phase := .ready } } else .next s

/-! Software reset -/

/-- A write of SYSCON_RESET_REQ. -/
def resetReq (s : State) (r : Req) (w : Wr) : State :=
  if ¬ r.machine ∨ w.bits 31 16 ≠ 0x5A17 then logReq s 1 Code.RESET_REFUSED r (word R.SYSCON_RESET_REQ) 0
  else match w.bits 1 0 with
  | 1 => warmReset s Cause.SW_WARM
  | 2 => coldReset s Cause.SW_COLD false
  | _ => s

/-- SW_WARM_RESET (R20). -/
def execSwWarmReset (q : RegAcc) (s : State) : Out := .next (onWrite s q R.SYSCON_RESET_REQ fun r w => resetReq s r w)
/-- SW_COLD_RESET (R20). -/
def execSwColdReset (q : RegAcc) (s : State) : Out := .next (onWrite s q R.SYSCON_RESET_REQ fun r w => resetReq s r w)

/-- WDT_FINAL_EXPIRY (R629): a warm reset. The final stage runs only once the first has fired. -/
def execWdtFinalExpiry (s : State) : Out :=
  if rbit s R.WDT_CTRL 0 ∧ rbit s R.WDT_STAT 2 ∧ ¬ wdtPaused s then
    .next (warmReset (logUnit s true Code.WDT_FINAL 0 0) Cause.WDT)
  else .next s

/-! Wedges and part resets (R24, R306, R307) -/

/-- Core p wedges: it stops issuing, and PCC and LOG record it. -/
def wedge (s : State) (p : Nat) (ecause : Word) : State :=
  let s := modCore s p fun c => { c with phase := .wedged, event := none, bundle := [], stall := none }
  let s := rcount (rputb s R.PCC_WEDGE p true) R.PCC_WEDGECNT 1
  logUnit s true Code.WEDGE (word p) ecause

/-- The part reset of control core p. -/
def ccPartReset (s : State) (p : Nat) : State :=
  let id := BitVec.ofNat 8 p
  let s := setCore s p { phase := .partReset }
  let s := rputb s R.SYSCON_CC_RELEASE p false
  eicRepend (cxHolderGone (bungBreakAll s id) id) p

/-- PART_RESET (R20, R22, R24, R306): the part reset of a wedged core; of a control core it is a warm reset while the
other is halted after a part reset or wedged. -/
def execPartReset (p : Fin 14) (s : State) : Out :=
  if (coreOf s p).phase ≠ .wedged then .next s
  else if p.val < 2 then
    let o := (coreOf s (1 - p.val)).phase
    .next (if o = .partReset ∨ o = .wedged then warmReset s Cause.WEDGE_WARM else ccPartReset s p)
  else .next (tunEvent s p 1 true 0 .partReset)

/-- The stack pointer of an escalation on control core p (R304). -/
def escSp (s : State) (p : Nat) : Nat := rbits s R.PART_ESC_SP 39 4 * 16 - p * 0x1000

/-- A part-reset control core restarts at PART_ESC_PC (R307). -/
def ccRestart (s : State) (p : Nat) : State :=
  let c : Core := { phase := .running, pc := rbits s R.PART_ESC_PC 39 2 * 4 }
  let c := { c with g := mset c.g (64 + 3) (word (escSp s p)), creg := [(1, 7 + 0x80), (2, 0), (3, word (2 ^ 30))] }
  rputb (setCore s p c) R.SYSCON_CC_RELEASE p true

/-- A write of SYSCON_CC_RELEASE (R24 and its table). -/
def ccRelease (s : State) (r : Req) (w : Wr) : State :=
  [0, 1].foldl (fun s p =>
    if !(w.one p) then s
    else match (coreOf s p).phase with
    | .partReset => if r.who = .cc (Fin.ofNat 2 (1 - p)) then ccRestart s p else s
    | .held =>
      if p = 1 ∧ ¬ rbit s R.SYSCON_CC_RELEASE 1 then
        rputb (setCore s 1 { phase := .running, pc := rbits s R.SYSCON_CC1_VECTOR 39 2 * 4 }) R.SYSCON_CC_RELEASE 1 true
      else s
    | _ => s) s

/-- A write of SYSCON_TUN_RELEASE (R153, R357). -/
def tunRelease (s : State) (w : Wr) : State :=
  if w.one 0 ∧ ¬ rbit s R.SYSCON_TUN_RELEASE 0 then
    let s := rputb s R.SYSCON_TUN_RELEASE 0 true
    let pc := rbits s R.SYSCON_TUN_VECTOR 39 2 * 4
    steepBegin ((aliveTuns s).foldl (fun s p => setCore s p (freshTun pc false)) s)
  else s

/-- CC0_RELEASE (R24, R307). -/
def execCc0Release (q : RegAcc) (s : State) : Out := .next (onWrite s q R.SYSCON_CC_RELEASE fun r w => ccRelease s r w)
/-- CC1_RELEASE (R24, R307). -/
def execCc1Release (q : RegAcc) (s : State) : Out := .next (onWrite s q R.SYSCON_CC_RELEASE fun r w => ccRelease s r w)
/-- TUN_RELEASE (R153, R357). -/
def execTunRelease (q : RegAcc) (s : State) : Out := .next (onWrite s q R.SYSCON_TUN_RELEASE fun _ w => tunRelease s w)

/-! SYSCON's registers -/

/-- A guard register's control core and level (R301). -/
def guardOf (a : Nat) : Option (Nat × Nat) :=
  if 0x40001000 ≤ a ∧ a < 0x40002000 then some ((a - 0x40001000) / 0x800, (a - 0x40001000) % 0x800 / 0x200) else none

/-- A guard write (R302). -/
def guardWrite (s : State) (r : Req) (a : Nat) (lvl : Nat) (w : Wr) : State :=
  if r.level = .m ∨ (r.level = .s ∧ lvl < 2) then genericWrite s r a w
  else logReq s 1 Code.SEALED_WRITE r (word a) 0

def sysWrite (s : State) (r : Req) (a : Nat) (w : Wr) : State :=
  match guardOf a with
  | some (_, l) => guardWrite s r a l w
  | none =>
    if a = R.SYSCON_RESET_REQ then resetReq s r w
    else if a = R.SYSCON_CC_RELEASE then ccRelease s r w
    else if a = R.SYSCON_TUN_RELEASE then tunRelease s w
    else genericWrite s r a w

/-- SYSCON_CAPS0 and SYSCON_CAPS1 by variant. -/
def caps (s : State) (i : Nat) : Nat :=
  match s.variant with
  | .zm8640 => if i = 0 then 0x008910BC else 0x00004FAC
  | .zm8620 => if i = 0 then 0x00891058 else 0x00002052
  | .zm8610 => if i = 0 then 0x00448844 else 0x00000040

def sysRead (s : State) (r : Req) (a : Nat) (m : Word) : State × Word :=
  if a = R.SYSCON_ID then (s, word (syscon_id s))
  else if a = R.SYSCON_CAPS0 then (s, word (caps s 0))
  else if a = R.SYSCON_CAPS1 then (s, word (caps s 1))
  else if a = R.SYSCON_SELF then (s, match r.who with | .cc p => word p.val | _ => 0xF)
  else if a = R.SYSCON_PROMISE then
    (s, setBit (rget s a) 0 (steepPaused s || decide ((aliveTuns s).length < 3)))
  else if a = R.SYSCON_CC_RELEASE then
    (s, word ([0, 1].foldl (fun v p => v + (if (coreOf s p).phase = .running then 2 ^ p else 0)) 0))
  else genericRead s r a m

/-! PART -/

/-- Bits of a PART register that boot code may change on the variant: fixed-secure and split units, absent tuns and
sparge channels keep theirs (R36). -/
def partMask (s : State) (a : Nat) : Word :=
  if a = R.PART_UNIT_OWN then
    (fixedSecure ++ splitUnits).foldl (fun m k => setBit m k false) (mask 35 0)
  else if a = R.PART_SPG_OWN then mask (spargeChannels s - 1) 0
  else if a = R.PART_TUN_SECURE ∨ (R.PART_FK_TUN 0 ≤ a ∧ a < R.PART_FK_TUN 16) then procMask s &&& mask 13 2
  else ~~~ 0#64

/-- Entries in use that break a rule of R39, R129 or R149 are logged at seal. -/
def sealEntries (s : State) : State :=
  (List.range 32).foldl (fun s i =>
    if rgnUsed s i && rgnBad s i then logUnit s true Code.PART_ENTRY_BAD (word i) 0 else s) s

/-! The wake record (R80) and the output gate (R77) -/

/-- The 48 bytes that stand for the 16 Keeve counters. -/
def counterDigest (s : State) : List Byte :=
  sha384 (((List.range 16).map fun i => leBytes 4 (keeveCounter s i)).flatten)

/-- The wake record of this boot. -/
def wakeRecord (s : State) : List Byte :=
  let b := s.boot
  let body := sub (leBytes 4 0x574B5231 ++ leBytes 1 (b2n (rbit s R.AON_BOOT_STATUS 6)) ++ leBytes 1 b.images.length ++
    [0, 0] ++ counterDigest s ++ sub b.digest0 0 48 ++ sub b.digest1 0 48 ++ b.images.flatten) 0 0x7D0
  body ++ hmac384 (wakeKey s) body

/-! SUNDIK's ports, as the gate sees them -/

def port (s : State) (n : Nat) : SdkPort := mget s.sdk n {}
def setPort (s : State) (n : Nat) (p : SdkPort) : State := { s with sdk := mset s.sdk n p }
def modPort (s : State) (n : Nat) (f : SdkPort → SdkPort) : State := setPort s n (f (port s n))

def portState (s : State) (n : Nat) : Nat := rbits s (R.SDK_PSTATE n) 2 0
def sdkSecure (s : State) : Bool := unitSecure s 0x1B
/-- A sticky bit of SDK_STAT or SDK_PEVTn is set: its code is logged on its first event, and EIC 206 pends where its IRQ
bit is set: bit i of IRQ serves bit i of SDK_PEVT, bit 7 the bits of SDK_STAT (R554; log entry 40). -/
def sdkSticky (s : State) (a i irq : Nat) (code : Option Nat) (arg : Word) : State :=
  if rbit s a i then s
  else
    let s := rputb s a i true
    let s := match code with
      | some c => logUnit s (sdkSecure s) c arg 0
      | none => s
    if rbit s R.SDK_CFG (8 + irq) then edge s 206 else s

def setPortState (s : State) (n k : Nat) : State :=
  if portState s n = k then s
  else sdkSticky (rput s (R.SDK_PSTATE n) 2 0 k) R.SDK_STAT 8 7 (some Code.SDK_LINK) (word n)

/-- A link-boot client's port leaves BOOT for LOCK when the gate opens (R526, R551). -/
def sdkGateOpened (s : State) : State :=
  [0, 1].foldl (fun s n =>
    if portState s n = 5 then
      setPortState (modPort s n fun p => { p with aligns := 0, ts2 := 0, fromUp := false, replay := [], waiting := [] }) n 2
    else s) s

/-- The output gate opens (R77); on a full-path boot Copper writes the wake record (R80). -/
def gateOpen (s : State) : State :=
  let s := sdkGateOpened (rputb s R.AON_BOOT_STATUS 7 true)
  if rbit s R.AON_BOOT_STATUS 10 then s else writeBytes s 0x0F00F800 (wakeRecord s)

def gateIsOpen (s : State) : Bool := rbit s R.AON_BOOT_STATUS 7

/-- A write of PART_SEAL (R47, R77). -/
def partSeal (s : State) (r : Req) (w : Wr) : State :=
  let ph := rbits s R.PART_PHASE 1 0
  let deny := logReq s 1 Code.SEALED_WRITE r (word R.PART_SEAL) 0
  if w.bits 31 16 ≠ 0x5EA1 then deny
  else match w.bits 1 0 with
  | 1 =>
    if ph = 0 ∧ r.who = .cc 0 ∧ r.machine ∧ (coreOf s 0).pc < 0x20000 then rput s R.PART_PHASE 1 0 1 else deny
  | 2 =>
    if ph = 1 ∧ bootCode s r then
      let s := sealEntries (rput s R.PART_PHASE 1 0 2)
      if s.boot.called ∨ gateIsOpen s then s else gateOpen s
    else deny
  | _ => deny

def partWrite (s : State) (r : Req) (a : Nat) (w : Wr) : State :=
  if a = R.PART_SEAL then partSeal s r w else genericWrite s r a ⟨w.v, w.m &&& partMask s a⟩

def partRead (s : State) (r : Req) (a : Nat) (m : Word) : State × Word :=
  if a = R.PART_LIFECYCLE then (s, word (lifecycle s * 16 + s.otp.lifecycle.toNat))
  else genericRead s r a m

/-- SEAL_STEP1 (R47). -/
def execSealStep1 (q : RegAcc) (s : State) : Out := .next (onWrite s q R.PART_SEAL fun r w => partSeal s r w)
/-- SEAL_STEP2 (R47, R77, R129). -/
def execSealStep2 (q : RegAcc) (s : State) : Out := .next (onWrite s q R.PART_SEAL fun r w => partSeal s r w)

/-! DEBUG (R58 to R63) -/

/-- A read of DEBUG_CHALLENGE0 issues a new challenge (R58). -/
def dbgChallenge (s : State) : State :=
  let (l, s) := freeBytes s 16
  let s := (List.range 4).foldl (fun s i => rset s (R.DEBUG_CHALLENGE i) (word (fieldAt l (4 * i) 4))) s
  let s := rput s R.DEBUG_STATUS 3 2 0
  { s with dbg := { s.dbg with valid := true } }

def dbgChallengeBytes (s : State) : List Byte :=
  ((List.range 4).map fun i => leBytes 4 (rget s (R.DEBUG_CHALLENGE i)).toNat).flatten

/-- The token in DEBUG's buffer. -/
def dbgToken (s : State) : List Byte :=
  ((List.range 1024).map fun i => leBytes 8 (rget s (R.DEBUG_TOKEN i)).toNat).flatten

/-- A write of DEBUG_TOKEN_GO: verification starts, unless token entry is locked. -/
def dbgGo (s : State) (w : Wr) : State :=
  if w.one 0 ∧ ¬ rbit s R.DEBUG_STATUS 8 then { s with dbg := { s.dbg with busy := true } } else s

/-- Whether a token is accepted (R58, R59). -/
def tokenOk (s : State) (l : List Byte) : Bool :=
  let kind := fieldAt l 4 1
  let root := fieldAt l 5 1
  let hash := sha384 (sub l 0x20 0x808)
  let keyOk : Bool := if kind = 2 then root = 0 && hash == s.otp.vendorHash && !s.otp.vendorHash.isEmpty
    else if kind = 1 then root < 4 && (match keeveRoot s root with
      | some e => !e.revoked && hash == e.hash
      | none => false)
    else false
  fieldAt l 0 4 = 0x4B544431 && fieldAt l 6 2 = 0 && sub l 8 8 = deviceId s && s.dbg.valid &&
  sub l 0x10 16 == dbgChallengeBytes s && !(rbit s R.DEBUG_STATUS (1 + kind)) && keyOk &&
  hybridEcdsa l 0x20 0x828 && hybridMlDsa l 0x20 0x828

/-- What the tokens held open, by lifecycle (R60). -/
def openFor (life : Nat) (maker vendor : Bool) : Nat :=
  match life with
  | 0 => 2
  | 1 => if vendor then 2 else 0
  | 4 => if vendor then 2 else if maker then 1 else 0
  | _ => if maker && vendor then 2 else if maker then 1 else 0

/-- A rejected token: the challenge is withdrawn and FAILS rises; the eighth locks (R62). -/
def tokenReject (s : State) : State :=
  let n := min 8 (rbits s R.DEBUG_STATUS 7 4 + 1)
  let s := rput (rput s R.DEBUG_STATUS 7 4 n) R.DEBUG_STATUS 3 2 0
  let s := if n = 8 then rputb s R.DEBUG_STATUS 8 true else s
  logUnit { s with dbg := { s.dbg with valid := false } } true Code.DEBUG_AUTH_FAIL (word n) 0

/-- Verification of the token in the buffer ends (R59, R60, R62). -/
def tokenDone (s : State) : State :=
  if !s.dbg.busy then s
  else
    let s := { s with dbg := { s.dbg with busy := false } }
    let l := dbgToken s
    if tokenOk s l then
      let s := rputb s R.DEBUG_STATUS (1 + fieldAt l 4 1) true
      rput s R.DEBUG_STATUS 1 0 (openFor (lifecycle s) (rbit s R.DEBUG_STATUS 2) (rbit s R.DEBUG_STATUS 3))
    else tokenReject s

def dbgLock (s : State) (w : Wr) : State :=
  if w.one 0 then rput (rput s R.DEBUG_STATUS 1 0 0) R.DEBUG_STATUS 3 2 0 else s

/-- A lifecycle change closes debug and withdraws the challenge (R58, R60). -/
def dbgClose (s : State) : State :=
  { rput (rput s R.DEBUG_STATUS 1 0 0) R.DEBUG_STATUS 3 2 0 with dbg := { s.dbg with valid := false } }

def dbgWrite (s : State) (r : Req) (a : Nat) (w : Wr) : State :=
  if a = R.DEBUG_TOKEN_GO then dbgGo s w
  else if a = R.DEBUG_LOCK then dbgLock s w
  else genericWrite s r a w

def dbgRead (s : State) (r : Req) (a : Nat) (m : Word) : State × Word :=
  if a = R.DEBUG_CHALLENGE 0 then let t := dbgChallenge s; (t, rget t a)
  else if a = R.DEBUG_STATUS then (s, setBits (rget s a) 1 0 (debugOpen s))
  else genericRead s r a m

/-- DEBUG_CHALLENGE_READ (R58). -/
def execDebugChallengeRead (q : RegAcc) (s : State) : Out :=
  .next (onRead s q (R.DEBUG_CHALLENGE 0) fun _ => (dbgChallenge s, rget (dbgChallenge s) (R.DEBUG_CHALLENGE 0)))
/-- DEBUG_TOKEN_GO (R59). -/
def execDebugTokenGo (q : RegAcc) (s : State) : Out := .next (onWrite s q R.DEBUG_TOKEN_GO fun _ w => dbgGo s w)
/-- DEBUG_TOKEN_DONE (R59, R60, R62). -/
def execDebugTokenDone (s : State) : Out := .next (tokenDone s)
/-- DEBUG_LOCK (R60). -/
def execDebugLock (q : RegAcc) (s : State) : Out := .next (onWrite s q R.DEBUG_LOCK fun _ w => dbgLock s w)

/-- JTAG_INSTRUCTION_LOAD (R63, R666): EXTEST and INTEST load as BYPASS outside their states. -/
def execJtagInstructionLoad (j : JtagI) (s : State) : Out :=
  let set (s : State) (n : Nat) : State := { s with dbg := { s.dbg with ir := n } }
  let free : Bool := rbit s R.AON_BOOT_STATUS 2 || lifecycle s = 0 || lifecycle s = 1 || lifecycle s = 4
  match j with
  | .bypass => .next (set s 0)
  | .idcode => .next (set s 1)
  | .sample => .next (set s (if s.boot.testMode then 0 else 2))
  | .extest | .intest =>
    if s.boot.testMode then .next (set s 0)
    else if free then .next (set s (if j = .extest then 3 else 4))
    else .next (logUnit (set s 0) true Code.JTAG_REFUSED 0 0)

/-- DEBUG_HALT_REQUEST (R61): a core halts; a tun running firkin code holds the request. -/
def execDebugHaltRequest (p : Fin 14) (s : State) : Out :=
  let c := coreOf s p
  if debugOpen s = 0 ∨ c.phase ≠ .running then .next s
  else if 2 ≤ p.val ∧ bit (creg p c 1) 3 then .next (setCore s p { c with haltHeld := true })
  else if debugWorld s = .normal ∧ coreWorld p c = .secure then .next s
  else .next (setCore s p { c with phase := .halted })

/-- DEBUG_HALT (R61): a held halt is taken once the tun's firkin order has ended. -/
def execDebugHalt (p : Fin 14) (s : State) : Out :=
  let c := coreOf s p
  if c.haltHeld ∧ c.order.isNone ∧ c.phase = .running then .next (setCore s p { c with phase := .halted, haltHeld := false })
  else .next s

/-- DEBUG_RESUME (R631). -/
def execDebugResume (p : Fin 14) (s : State) : Out :=
  let c := coreOf s p
  if c.phase = .halted then .next (setCore s p { c with phase := .running }) else .next s

end Sys2Proof.Machine
end

