-- ==== Sys2Proof/Machine/SdkLink.lean ====
section
/-! DEFINITION. SUNDIK's link layer: port states, numbering, cells with their sequence, replay, credits and sealing,
authentication, routing (R517 to R537, R551 to R554). What a delivered cell does stands in SdkCells.lean. -/
namespace Sys2Proof.Machine

/-- Port states (R526). -/
abbrev PS.DOWN : Nat := 0
abbrev PS.DETECT : Nat := 1
abbrev PS.LOCK : Nat := 2
abbrev PS.NUMBER : Nat := 3
abbrev PS.AUTH : Nat := 4
abbrev PS.BOOT : Nat := 5
abbrev PS.UP : Nat := 6

def myDev (s : State) : Nat := rbits s R.SDK_STAT 2 0
def numbered (s : State) : Bool := rbit s R.SDK_STAT 3
def isMaster (s : State) : Bool := rbit s R.SDK_CFG 1

/-- The device serves as a link-boot client: strapped for it, its output gate closed, out of reset (R65, R82). -/
def linkClient (s : State) : Bool :=
  unitPresent s 0x1B && rbits s R.AON_BOOT_STATUS 2 0 = 1 && !(gateIsOpen s) && outOfReset s

def portEvt (s : State) (n i : Nat) (code : Option Nat) : State := sdkSticky s (R.SDK_PEVT n) i i code (word n)

/-- The port that SDK_ROUTE names for a device: none for 0 and 3. -/
def routeOf (s : State) (d : Nat) : Option Nat :=
  match rbits s R.SDK_ROUTE (2 * d + 1) (2 * d) with
  | 1 => some 0
  | 2 => some 1
  | _ => none

/-! Cells -/

/-- CRC-32C over a list of bytes (R523). -/
def crc32c (l : List Byte) : Nat :=
  let step (c : Nat) (b : Byte) : Nat :=
    (List.range 8).foldl (fun c _ => if c % 2 = 1 then (c / 2) ^^^ 0x82F63B78 else c / 2) (c ^^^ b.toNat)
  (l.foldl step 0xFFFFFFFF) ^^^ 0xFFFFFFFF

def cType (c : List Byte) : Nat := fieldAt c 0 1
def cSrc (c : List Byte) : Nat := fieldAt c 1 1 % 8
def cDst (c : List Byte) : Nat := fieldAt c 1 1 / 8 % 8
def cSealed (c : List Byte) : Bool := fieldAt c 1 1 / 64 % 2 = 1
def cLast (c : List Byte) : Bool := fieldAt c 1 1 / 128 = 1
def cSeq (c : List Byte) : Nat := fieldAt c 2 2
def cTag (c : List Byte) : Nat := fieldAt c 7 1
def cPay (c : List Byte) : List Byte := sub c 8 28

/-- A cell before it is sent: header without SEQ, ACK and credits, and its plaintext payload. -/
def mkCell (typ src dst : Nat) (sealed last : Bool) (tag : Nat) (pay : List Byte) : List Byte :=
  leBytes 1 typ ++ leBytes 1 (src + 8 * dst + 64 * b2n sealed + 128 * b2n last) ++ [0, 0, 0, 0, 0] ++ leBytes 1 tag ++
    sub pay 0 28

/-- Whether a type carries a SEQ, and its credit class (R524). -/
def cellSeqd (t : Nat) : Bool := t ∈ [0x01, 0x08, 0x09, 0x10, 0x11, 0x12, 0x30, 0x38, 0x39]
def cellClass (t : Nat) : Nat := match t with | 0x01 => 0 | 0x08 => 1 | 0x09 | 0x12 | 0x39 => 3 | _ => 2
/-- The types that stay on their link (R537). -/
def cellLocal (t : Nat) : Bool := t ∈ [0x00, 0x20, 0x21, 0x22, 0x28, 0x30]

/-- Credits of each class (R532). -/
def fullCredit : Map Nat := [(0, 64), (1, 8), (2, 32), (3, 32)]

/-- The IV of a sealed cell (R536). -/
def cellIv (dir : Bool) (null : Bool) (ups ext : Nat) : List Byte :=
  beBytes 12 (b2n dir * 2 ^ 95 + b2n null * 2 ^ 94 + (if null then ups % 2 ^ 30 else 0) * 2 ^ 64 + ext)

def cellAad (c : List Byte) : List Byte := c.take 4 ++ sub c 7 1

/-- A cell's payload sealed: 20 bytes of ciphertext and the 8 leading bytes of the tag. -/
def cellSeal (key iv c : List Byte) : List Byte :=
  let ct := gcmCrypt key iv (sub c 8 20)
  c.take 8 ++ ct ++ (gcmTag key iv (cellAad c) ct).take 8

/-- A sealed cell opened: the cell with its plaintext payload. -/
def cellOpen (key iv c : List Byte) : Option (List Byte) :=
  let ct := sub c 8 20
  if (gcmTag key iv (cellAad c) ct).take 8 = sub c 28 8 then some (c.take 8 ++ gcmCrypt key iv ct ++ List.replicate 8 0)
  else none

/-- A cell leaves on the port's lanes, with its CRC. -/
def sdkWire (s : State) (n : Nat) (c : List Byte) : State :=
  { s with wire := mset s.wire (0x1B0 + n) ((c ++ leBytes 4 (crc32c c)).map (·.setWidth 64)) }

/-- The credit byte of the next cell: the lowest class with credits to return, at most 63 of them. -/
def takeOwed (p : SdkPort) : SdkPort × Nat :=
  match [0, 1, 2, 3].find? fun k => mget p.owed k 0 ≠ 0 with
  | none => (p, 0)
  | some k =>
    let c := min 63 (mget p.owed k 0)
    ({ p with owed := mset p.owed k (mget p.owed k 0 - c), peer := mset p.peer k (mget p.peer k 0 + c) }, k + 4 * c)

/-- The header fields that a cell takes as it is sent. -/
def stampCell (p : SdkPort) (seq : Nat) (c : List Byte) : SdkPort × List Byte :=
  let (p, cr) := takeOwed p
  (p, c.take 2 ++ leBytes 2 seq ++ leBytes 2 (p.x % 65536) ++ leBytes 1 cr ++ c.drop 7)

/-- A sequenced cell that has credit is sent, and held for replay (R528, R529, R532). -/
def sendSeqd (s : State) (n : Nat) (c : List Byte) : State :=
  let p := port s n
  let k := cellClass (cType c)
  let ext := p.next
  let (p, c) := stampCell p (ext % 65536) c
  let c := if cSealed c then cellSeal p.txKey (cellIv (!p.lower) false 0 ext) c else c
  let p := { p with next := ext + 1, replay := mset p.replay ext c, credit := mset p.credit k (mget p.credit k 0 - 1) }
  sdkWire (setPort s n p) n c

/-- Whether the port carries a cell of a type in its state. -/
def portCarries (s : State) (n t : Nat) : Bool :=
  match portState s n with
  | 4 => t ∈ [0x00, 0x28, 0x30]
  | 5 => t ∈ [0x00, 0x28, 0x38, 0x39]
  | 6 => true
  | _ => false

/-- The extended sequence at which a port in UP waits for its ACKs and then takes new keys, before 2^32 (R536; DESIGN CHOICE, log
entry 43). -/
def lastSeq : Nat := 2 ^ 32 - 1

/-- Waiting cells leave in order while their classes have credit; a RESPONSE never waits on another class, and cells of a type that the
port does not carry in its state stay. -/
def sdkFlush (s : State) (n : Nat) : State :=
  let q := (port s n).waiting
  let r := q.foldl (fun (st : State × List (List Byte) × Bool × Bool) c =>
    let k := cellClass (cType c)
    let blocked := if k = 3 then st.2.2.2 else st.2.2.1
    let p := port st.1 n
    if !(portCarries st.1 n (cType c)) then (st.1, st.2.1 ++ [c], st.2.2)
    else if !blocked && decide (mget p.credit k 0 ≠ 0 ∧ p.replay.length < 4096 ∧ p.next < lastSeq) then
      (sendSeqd st.1 n c, st.2)
    else (st.1, st.2.1 ++ [c], st.2.2.1 || decide (k ≠ 3), st.2.2.2 || decide (k = 3))) (s, [], false, false)
  modPort r.1 n fun p => { p with waiting := r.2.1 }

/-- A sequenced cell is given to port n. -/
def sdkSend (s : State) (n : Nat) (c : List Byte) : State :=
  sdkFlush (modPort s n fun p => { p with waiting := p.waiting ++ [c] }) n

/-- An unsequenced cell leaves at once. -/
def sdkRaw (s : State) (n typ : Nat) (pay : List Byte) : State :=
  let (p, c) := stampCell (port s n) 0 (mkCell typ (myDev s) 0 false false 0 pay)
  sdkWire (setPort s n p) n c

/-- The sealed NULL that follows a return to UP (R531). -/
def sendSealedNull (s : State) (n : Nat) : State :=
  let (p, c) := stampCell (port s n) 0 (mkCell 0 (myDev s) 0 true false 0 [])
  sdkWire (setPort s n p) n (cellSeal p.txKey (cellIv (!p.lower) true p.ups p.next) c)

/-- A NAK of X (R528). -/
def sendNak (s : State) (n : Nat) : State :=
  sdkRaw (rcount s (R.SDK_NAKTX n) 1) n 0x28 (leBytes 2 ((port s n).x % 65536))

/-- Held cells from extended SEQ `e` on are resent byte for byte: one episode (R529). -/
def sdkResend (s : State) (n e : Nat) : State :=
  ((port s n).replay.filter fun x => e ≤ x.1).foldl (fun s x => sdkWire s n x.2) (rcount s (R.SDK_REPLAY n) 1)

/-- Held cells before the 16-bit SEQ `a` are passed by an ACK. -/
def sdkAck (p : SdkPort) (a : Nat) : SdkPort :=
  match p.replay with
  | [] => p
  | (o, _) :: _ =>
    let d := (a + 65536 - o % 65536) % 65536
    if d ≤ p.replay.length then { p with replay := p.replay.drop d } else p

/-- Returned credits. -/
def sdkCredits (p : SdkPort) (b : Nat) : SdkPort :=
  { p with credit := if b / 4 = 0 then p.credit else mset p.credit (b % 4) (mget p.credit (b % 4) 0 + b / 4) }

/-! DOWN and retrains -/

/-- Requests through port n end unanswered, and forwarded doorbells are lost (R541, R542, R552). -/
def portCut (s : State) (n : Nat) : State :=
  let via (q : RemReq) : Bool := (match q.dev with | some d => routeOf s d = some n | none => false) && q.answer.isNone
  let hit := s.remote.any via
  let s := { s with remote := s.remote.map fun q => if via q then { q with answer := some (.inl .unmappedAddr) } else q }
  let s := if hit then sdkSticky s R.SDK_STAT 11 7 (some Code.SDK_TIMEOUT) (word n) else s
  if rbits s R.SDK_OFWDSTAT 1 0 = 1 ∧ routeOf s (rbits s R.SDK_OFWD 18 16) = some n then rput s R.SDK_OFWDSTAT 1 0 3 else s

/-- Port n goes DOWN; `wait` where a wait before DETECT runs, `hold` where its number holds it. -/
def portDown (s : State) (n : Nat) (wait hold : Bool) : State :=
  if portState s n = PS.DOWN then s
  else
    let s := portEvt (setPortState s n PS.DOWN) n 6 none
    portCut (setPort s n { down := wait, held := hold }) n

/-- Port n leaves for LOCK to train again; a return to UP keeps the replay buffer, X and the keys (R531, R553). -/
def portRetrain (s : State) (n : Nat) : State :=
  let p := port s n
  if portState s n < PS.LOCK then s
  else
    let s := portEvt (rcount s (R.SDK_RETRAINS n) 1) n 5 none
    if 2 ≤ p.retrains then portDown s n true false
    else
      let up : Bool := portState s n = PS.UP || p.fromUp
      setPortState (setPort s n { p with
        fromUp := up, retrains := p.retrains + 1, aligns := 0, ts2 := 0, bad := [], naks := 0, nullDue := false })
        n PS.LOCK

/-- A port in UP whose extended sequence is used up, with every cell acknowledged, trains again with a full AUTH (R536). -/
def portRekey (s : State) (n : Nat) : State :=
  let p := port s n
  if portState s n = PS.UP ∧ lastSeq ≤ p.next ∧ p.replay = [] then modPort (portRetrain s n) n fun p => { p with fromUp := false }
  else s

/-! Numbering (R518) -/

def portNumber (s : State) (n : Nat) (b : BitVec 24) : State :=
  let off := b.toNat / 256 % 16
  let fromPort1 : Bool := b.toNat / 32 % 2 = 1
  if n = 0 then
    if off = 15 ∨ !fromPort1 then s
    else if isMaster s then
      portDown (sdkSticky s R.SDK_STAT 10 7 (some Code.SDK_NUMBER) (word n)) n false true
    else if 8 ≤ off then portDown (logUnit s (sdkSecure s) Code.SDK_NUMBER (word n) 0) n false true
    else rset (rput s R.SDK_STAT 3 0 (8 + off)) (R.SDK_PPEER 0) (word (off - 1))
  else if numbered s then rset s (R.SDK_PPEER 1) (word (myDev s + 1)) else s

/-! Authentication (R533 to R535) -/

/-- The device's own certificate, from the Keeve window. -/
def sdkCert (s : State) : List Byte :=
  (List.range 5600).map fun i => keeveByte s (rbits s R.SDK_CERT 17 3 * 8 + i)

/-- A certificate's fields, key hash and signatures hold for this device's maker slots (R534). -/
def certOk (s : State) (c : List Byte) : Bool :=
  fieldAt c 0 4 = 0x53444331 && isZero (sub c 5 3) && isZero (sub c 0x14 12) && isZero (sub c 0x81 7) &&
  isZero (sub c 0xE9 7) && isZero (sub c 0x15DD 3) &&
  (match keeveRoot s (fieldAt c 4 1) with
   | some e => decide (fieldAt c 4 1 < 4) && !e.revoked && sha384 (sub c 0x88 0x808) == e.hash
   | none => false) &&
  hybridEcdsa c 0x88 0x890 && hybridMlDsa c 0x88 0x890

/-- Two values of the two sides, the lower DEVICE_ID's first. -/
def lowFirst (p : SdkPort) (own peer : List Byte) : List Byte := if p.lower then own ++ peer else peer ++ own

/-- The bytes over which the transcript signature runs. -/
def transcript (s : State) (p : SdkPort) : List Byte :=
  lowFirst p p.nonce (sub p.got 5600 32) ++ lowFirst p (Config.ecPublic 384 p.eph) (sub p.got 5632 97) ++
    lowFirst p (deviceId s) (sub p.got 8 8)

/-- AUTH cells of one message, the last marked LAST. -/
def authCells (s : State) (l : List Byte) : List (List Byte) :=
  let bs := blocks 28 l
  bs.zipIdx.map fun (b, i) => mkCell 0x30 (myDev s) 0 false (i + 1 = bs.length) 0 b

/-- Entry to AUTH from NUMBER: full credits, sequences from zero, this side's message; cells that still wait go after UP. -/
def enterAuth (s : State) (n : Nat) : State :=
  let (nonce, s) := freeBytes s 32
  let (eph, s) := freeBytes s 48
  let p : SdkPort :=
   {
    credit := fullCredit, peer := fullCredit, offered := (port s n).offered, retrains := (port s n).retrains, nonce := nonce,
    eph := eph,
    waiting := authCells s (sdkCert s ++ nonce ++ Config.ecPublic 384 eph) ++ (port s n).waiting.filter fun c => cType c ≠ 0x30 }
  sdkFlush (setPortState (setPort s n p) n PS.AUTH) n

/-- The bytes of AUTH messages that have arrived: the first message whole, and the signature whole. -/
def authWhole (p : SdkPort) : Bool := decide (5729 ≤ p.got.length)
def authSigned (p : SdkPort) : Bool := decide (5729 + 96 ≤ p.got.length)

/-- 28 bytes of the peer's message arrive; a whole first message is answered with the transcript signature (R533). -/
def authBytes (s : State) (n : Nat) (c : List Byte) : State :=
  let p := port s n
  let got := p.got ++ cPay c
  let got := if cLast c then got.take (if p.got.length < 5729 then 5729 else 5825) else got
  let p := { p with got := got }
  if authWhole p && !p.sig then
    let own := (deviceId s).reverse
    let p := { p with sig := true, lower := decide (beNat own < beNat (sub p.got 8 8).reverse) }
    let s := setPort s n p
    match attestKey s with
    | none => s
    | some k =>
      let (r, s) := freeBytes s 48
      (authCells s (Config.ecdsaSign 384 k (sha384 (transcript s p)) r)).foldl (fun s c => sdkSend s n c) s
  else setPort s n p

/-- Whether this side accepts its peer (R534). -/
def authAccept (s : State) (p : SdkPort) : Bool :=
  let own := sdkCert s
  let peer := p.got.take 5600
  certOk s own && sub own 8 8 == deviceId s && certOk s peer && fieldAt own 0x10 4 = fieldAt peer 0x10 4 &&
  Config.ecdsaVerify 384 (sub peer 0x20 97) (sha384 (transcript s p)) (sub p.got 5729 96)

/-- The two keys of a session: the lower DEVICE_ID's direction first (R535). -/
def sessionKeys (p : SdkPort) : Option (List Byte × List Byte) :=
  (Config.ecdh 384 p.eph (sub p.got 5632 97)).map fun z =>
    let k := kdf384 z (ascii "SDKLINK") (lowFirst p p.nonce (sub p.got 5600 32)) 64
    (k.take 32, k.drop 32)

/-- A rejection in AUTH. -/
def authReject (s : State) (n : Nat) : State :=
  portDown (sdkSticky s R.SDK_STAT 9 7 (some Code.SDK_AUTH_FAIL) (word n)) n true false

/-- The checks of AUTH end: UP with new keys and full credits, or DOWN. -/
def authDone (s : State) (n : Nat) : State :=
  let p := port s n
  if portState s n ≠ PS.AUTH ∨ !(authSigned p) then s
  else match (if authAccept s p then sessionKeys p else none) with
  | none => authReject s n
  | some (lo, hi) =>
    let s := rset s (R.SDK_PPEERID n) (word (fieldAt p.got 8 8))
    setPortState (setPort s n { p with
      credit := fullCredit, peer := fullCredit, owed := [], got := [], nonce := [], eph := [], ups := 0, retrains := 0,
      txKey := if p.lower then lo else hi, rxKey := if p.lower then hi else lo }) n PS.UP

/-! Link boot requests (R551) -/

/-- A BOOT_REQ for the block that Stage 0 or the load service waits for. -/
def bootReq (s : State) : State :=
  match s.boot.need with
  | none => s
  | some off =>
    if portState s 0 = PS.BOOT then
      sdkSend s 0 (mkCell 0x38 (myDev s) 0 false false 0
        (leBytes 4 (off / 4096 * 4096) ++ leBytes 1 (b2n (rbit s R.AON_BOOT_STATUS 6))))
    else s

/-! From NUMBER on -/

/-- Eight TS2s in a row: BOOT, UP on a retrain, or AUTH (R526, R531, R532). -/
def portTrained (s : State) (n : Nat) (b : BitVec 24) : State :=
  let p := port s n
  let resume : Bool := b.toNat / 2 ^ 16 % 2 = 1
  let client : Bool := b.toNat / 2 ^ 17 % 2 = 1
  if client ∨ linkClient s then
    bootReq (setPortState (setPort s n
      { credit := fullCredit, peer := fullCredit, offered := p.offered, client := client, retrains := p.retrains }) n PS.BOOT)
  else if p.fromUp ∧ resume then
    let p := sdkAck { p with fromUp := false, retrains := 0, ups := p.ups + 1, nullDue := true } (b.toNat % 65536)
    let s := setPortState (setPort s n p) n PS.UP
    let s := sendSealedNull s n
    sdkFlush (p.replay.foldl (fun s x => sdkWire s n x.2) s) n
  else enterAuth s n

/-! Receiving -/

/-- A valid block ends a run of invalid headers. -/
def goodBlock (s : State) (n : Nat) : State := if (port s n).bad = [] then s else modPort s n fun p => { p with bad := [] }

/-- A valid block that is no TS2 ends a run of them too. -/
def otherBlock (s : State) (n : Nat) : State := if (port s n).ts2 = 0 then goodBlock s n else modPort (goodBlock s n) n fun p => { p with ts2 := 0 }

/-- The types that R524 lists. -/
def cellKnown (t : Nat) : Bool := cellSeqd t || t ∈ [0x00, 0x20, 0x21, 0x22, 0x28]

/-- The fields of a plaintext cell that are marked zero hold zero (R523 to R525). -/
def cellZeroOk (c : List Byte) : Bool :=
  let p := cPay c
  let z (o n : Nat) : Bool := isZero (sub p o n)
  let sealed := cSealed c
  (cellSeqd (cType c) || cSeq c = 0) &&
  match cType c with
  | 0x00 => z 0 28
  | 0x01 =>
    let k := cTag c / 32
    let m := if sealed then 2 else 3
    cTag c / 8 % 4 = 0 && 1 ≤ k && k ≤ m && z (8 * k) (8 * m - 8 * k) && z (8 * m + 4) (24 - 8 * m)
  | 0x08 => z 2 26
  | 0x09 => z 2 6 && z 16 12
  | 0x10 => z 6 2 && fieldAt p 5 1 / 8 % 16 = 0 && (if sealed then z 16 12 else z 24 4)
  | 0x11 => z 6 22 && fieldAt p 5 1 / 8 % 16 = 0
  | 0x12 => z 17 11
  | 0x20 => z 19 9
  | 0x21 => z 8 20
  | 0x22 => z 24 4
  | 0x28 => z 2 26
  | 0x38 => z 5 23
  | _ => true

/-- A cell of an unknown type or with a field that should be zero (R554). -/
def cellTypeErr (s : State) (n : Nat) : State := portEvt (rcount s (R.SDK_TYPEERR n) 1) n 3 (some Code.SDK_TYPE)

/-- A sealed cell that does not open: a retrain, or DOWN where it is the NULL of R531. -/
def cellSealErr (s : State) (n : Nat) : State :=
  let s := portEvt (rcount s (R.SDK_SEALERR n) 1) n 4 (some Code.SDK_SEAL)
  if (port s n).nullDue then portDown s n true false else portRetrain s n

/-- A sequenced cell with a good CRC under R528: `some` with the state after X has advanced where it is taken. -/
def seqTake (s : State) (n : Nat) (c : List Byte) : State × Bool :=
  let p := port s n
  let q := cSeq c
  let x := p.x % 65536
  if q = x then (setPort s n { sdkCredits (sdkAck p (fieldAt c 4 2)) (fieldAt c 6 1) with x := p.x + 1 }, true)
  else
    let ahead := (q + 65536 - x) % 65536
    let behind := (x + 65536 - q) % 65536
    if ahead ≤ 4095 then (sendNak s n, false)
    else if behind ≤ 4096 then (s, false)
    else (portRetrain (portEvt (rcount s (R.SDK_SEQERR n) 1) n 1 (some Code.SDK_SEQ)) n, false)

/-- A cell for another device leaves by its route (R537). -/
def cellRoute (s : State) (n : Nat) (c : List Byte) : State :=
  match routeOf s (cDst c) with
  | some m => if m = n then logUnit s (sdkSecure s) Code.SDK_ROUTE (word (cDst c)) 0 else sdkSend s m c
  | none => logUnit s (sdkSecure s) Code.SDK_ROUTE (word (cDst c)) 0

/-- A received cell, by the rules of its link; `f` is what it does where it is delivered here. -/
def sdkReceive (s : State) (n : Nat) (c : List Byte) (f : State → List Byte → State) : State :=
  let t := cType c
  let s := goodBlock s n
  if !(portCarries s n t) then s
  else if cellSeqd t then
    let ext := (port s n).x
    let (s, taken) := seqTake s n c
    if !taken then s
    else
      let s := portRekey (sdkFlush s n) n
      let p := port s n
      let k := cellClass t
      if mget p.peer k 0 = 0 then
        portRetrain (portEvt (rcount s (R.SDK_CREDERR n) 1) n 2 (some Code.SDK_CREDIT)) n
      else
        let s := setPort s n { p with peer := mset p.peer k (mget p.peer k 0 - 1), owed := mset p.owed k (mget p.owed k 0 + 1) }
        match (if cSealed c then cellOpen p.rxKey (cellIv p.lower false 0 ext) c else some c) with
        | none => cellSealErr s n
        | some c =>
          if !(cellZeroOk c) then cellTypeErr s n
          else if cellLocal t ∨ cDst c = myDev s then f s c
          else cellRoute s n c
  else
    let p := port s n
    let s := portRekey (sdkFlush (setPort s n (sdkCredits (sdkAck p (fieldAt c 4 2)) (fieldAt c 6 1))) n) n
    if cSealed c then
      match (if t = 0 then cellOpen p.rxKey (cellIv p.lower true p.ups p.x) c else none) with
      | none => cellSealErr s n
      | some c => f (modPort s n fun p => { p with nullDue := false }) c
    else if !(cellZeroOk c) then cellTypeErr s n
    else f s c

/-! Commands of the link layer -/

/-- SDK_PORT_ENABLE (R76, R82, R526). -/
def execSdkPortEnable (n : Fin 2) (s : State) : Out :=
  let p := port s n
  let on : Bool := (rbit s R.SDK_CFG 0 && gateIsOpen s) || (linkClient s && n.val = 0)
  if unitPresent s 0x1B ∧ portState s n = PS.DOWN ∧ on ∧ !p.down ∧ !p.held then .next (setPortState s n PS.DETECT) else .next s

/-- SDK_SIGNAL_DETECT (R526): signal on every lane. -/
def execSdkSignalDetect (n : Fin 2) (s : State) : Out :=
  if portState s n = PS.DETECT then
    let s := rputb s (R.SDK_PSTATE n) 4 (rbit s R.SDK_CFG 4)
    .next (setPortState (modPort s n fun p => { p with aligns := 0, ts2 := 0, bad := [] }) n PS.LOCK)
  else .next s

/-- SDK_LOCK_TIMEOUT (R526): the fallback rate, then DOWN for 100 ms. -/
def execSdkLockTimeout (n : Fin 2) (s : State) : Out :=
  if portState s n ≠ PS.LOCK then .next s
  else if rbit s (R.SDK_PSTATE n) 4 then .next (portDown s n true false)
  else .next (modPort (rputb s (R.SDK_PSTATE n) 4 true) n fun p => { p with aligns := 0, bad := [] })

/-- SDK_DOWN_WAIT_END (R526). -/
def execSdkDownWaitEnd (n : Fin 2) (s : State) : Out :=
  let p := port s n
  if portState s n = PS.DOWN ∧ p.down then
    let s := setPort s n { p with down := false }
    let on : Bool := (rbit s R.SDK_CFG 0 && gateIsOpen s) || (linkClient s && n.val = 0)
    .next (if on ∧ !p.held then setPortState s n PS.DETECT else s)
  else .next s

/-- SDK_IDLE_BLOCK (R521). -/
def execSdkIdleBlock (n : Fin 2) (s : State) : Out := .next (otherBlock s n)

/-- SDK_ALIGN_BLOCK (R522, R526): eight of them, with valid headers between, give LOCK. -/
def execSdkAlignBlock (n : Fin 2) (s : State) : Out :=
  let s := otherBlock s n
  if portState s n = PS.LOCK then
    let p := port s n
    if 7 ≤ p.aligns then .next (setPortState (setPort s n { p with aligns := 0, ts2 := 0 }) n PS.NUMBER)
    else .next (setPort s n { p with aligns := p.aligns + 1 })
  else .next s

/-- SDK_TS1 (R518, R521): the partner trains; its number offer is kept and used in NUMBER. A partner that trains while this
port carries cells takes it to LOCK too. -/
def execSdkTs1 (n : Fin 2) (b : BitVec 24) (s : State) : Out :=
  let s := otherBlock s n
  let s := modPort s n fun p => { p with offered := b.toNat / 256 % 16, client := decide (b.toNat / 8 % 2 = 1) }
  match portState s n with
  | 2 | 3 => .next (portNumber s n b)
  | 4 | 5 | 6 => .next (portRetrain s n)
  | _ => .next s

/-- SDK_TS2 (R526, R531): the eighth in a row ends NUMBER. -/
def execSdkTs2 (n : Fin 2) (b : BitVec 24) (s : State) : Out :=
  let s := goodBlock s n
  if portState s n = PS.NUMBER then
    let p := port s n
    if 7 ≤ p.ts2 then .next (portTrained (setPort s n { p with ts2 := 0 }) n b)
    else .next (setPort s n { p with ts2 := p.ts2 + 1 })
  else .next s

/-- SDK_INVALID_HEADER (R519, R526, R553): 16 in a row on one lane retrain the port. -/
def execSdkInvalidHeader (n : Fin 2) (lane : Fin 4) (s : State) : Out :=
  if portState s n < PS.LOCK ∨ sdkLanes s / 2 ≤ lane.val then .next s
  else
    let p := port s n
    let k := mget p.bad lane 0 + 1
    let s := setPort s n { p with bad := mset p.bad lane k, aligns := 0, ts2 := 0 }
    .next (if 16 ≤ k then
      (if portState s n = PS.LOCK then modPort s n fun p => { p with bad := [] } else portRetrain s n) else s)

/-- CELL_NULL (R528, R531, R532). -/
def execCellNull (n : Fin 2) (c : List Byte) (s : State) : Out :=
  if cType c = 0x00 then .next (sdkReceive s n c fun s _ => s) else .next s

/-- CELL_NAK (R529, R553): a replay from the SEQ named; eight naming one SEQ retrain the port. -/
def execCellNak (n : Fin 2) (c : List Byte) (s : State) : Out :=
  if cType c ≠ 0x28 then .next s
  else .next (sdkReceive s n c fun s c =>
    let q := fieldAt (cPay c) 0 2
    let s := rcount s (R.SDK_NAKRX n) 1
    let p := port s n
    let k := if p.naks ≠ 0 ∧ p.nakSeq = q then p.naks + 1 else 1
    let s := setPort s n { p with naks := k, nakSeq := q }
    if 8 ≤ k then portRetrain s n
    else match p.replay.find? fun x => x.1 % 65536 = q with
      | some (e, _) => sdkResend s n e
      | none => s)

/-- CELL_AUTH (R533, R534). -/
def execCellAuth (n : Fin 2) (c : List Byte) (s : State) : Out :=
  if cType c = 0x30 then
    .next (sdkReceive s n c fun s c => if portState s n = PS.AUTH then authBytes s n c else s)
  else .next s

/-- CELL_CRC_ERROR (R528, R554). -/
def execCellCrcError (n : Fin 2) (c : List Byte) (s : State) : Out :=
  let _ := c
  if portState s n < PS.AUTH then .next s
  else .next (sendNak (portEvt (rcount s (R.SDK_CRCERR n) 1) n 0 (some Code.SDK_CRC)) n)

/-- CELL_UNKNOWN_TYPE (R554): discarded, and counted as received for ACK. -/
def execCellUnknownType (n : Fin 2) (c : List Byte) (s : State) : Out :=
  if cellKnown (cType c) ∨ portState s n < PS.AUTH then .next s
  else
    let (s, taken) := seqTake (goodBlock s n) n c
    .next (if taken then cellTypeErr s n else s)

/-- SDK_REPLAY_TIMEOUT (R529). -/
def execSdkReplayTimeout (n : Fin 2) (s : State) : Out :=
  match (port s n).replay with
  | [] => .next s
  | (e, _) :: _ => if portState s n < PS.AUTH then .next s else .next (sdkResend s n e)

/-- SDK_ACK_TIMEOUT (R529). -/
def execSdkAckTimeout (n : Fin 2) (s : State) : Out :=
  if portState s n < PS.AUTH then .next s else .next (sdkRaw s n 0 [])

/-- SDK_AUTH_VERIFIED (R534, R535). -/
def execSdkAuthVerified (n : Fin 2) (s : State) : Out := .next (authDone s n)

/-- SDK_BOOT_RETRY (R551): the block that waits for its LAST cell is requested again. -/
def execSdkBootRetry (s : State) : Out := if linkClient s then .next (bootReq s) else .next s

end Sys2Proof.Machine
end

