-- ==== Sys2Proof/Machine/Boot.lean ====
section
/-! DEFINITION. The chain of trust: Stage 0, the boot load service, verification failures and their retry, confirm (R64 to
R88). -/
namespace Sys2Proof.Machine

/-- Reasons of a verification failure, as AON_BOOT_LAST.REASON records them. -/
abbrev BR.HEADER_BAD : Nat := 1
abbrev BR.KEY_UNKNOWN : Nat := 2
abbrev BR.ROLLBACK : Nat := 3
abbrev BR.HASH_MISMATCH : Nat := 4
abbrev BR.SIG_ECDSA : Nat := 5
abbrev BR.SIG_MLDSA : Nat := 6
abbrev BR.TIMEOUT : Nat := 7
abbrev BR.DEVICE_MISMATCH : Nat := 8
abbrev BR.LINK_NO_SERVER : Nat := 9
abbrev BR.LIFECYCLE_BLANK : Nat := 10

def isKiln (s : State) : Bool := rbit s R.AON_BOOT_STATUS 2
def curSlot (s : State) : Bool := rbit s R.AON_BOOT_STATUS 6
def linkBoot (s : State) : Bool := unitPresent s 0x1B && rbits s R.AON_BOOT_STATUS 2 0 = 1

/-- A verification failure (R83): logged and counted, the slot toggled, a cold reset held. -/
def bootFail (s : State) (reason : Nat) : State :=
  let s := logUnit s true Code.BOOT_FAIL 0 (word reason)
  let s := rput s R.AON_BOOT_ATTEMPTS 15 0 (min 0xFFFF (rbits s R.AON_BOOT_ATTEMPTS 15 0 + 1))
  let s := rputb s R.AON_BOOT_STATUS 6 (!(curSlot s))
  let s := rput s R.AON_BOOT_LAST 7 4 reason
  let s := coldReset s Cause.BOOT_FAIL true
  { s with boot := { s.boot with phase := .retry } }

/-! Reading the slot -/

/-- Offset of the selected slot in the xSPI window. -/
def slotBase (s : State) : Nat := if curSlot s then (bootPolicy s).1 else 0

/-- A byte of the flash: none behind a bank E that reads BAD (R665). -/
def flashByte (s : State) (o : Nat) : Byte :=
  if 0x10000000 ≤ o ∨ rbits s R.SYSCON_PADV 9 8 = 0 then 0 else readByte s (0x60000000 + o)

/-- `n` bytes of the slot from offset `o`: from flash, or from what the link has brought; on the left the first block of
4,096 bytes that the link has still to bring (R82, R551). -/
def slotRead (s : State) (o n : Nat) : Sum Nat (List Byte) :=
  if linkBoot s then
    match (List.range ((o + n + 4095) / 4096 - o / 4096)).find? fun j =>
        !(mhas s.boot.linkBuf ((o / 4096 + j) * 4096 + 4095)) with
    | some j => .inl ((o / 4096 + j) * 4096)
    | none => .inr ((List.range n).map fun i => mget s.boot.linkBuf (o + i) 0)
  else .inr ((List.range n).map fun i => flashByte s (slotBase s + o + i))

/-! Verifying a header (R66, R67) -/

/-- The root-key hash that ROOT names is accepted in this lifecycle; the slot it is, 4 for the vendor key. -/
def rootAccepted (s : State) (h : List Byte) : Option Nat :=
  let root := fieldAt h 7 1
  let d := sha384 (sub h 0x58 0x808)
  match lifecycle s with
  | 0 => none
  | 1 => if root = 0xFF ∧ d = s.otp.vendorHash then some 4 else none
  | _ => if root < 4 then
      (match keeveRoot s root with
       | some e => if !e.revoked && d == e.hash then some root else none
       | none => none)
    else none

/-- The fields of a header: MAGIC, HDR_VER, KIND and reserved bytes; a Stage 1's COUNTER, BODY_SIZE and ENTRY; a
manifest's COUNTER. -/
def headerFields (h : List Byte) (kind : Nat) : Bool :=
  let e := fieldAt h 0x18 8
  let n := fieldAt h 8 4
  fieldAt h 0 4 = 0x5A494D31 && fieldAt h 4 2 = 1 && fieldAt h 6 1 = kind && isZero (sub h 0x0D 3) &&
  isZero (sub h 0x14 4) && isZero (sub h 0xB9 7) && isZero (sub h 0x15AD 83) && decide (e < 2 ^ 40) &&
  (if kind = 1 then
     fieldAt h 0x0C 1 = 0 && decide (n ≤ 0x80000) && decide (0x10001600 ≤ e ∧ e < 0x10001600 + n)
   else decide (1 ≤ fieldAt h 0x0C 1 ∧ fieldAt h 0x0C 1 ≤ 15))

/-- Everything of R66 and R67 but the signatures: 0, or the reason of the first failure, in the order of R69. -/
def headerCheck (s : State) (h body : List Byte) (kind : Nat) : Nat :=
  if !(headerFields h kind) then BR.HEADER_BAD
  else if !(isZero (sub h 0x20 8)) && sub h 0x20 8 != deviceId s then BR.DEVICE_MISMATCH
  else if fieldAt h 0x10 4 < keeveCounter s (fieldAt h 0x0C 1) then BR.ROLLBACK
  else if sha384 body ≠ sub h 0x28 48 then BR.HASH_MISMATCH
  else if (rootAccepted s h).isNone then BR.KEY_UNKNOWN
  else 0

/-- The signatures of a header: 0, or the reason of the first failure. -/
def headerSigs (h : List Byte) : Nat :=
  if !(hybridEcdsa h 0x58 0x860) then BR.SIG_ECDSA else if !(hybridMlDsa h 0x58 0x860) then BR.SIG_MLDSA else 0

def headerDigest (h : List Byte) : List Byte := sha384 (h.take 0x860)

/-! The wake record (R80, R81) -/

def wakeBytes (s : State) : List Byte := readBytes s 0x0F00F800 0x800

/-- The record itself holds: MAC, MAGIC, counters. -/
def wakeRecordOk (s : State) : Bool :=
  let r := wakeBytes s
  hmac384 (wakeKey s) (r.take 0x7D0) == sub r 0x7D0 48 && fieldAt r 0 4 = 0x574B5231 && sub r 8 48 == counterDigest s

/-! Stage 0 (R69) -/

/-- The jump to Stage 1: the copy stands in boot SRAM, MEAS0 is extended, BOOT_PHASE is 1, CC0 runs at ENTRY. -/
def stage0Jump (s : State) (h body : List Byte) : State :=
  let s := writeBytes s 0x10000000 (h ++ body)
  let s := measExtend s 0 (headerDigest h)
  let s := rput s R.PART_PHASE 1 0 1
  let b := { s.boot with phase := .running, need := none, root := (rootAccepted s h).getD 0, ver1 := fieldAt h 0x10 4,
                         digest0 := headerDigest h }
  let s := rputb { s with boot := b } R.SYSCON_CC_RELEASE 0 true
  setCore s 0 { phase := .running, pc := fieldAt h 0x18 8 }

/-- The Stage 1 copy is verified and entered, or the boot fails. On the wake path the signatures are skipped; what fails there
turns the boot to the full path (R81). -/
def stage0Verify (s : State) (h body : List Byte) : State :=
  let wake := rbit s R.AON_BOOT_STATUS 10
  let r := wakeBytes s
  let chk := headerCheck s h body 1
  if wake && headerDigest h == sub r 0x38 48 && chk = 0 then stage0Jump s h body
  else
    let s := if wake then logBoot (rputb s R.AON_BOOT_STATUS 10 false) Code.WAKE_RECORD_STALE 0 0 else s
    if chk ≠ 0 then bootFail s chk
    else if headerSigs h ≠ 0 then bootFail s (headerSigs h)
    else stage0Jump s h body

/-- The copy of Stage 1 from the slot; over the link it waits for the block it needs. -/
def stage0Copy (s : State) : State :=
  let wait (s : State) (o : Nat) : State := bootReq { s with boot := { s.boot with phase := .link, need := some o } }
  match slotRead s 0 0x1600 with
  | .inl o => wait s o
  | .inr h =>
    let n := if fieldAt h 8 4 ≤ 0x80000 then fieldAt h 8 4 else 0
    match slotRead s 0x1600 n with
    | .inl o => wait s o
    | .inr body => stage0Verify s h body

/-- The level code of a bank's supply in mV (R654). -/
def padLevel (mv : Nat) : Nat := if 1620 ≤ mv ∧ mv ≤ 1980 then 1 else if 2970 ≤ mv ∧ mv ≤ 3630 then 2 else 0

/-- SYSCON_PADV as a cold reset's measurement leaves it: banks A to F, and AON at 1. -/
def padvOf (mv : List Nat) : Nat :=
  (List.range 6).foldl (fun v b => v + padLevel (mv.getD b 0) <<< (2 * b)) 0 + 1 <<< 12

/-- What Stage 0 does first (R53, R64, R69, R75, R81, R90). -/
def stage0Start (s : State) (mv : List Nat) : State :=
  let s := if s.boot.cold then rset s R.SYSCON_PADV (word (padvOf mv)) else s
  let ok := rbit s R.AON_BOOT_CONFIRM 0
  let s := rputb (rputb (rputb s R.AON_BOOT_STATUS 12 ok) R.AON_BOOT_STATUS 11 false) R.AON_BOOT_STATUS 10 false
  let s := rputb s R.AON_BOOT_CONFIRM 0 false
  let (park, s) := freeBytes s 32
  let s := { s with copper := { s.copper with parkKey := park } }
  let s := if lifecycleValid s.otp.lifecycle.toNat then s else logBoot s Code.LIFECYCLE_INVALID 0 0
  if isKiln s then
    rput { s with boot := { s.boot with phase := .running, wake := false } } R.PCC_STAT 2 0 5
  else
    let sel := rbits s R.AON_BOOT_STATUS 1 0
    let s := if 2 ≤ sel ∨ (sel = 1 ∧ !(unitPresent s 0x1B)) then logBoot s Code.BOOTSEL_INVALID 0 0 else s
    let s := rset (rset (rset s (R.PART_RGN_BASE 31) 0x10000000) (R.PART_RGN_LIMIT 31) 0x100FF000) (R.PART_RGN_ATTR 31) 0x1B
    if lifecycle s = 0 then bootFail s BR.LIFECYCLE_BLANK
    else
      let s := if !s.boot.wake then s
        else if wakeRecordOk s then
          rputb (rputb s R.AON_BOOT_STATUS 10 true) R.AON_BOOT_STATUS 6 (fieldAt (wakeBytes s) 4 1 = 1)
        else logBoot s Code.WAKE_RECORD_STALE 0 0
      stage0Copy { s with boot := { s.boot with wake := false } }

/-! The boot load service (R70, R71) -/

/-- The fields of a manifest entry, and the region that its DEST lies in. -/
def entryRegion (s : State) (e : List Byte) : Option Nat :=
  let d := fieldAt e 8 8
  let n := fieldAt e 4 4
  if n % 64 ≠ 0 ∨ d % 64 ≠ 0 ∨ fieldAt e 0x10 1 < 1 ∨ 3 < fieldAt e 0x10 1 ∨ !(isZero (sub e 0x11 15)) then none
  else (List.range 32).find? fun i => rgnValid s i && rgnKind s i = 2 && decide (rgnLo s i ≤ d ∧ d + n ≤ rgnHi s i)

/-- The service returns a status in G1 to the link register. -/
def serviceReturn (s : State) (status : Nat) : State :=
  modCore s 0 fun c => { setGreg 0 c 1 (Config.loadStatus status) with pc := (greg 0 c 62).toNat / 4 * 4 }

/-- The confirm tag of the running images (R74, R75). -/
def confirmTag (s : State) : Word := word (fieldAt (measBytes s 0) 0 8) ^^^ word (fieldAt (measBytes s 1) 0 8)

/-- The state of a service call as it goes through the entries: the failure reason or 0xFF for want of entropy, the image
digests so far. -/
structure LoadRun where
  s : State
  bad : Nat
  images : List (List Byte)
  deriving DecidableEq, Repr

/-- One manifest entry (R71 step 4): key fill, copy through sealing, hash, measurement. -/
def loadEntry (x : LoadRun) (e src : List Byte) : LoadRun :=
  if x.bad ≠ 0 then x
  else match entryRegion x.s e with
  | none => { x with bad := BR.HEADER_BAD }
  | some i =>
    let k := rgnKey x.s i
    let fill : Bool := rgnSealed x.s i && !(x.s.boot.filled.contains k)
    if fill && !(drbgReady x.s) then { x with bad := 0xFF }
    else
      let s := if fill then
          let s := regionKey x.s i 5 (sealPolicy false)
          { s with boot := { s.boot with filled := k :: s.boot.filled } }
        else x.s
      let d := fieldAt e 8 8
      let s := (blocks 64 src).zipIdx.foldl (fun s (l, j) => regionLine s i (d + 64 * j) l) s
      let h := sha384 src
      if h ≠ sub e 0x20 48 then { x with s := s, bad := BR.HASH_MISMATCH }
      else { s := measExtend s (fieldAt e 0x10 1) h, bad := 0, images := x.images ++ [h] }

/-- The entries of a manifest body. -/
def manifestEntries (body : List Byte) : List (List Byte) :=
  (List.range (fieldAt body 0 4)).map fun j => sub body (16 + 80 * j) 80

def preambleOk (h body : List Byte) : Bool :=
  let n := fieldAt body 0 4
  decide (1 ≤ n ∧ n ≤ 32) && isZero (sub body 4 12) && decide (16 + 80 * n ≤ fieldAt h 8 4)

/-- The service's steps once the slot's bytes are there. -/
def serviceRun (s : State) (h body : List Byte) (srcs : List (List Byte)) : State :=
  let chk := headerCheck s h body 2
  let chk := if chk = 0 ∧ !(preambleOk h body) then BR.HEADER_BAD else chk
  if chk ≠ 0 then bootFail s chk
  else
    let d := headerDigest h
    let s := rput (measExtend s 1 d) R.AON_BOOT_STATUS 9 8 1
    let s := { s with boot := { s.boot with manifest := some (fieldAt h 0x0C 1, fieldAt h 0x10 4), digest1 := d } }
    let es := manifestEntries body
    let x := (es.zip srcs).foldl (fun x e => loadEntry x e.1 e.2) ⟨s, 0, []⟩
    let r := wakeBytes s
    let wakeSame : Bool := sub r 0x68 48 == d && fieldAt r 5 1 = es.length && sub r 0x98 (48 * es.length) == x.images.flatten
    let wake := rbit s R.AON_BOOT_STATUS 10
    let s := x.s
    let s := if wake ∧ !wakeSame then logBoot (rputb s R.AON_BOOT_STATUS 10 false) Code.WAKE_RECORD_STALE 0 0 else s
    let confirmed (s : State) : State :=
      rputb s R.AON_BOOT_STATUS 11 (rbit s R.AON_BOOT_STATUS 12 && rget s R.AON_BOOT_CONFIRM_TAG == confirmTag s)
    if x.bad = 0xFF then serviceReturn (confirmed { s with boot := { s.boot with sigs := none } }) 3
    else if x.bad ≠ 0 then bootFail s x.bad
    else
      let s := confirmed { s with boot := { s.boot with images := x.images } }
      if wake ∧ wakeSame then serviceReturn (gateOpen (rput s R.AON_BOOT_STATUS 9 8 3)) 1
      else serviceReturn { rput s R.AON_BOOT_STATUS 9 8 2 with boot := { s.boot with sigs := some (headerSigs h) } } 0

/-- The service reads the manifest at offset `o` of the slot and its images; over the link it waits for the block it needs. -/
def serviceCopy (s : State) (o : Nat) : State :=
  let wait (s : State) (b : Nat) : State := bootReq { s with boot := { s.boot with waiting := some o, need := some b } }
  match slotRead s o 0x1600 with
  | .inl b => wait s b
  | .inr h =>
    let n := if headerFields h 2 ∧ fieldAt h 8 4 ≤ 16 + 80 * 32 then fieldAt h 8 4 else 0
    match slotRead s (o + 0x1600) n with
    | .inl b => wait s b
    | .inr body =>
      let es := if preambleOk h body then manifestEntries body else []
      let got := es.map fun e => slotRead s (fieldAt e 0 4) (fieldAt e 4 4)
      match got.find? fun x => match x with | .inl _ => true | .inr _ => false with
      | some (.inl b) => wait s b
      | _ =>
        let s := { s with boot := { s.boot with waiting := none, need := none } }
        serviceRun s h body (got.map fun x => match x with | .inr l => l | .inl _ => [])

/-- CC0 stands at the service's address at Machine level with nothing in progress. -/
def atService (s : State) : Bool :=
  let c := coreOf s 0
  c.phase = .running && c.pc = 0x100 && c.bundle.isEmpty && c.stall.isNone && c.event.isNone && coreLevel 0 c = .m &&
  s.boot.phase = .running && !(isKiln s)

/-! Commands -/

/-- STAGE0_START (R69). -/
def execStage0Start (mv : List Nat) (s : State) : Out :=
  if s.boot.phase = .ready then .next (stage0Start s mv) else .next s

/-- BOOT_RETRY_WAIT_EXPIRY (R83): the next attempt. -/
def execBootRetryWaitExpiry (s : State) : Out :=
  if s.boot.phase = .retry then .next { s with boot := { s.boot with phase := if startOk s then .ready else .held } } else .next s

/-- BOOT_TIMEOUT_EXPIRY (R85): the gate has not opened. -/
def execBootTimeoutExpiry (s : State) : Out :=
  if (s.boot.phase = .link ∨ s.boot.phase = .running) ∧ !(gateIsOpen s) ∧ !(isKiln s) then .next (bootFail s BR.TIMEOUT)
  else .next s

/-- LINK_NO_SERVER_EXPIRY (R86): nobody has served the slot. -/
def execLinkNoServerExpiry (s : State) : Out :=
  if s.boot.phase = .link ∧ s.boot.linkBuf = [] then .next (bootFail s BR.LINK_NO_SERVER) else .next s

/-- BOOT_LOAD_SERVICE (R70, R71): the manifest's offset stands in G1. -/
def execBootLoadService (s : State) : Out :=
  if !(atService s) ∨ s.boot.waiting.isSome then .next s
  else if s.boot.called then .next (serviceReturn (logUnit s true Code.LOAD_REPEAT 0 0) 2)
  else
    let o := (greg 0 (coreOf s 0) 1).toNat % 2 ^ 32
    .next (serviceCopy { s with boot := { s.boot with called := true } } o)

/-- BOOT_SIGNATURE_DONE (R77, R78). -/
def execBootSignatureDone (s : State) : Out :=
  match s.boot.sigs with
  | none => .next s
  | some 0 => .next (gateOpen (rput { s with boot := { s.boot with sigs := none } } R.AON_BOOT_STATUS 9 8 3))
  | some r => .next (bootFail s r)

/-- A write of AON_BOOT_CONFIRM (R74). -/
def bootConfirm (s : State) (r : Req) (w : Wr) : State :=
  if w.one 0 ∧ r.world = .secure ∧ gateIsOpen s ∧ rbits s R.PART_PHASE 1 0 = 2 then
    let s := rputb s R.AON_BOOT_CONFIRM 0 true
    let s := rset s R.AON_BOOT_CONFIRM_TAG (confirmTag s)
    rput (rputb s R.AON_BOOT_LAST 0 (curSlot s)) R.AON_BOOT_ATTEMPTS 15 0 0
  else s

/-- BOOT_CONFIRM (R74). -/
def execBootConfirm (q : RegAcc) (s : State) : Out :=
  .next (onWrite s q R.AON_BOOT_CONFIRM fun r w => bootConfirm s r w)

/-- A whole block has come over the link: what waits for it goes on (R82, R551). -/
def bootBlock (s : State) : State :=
  let s := { s with boot := { s.boot with need := none } }
  if s.boot.phase = .link then stage0Copy s
  else match s.boot.waiting with
    | some o => serviceCopy s o
    | none => s

/-- CELL_BOOT_DATA (R551): 24 bytes of the image, the last cell of a block 16. -/
def execCellBootData (n : Fin 2) (c : List Byte) (s : State) : Out :=
  if cType c ≠ 0x39 then .next s
  else .next (sdkReceive s n c fun s c =>
    if linkClient s ∧ n.val = 0 ∧ cTag c = 0 then
      let o := fieldAt (cPay c) 0 4
      let l := sub c 12 (if cLast c then 16 else 24)
      let s := { s with boot := { s.boot with linkBuf := l.zipIdx.foldl (fun m (v, i) => mset m (o + i) v) s.boot.linkBuf } }
      if cLast c ∧ s.boot.need.isSome then bootBlock s else s
    else s)

end Sys2Proof.Machine
end

