-- ==== Sys2Proof/Machine/Power.lean ====
section
/-! DEFINITION. PCC: operating modes, gating, keep votes, throttle and trims (R596 to R617); the wake block of AON (R609 to
R611, R674, R692); MON (R632, R633, R638). -/
namespace Sys2Proof.Machine

def pccMode (s : State) : Nat := rbits s R.PCC_STAT 2 0

/-! Streams, as gating and modes see them -/

def streamState (s : State) (n : Nat) : Nat := rbits s (R.STR_STATE n) 2 0
/-- RUNNING or STOPPING. -/
def streamLive (s : State) (n : Nat) : Bool := streamState s n = 2 || streamState s n = 3
def anyStreamLive (s : State) : Bool := (List.range 64).any (streamLive s)

/-- The unit window of a port or tap endpoint (R369, R370). -/
def endpointUnit (c : Nat) : Option Nat :=
  if 0x60 ≤ c ∧ c < 0x80 then some (0x0D + c % 16 / 4)
  else if 0x90 ≤ c ∧ c < 0xA0 then some 0x12
  else if 0xA0 ≤ c ∧ c < 0xA8 then some 0x13
  else if c = 0xA8 ∨ c = 0xA9 then some 0x14
  else if c = 0xAA then some 0x15
  else if 0xB0 ≤ c ∧ c < 0xC8 then some 0x16
  else if 0xC8 ≤ c ∧ c < 0xD0 then some 0x17
  else if 0xD0 ≤ c ∧ c < 0xD8 then some 0x18
  else if 0xD8 ≤ c ∧ c < 0xE0 then some 0x19
  else if 0xE0 ≤ c ∧ c < 0xF0 then some 0x1B
  else none

/-- The source and the sink endpoint of stream n: GIN's writer and GOUT's reader. -/
def streamEnds (s : State) (n : Nat) : Nat × Nat :=
  (grantWriter s (rbits s (R.STR_CFG n) 5 0), grantReader s (rbits s (R.STR_CFG n) 13 8))

/-- Unit k is an endpoint of a live stream (R606). -/
def unitStreams (s : State) (k : Nat) : Bool :=
  (List.range 64).any fun n => streamLive s n &&
    (endpointUnit (streamEnds s n).1 == some k || endpointUnit (streamEnds s n).2 == some k)

/-- The units that run in CONDITION beside the fabric (R596). -/
def conditionUnits : List Nat := [0x00, 0x01, 0x02, 0x03, 0x04, 0x05, 0x06, 0x07, 0x08, 0x09, 0x11, 0x17, 0x18, 0x1E, 0x1F, 0x20, 0x21, 0x23]

def unitGated (s : State) (k : Nat) : Bool := rbit s R.PCC_GATED k
def unitOff (s : State) (k : Nat) : Bool := rbit s R.PCC_PWROFF k

/-- Unit k is present, powered, clocked and out of reset, and the mode runs it. -/
def unitRuns (s : State) (k : Nat) : Bool :=
  unitPresent s k && outOfReset s && !(unitGated s k) && !(unitOff s k) && (pccMode s ≠ 3 || conditionUnits.contains k)

/-! Mode requests -/

abbrev MA.DONE : Nat := 0
abbrev MA.DEFERRED : Nat := 1
abbrev MA.DEFERRED_KEEP : Nat := 2
abbrev MA.REFUSED : Nat := 3
abbrev MA.CONSENT_NEEDED : Nat := 4
abbrev MA.STREAMS_LIVE : Nat := 5
abbrev MA.ORDERS_LIVE : Nat := 6
abbrev MA.BUSY : Nat := 7

/-- The latest answer of a world. -/
def setAnswer (s : State) (secure : Bool) (code : Nat) : State :=
  { s with pcc := if secure then { s.pcc with ansS := code } else { s.pcc with ansN := code } }

/-- The rows of R600. -/
def modeAllowed (s : State) (t : Nat) : Bool :=
  match pccMode s with
  | 0 | 1 => t ≤ 4 && t ≠ pccMode s
  | 2 => t = rbits s R.PCC_STAT 10 8
  | 3 => t ≤ 1 || t = 4
  | _ => false

/-- PCC_KEEPSTAT (R608). -/
def keepStat (s : State) : Nat :=
  rbits s R.PCC_KEEP 15 0 + (if s.keeve.running.isSome then 2 ^ 16 else 0) +
  (if s.copper.cx.any fun e => e.2.msg.isSome && (e.2.holder.any fun h => h.world = .secure) then 2 ^ 17 else 0) +
  (if (List.range 32).any fun c => spSecure s c && (spQueue s c).any fun e => e.phase ≠ .ended then 2 ^ 18 else 0)

/-- The answer to a request for mode t (R598). -/
def modeAnswer (s : State) (machine : Bool) (t : Nat) : Nat :=
  let deep : Bool := t = 3 || t = 4
  if s.pcc.target.isSome then MA.BUSY
  else if rbit s R.PCC_STAT 13 ∧ t = 0 ∧ pccMode s ≤ 3 then MA.DONE
  else if 5 ≤ t ∨ !(modeAllowed s t) then MA.REFUSED
  else if deep ∧ !machine ∧ !(rbit s R.PCC_CONSENT (t - 3)) then MA.CONSENT_NEEDED
  else if deep ∧ keepStat s ≠ 0 then MA.DEFERRED_KEEP
  else if 2 ≤ t ∧ anyStreamLive s then MA.STREAMS_LIVE
  else if t = 4 ∧ s.journal ≠ [] then MA.ORDERS_LIVE
  else MA.DONE

/-- A transition to mode t begins. -/
def modeBegin (s : State) (t : Nat) : State :=
  let s := rputb { s with pcc := { s.pcc with target := some t } } R.PCC_STAT 12 true
  if t = 2 then rput s R.PCC_STAT 10 8 (pccMode s)
  else if t = 4 then { s with boot := { s.boot with wakeCfg := (rget s R.AON_WAKECFG).setWidth 10 } }
  else s

/-- A mode request of a world (R598, R599). While THROTTLED, a request for BOIL is only recorded; in CONDITION it starts the return, to
MASH (R613; log entry 44). -/
def modeRequest (s : State) (secure machine : Bool) (t : Nat) : State :=
  let a := modeAnswer s machine t
  let s := setAnswer s secure a
  if a = MA.DEFERRED_KEEP then logUnit s true Code.PCC_KEEP 0 0
  else if a ≠ MA.DONE then s
  else
    let s := if t ≤ 1 then rput s R.PCC_STAT 6 4 t else s
    if rbit s R.PCC_STAT 13 ∧ t = 0 then (if pccMode s = 3 then modeBegin s 1 else s) else modeBegin s t

/-- No attempt runs, so that every tun may gate. -/
def tunsIdle (s : State) : Bool := ((List.range 14).drop 2).all fun p => (coreOf s p).order.isNone

/-- A control core waits in WAIT, or does not run. -/
def coreWaits (s : State) (p : Nat) : Bool :=
  let c := coreOf s p
  c.phase ≠ .running || c.stall = some .wait

/-- Tuns lose their registers and local memory, and CC1's clock stops (R596). -/
def conditionEnter (s : State) : State :=
  let s := (aliveTuns s).foldl (fun s p => setCore (clearLocal s (p - 2)) p { phase := .off }) s
  modCore s 1 fun c => if c.phase = .running then { c with phase := .off } else c

/-- Tuns restart at SYSCON_TUN_VECTOR, and the spare is tested again (R605). -/
def conditionLeave (s : State) : State :=
  let s := modCore s 1 fun c => if c.phase = .off then { c with phase := .running } else c
  let go := rbit s R.SYSCON_TUN_RELEASE 0
  let s := (aliveTuns s).foldl (fun s p =>
    setCore s p (if go then freshTun (rbits s R.SYSCON_TUN_VECTOR 39 2 * 4) false else {})) s
  let sp := steepSpare s
  if go ∧ sp ≠ 0 then
    setPhase { modCore s sp (fun _ => freshTun 0 true) with steep := { s.steep with swapping := true, out := sp } } Ph.lbist
  else s

/-- SOC_PWR_EN falls: the device is in DORMANT (R609). -/
def dormantEnter (s : State) : State :=
  let s := rwrap s R.AON_DORMCNT 1
  { s with boot := { s.boot with dormant := true, pwrEn := false, phase := .held, causes := 0, wake := true, low := false } }

/-- Whether the work that a transition waits for has ended (R600). -/
def modeReady (s : State) (t : Nat) : Bool :=
  match t with
  | 2 => tunsIdle s && coreWaits s 0 && coreWaits s 1
  | 3 => tunsIdle s
  | _ => true

/-- A transition completes (R600). -/
def modeDone (s : State) : State :=
  match s.pcc.target with
  | none => s
  | some t =>
    if !(modeReady s t) then s
    else
      let old := pccMode s
      let s := rput (rputb { s with pcc := { s.pcc with target := none } } R.PCC_STAT 12 false) R.PCC_STAT 2 0 t
      let s := logUnit s true Code.MODE_CHANGE (word t) 0
      match t with
      | 3 => conditionEnter s
      | 4 => dormantEnter s
      | _ => if old = 3 then conditionLeave s else s

/-- An EIC request ends REST (R602). -/
def restWake (s : State) : State :=
  let back (s : State) : State := rput s R.PCC_STAT 2 0 (rbits s R.PCC_STAT 10 8)
  if !(eicAnyRequest s 0) && !(eicAnyRequest s 1) then s
  else if s.pcc.target = some 2 then rputb { s with pcc := { s.pcc with target := none } } R.PCC_STAT 12 false
  else if pccMode s = 2 then
    let s := back s
    logUnit s true Code.MODE_CHANGE (word (pccMode s)) 0
  else s

/-! Gating (R606, R607) -/

def gateable (k : Nat) : Bool := (0x0D ≤ k ∧ k ≤ 0x10) ∨ (0x12 ≤ k ∧ k ≤ 0x1B)

/-- The registers of unit k and what it holds besides at their cold-reset values. -/
def unitCold (s : State) (k : Nat) : State :=
  let s := if k = 0x1B then { portCut (portCut s 0) 1 with sdk := [] } else s
  let s := { s with regs := s.regs.filter fun e => e.1 / 0x10000 ≠ 0x4000 + k }
  let gone (c : Nat) : Bool := endpointUnit c = some k
  let io := { s.io with outq := s.io.outq.filter (fun e => !(gone e.1)), held := s.io.held.filter (fun e => !(gone e.1)) }
  { s with io := match k with
    | 0x0D | 0x0E | 0x0F | 0x10 => { io with taps := io.taps.filter fun e => e.1 / 4 ≠ k - 0x0D }
    | 0x12 => { io with sap := [] }
    | 0x13 => { io with aesRx := [], aesTx := [] }
    | 0x14 => { io with madi := {} }
    | 0x15 => { io with pdm := {} }
    | 0x16 => { io with sdiRx := [], sdiTx := [], pix := [], vref := [] }
    | 0x17 | 0x18 => { io with eth := mdel io.eth (k - 0x17) }
    | 0x19 => { io with usb := { idHost := io.usb.idHost, vbus := io.usb.vbus } }
    | _ => io }

def gateAct (s : State) (k a : Nat) : State :=
  match a with
  | 0 => rputb s R.PCC_GATED k false
  | 1 => rputb s R.PCC_GATED k true
  | 2 => rputb s R.PCC_PWROFF k true
  | _ => if unitOff s k then rputb (unitCold s k) R.PCC_PWROFF k false else s

/-- A write of PCC_REQ. -/
def gateRequest (s : State) (secure : Bool) (k a : Nat) : State :=
  let off : Bool := a = 1 || a = 2
  if !(gateable k) ∨ !(unitPresent s k) then setAnswer s secure MA.REFUSED
  else if off ∧ unitStreams s k then setAnswer s secure MA.STREAMS_LIVE
  else if off ∧ !secure ∧ unitSecure s k then
    let s := setAnswer s secure MA.DEFERRED
    if rbit s R.PCC_DEFER k then s
    else
      let s := rputb (rputb s R.PCC_DEFER k true) R.PCC_DEFACT k (a = 2)
      logUnit (edge s 3) true Code.PCC_DEFERRED (word k) 0
  else
    let s := setAnswer s secure MA.DONE
    gateAct (if !secure ∧ rbit s R.PCC_DEFER k ∧ !off then rputb s R.PCC_DEFER k false else s) k a

/-- A write of PCC_DEFRESP. -/
def deferResponse (s : State) (w : Wr) : State :=
  let k := w.bits 5 0
  if !(rbit s R.PCC_DEFER k) then s
  else
    let a := if rbit s R.PCC_DEFACT k then 2 else 1
    if w.one 8 then gateAct (rputb s R.PCC_DEFER k false) k a
    else if w.one 9 then rputb s R.PCC_DEFER k false
    else s

/-! Trims (R614, R615) -/

def trimWrite (s : State) (w : Wr) : State :=
  let t := rbits s R.PCC_TRIMSEL 2 0
  rputb { s with pcc := { s.pcc with shadow := mset s.pcc.shadow t (w.v.setWidth 16) } } R.PCC_TRIMCTL 0 true

/-- A pending trim applies: PENDING clears once no shadow waits. -/
def trimApply (s : State) (t : Nat) : State :=
  match s.pcc.shadow.find? (fun e => e.1 = t) with
  | none => s
  | some (_, v) =>
    let s := { s with pcc := { s.pcc with shadow := mdel s.pcc.shadow t, trim := mset s.pcc.trim t v } }
    rputb (rputb s R.PCC_TRIMCTL 1 true) R.PCC_TRIMCTL 0 (!s.pcc.shadow.isEmpty)

/-! Registers of PCC and AON -/

def pccWrite (s : State) (r : Req) (a : Nat) (w : Wr) : State :=
  let secure : Bool := r.world = .secure
  if a = R.PCC_MODE then modeRequest s secure r.machine (w.bits 2 0)
  else if a = R.PCC_REQ then gateRequest s secure (w.bits 5 0) (w.bits 9 8)
  else if a = R.PCC_DEFRESP then deferResponse s w
  else if a = R.PCC_CONSENT then (if r.machine then genericWrite s r a w else s)
  else if a = R.PCC_TRIMSEL then (if 6 ≤ w.bits 2 0 then s else genericWrite s r a w)
  else if a = R.PCC_TRIMVAL then trimWrite s w
  else genericWrite s r a w

def pccRead (s : State) (r : Req) (a : Nat) (m : Word) : State × Word :=
  if a = R.PCC_ANSWER then (s, word (if r.world = .secure then s.pcc.ansS else s.pcc.ansN))
  else if a = R.PCC_KEEPSTAT then (s, word (keepStat s))
  else if a = R.PCC_TRIMVAL then
    let t := rbits s R.PCC_TRIMSEL 2 0
    (s, (mget s.pcc.shadow t (mget s.pcc.trim t 0)).setWidth 64)
  else genericRead s r a m

def aonWrite (s : State) (r : Req) (a : Nat) (w : Wr) : State :=
  if a = R.AON_BOOT_CONFIRM then bootConfirm s r w else genericWrite s r a w

/-! MON -/

/-- A reading in 1/16 °C as a signed number. -/
def tempOf (v : Nat) : Int := sint 16 v

/-- A sensor counts as at least 105 °C (R612, R638). -/
def sensorHot (s : State) (i : Nat) : Bool := decide (1680 ≤ tempOf (rbits s (R.MON_TEMP i) 15 0))
def sensorCool (s : State) (i : Nat) : Bool := decide (tempOf (rbits s (R.MON_TEMP i) 15 0) < 1600)

/-- The throttle starts (R612, R613). -/
def throttle (s : State) : State :=
  if rbit s R.PCC_STAT 13 then s
  else
    let s := logUnit (rputb s R.PCC_STAT 13 true) true Code.THERMAL_THROTTLE 0 0
    if pccMode s = 2 ∨ s.pcc.target = some 2 then rput s R.PCC_STAT 10 8 1
    else if s.pcc.target = some 0 then { s with pcc := { s.pcc with target := some 1 } }
    else if pccMode s = 0 ∧ s.pcc.target.isNone then modeBegin s 1
    else s

/-- A conversion of temperature sensor i. -/
def monTemp (s : State) (i : Nat) (v : Option (BitVec 16)) : State :=
  let failed := v.isNone
  let x := (v.getD 0x7FFF).toNat
  let s := rset s (R.MON_TEMP i) (word x)
  let s := if failed ∧ !(rbit s R.MON_STAT (16 + i)) then
      logUnit (rputb s R.MON_STAT (16 + i) true) true Code.MON_SENSOR_FAIL (word i) 0 else s
  let s := if i ∈ s.pcc.seen ∧ tempOf x ≤ tempOf (rbits s (R.MON_TMAX i) 15 0) then s
    else rset { s with pcc := { s.pcc with seen := if i ∈ s.pcc.seen then s.pcc.seen else i :: s.pcc.seen } }
      (R.MON_TMAX i) (word x)
  let s := if tempOf (rbits s (R.MON_TALARM i) 15 0) < tempOf x ∧ !(rbit s R.MON_STAT i) then
      let s := rputb s R.MON_STAT i true
      let s := if rbit s R.MON_IRQ 0 then edge s 1 else s
      logUnit s (unitSecure s 0x20) Code.MON_TEMP_ALARM (word i) 0
    else s
  let s := if sensorHot s i then throttle s else s
  if !failed ∧ 1760 < tempOf x then
    if s.pcc.limit then s
    else logUnit { s with pcc := { s.pcc with limit := true } } true Code.THERMAL_LIMIT (word i) 0
  else if (List.range 6).all fun j => tempOf (rbits s (R.MON_TEMP j) 15 0) ≤ 1760 || rbits s (R.MON_TEMP j) 15 0 = 0x7FFF then
    { s with pcc := { s.pcc with limit := false } }
  else s

/-- A conversion of voltage channel i, in mV. -/
def monVolt (s : State) (i mv : Nat) : State :=
  let s := rset s (R.MON_VOLT i) (word mv)
  let s := if 8 + i ∈ s.pcc.seen ∧ rbits s (R.MON_VMIN i) 15 0 ≤ mv then s
    else rset { s with pcc := { s.pcc with seen := if 8 + i ∈ s.pcc.seen then s.pcc.seen else (8 + i) :: s.pcc.seen } }
      (R.MON_VMIN i) (word mv)
  if (mv < rbits s (R.MON_VLIM i) 15 0 ∨ rbits s (R.MON_VLIM i) 31 16 < mv) ∧ !(rbit s R.MON_STAT (8 + i)) then
    let s := rputb s R.MON_STAT (8 + i) true
    let s := if rbit s R.MON_IRQ 1 then edge s 2 else s
    logUnit s (unitSecure s 0x20) Code.MON_VOLT_ALARM (word i) 0
  else s

/-- MON_TMAX and MON_VMIN clear as a whole on any write. -/
def monWrite (s : State) (r : Req) (a : Nat) (w : Wr) : State :=
  if R.MON_TMAX 0 ≤ a ∧ a < R.MON_TMAX 6 then
    rset { s with pcc := { s.pcc with seen := s.pcc.seen.filter (· ≠ (a - R.MON_TMAX 0) / 4) } } a 0
  else if R.MON_VMIN 0 ≤ a ∧ a < R.MON_VMIN 7 then
    rset { s with pcc := { s.pcc with seen := s.pcc.seen.filter (· ≠ 8 + (a - R.MON_VMIN 0) / 4) } } a 0
  else genericWrite s r a w

/-! Commands -/

/-- MODE_BOIL (R598, R600). -/
def execModeBoil (q : RegAcc) (s : State) : Out := .next (onWrite s q R.PCC_MODE fun r w => pccWrite s r R.PCC_MODE w)
/-- MODE_MASH (R598, R600). -/
def execModeMash (q : RegAcc) (s : State) : Out := .next (onWrite s q R.PCC_MODE fun r w => pccWrite s r R.PCC_MODE w)
/-- MODE_REST (R598, R600). -/
def execModeRest (q : RegAcc) (s : State) : Out := .next (onWrite s q R.PCC_MODE fun r w => pccWrite s r R.PCC_MODE w)
/-- MODE_CONDITION (R598, R600). -/
def execModeCondition (q : RegAcc) (s : State) : Out :=
  .next (onWrite s q R.PCC_MODE fun r w => pccWrite s r R.PCC_MODE w)
/-- MODE_DORMANT (R598, R609). -/
def execModeDormant (q : RegAcc) (s : State) : Out :=
  .next (onWrite s q R.PCC_MODE fun r w => pccWrite s r R.PCC_MODE w)
/-- MODE_TRANSITION_DONE (R600). -/
def execModeTransitionDone (s : State) : Out := .next (modeDone s)
/-- REST_WAKE (R602). -/
def execRestWake (s : State) : Out := .next (restWake s)

/-- The bit of AON_WAKECFG and of AON_WAKESRC that a wake source has. -/
def wakeBits : WakeSrc → Nat × Nat
  | .pin n => (n.val, n.val)
  | .rtc => (8, 8)
  | .hcp => (9, 9)

/-- SOC_PWR_EN rises where a wake is due and VDD_SOC has discharged (R609, R610, R674). -/
def wakeServe (s : State) : State :=
  if s.boot.dormant ∧ s.boot.wakeDue ∧ s.boot.wakeReady ∧ s.boot.low then
    { s with boot := { s.boot with dormant := false, pwrEn := true } }
  else s

/-- WAKE_EVENT (R609, R610): recorded from the latch of AON_WAKECFG on. -/
def execWakeEvent (w : WakeSrc) (s : State) : Out :=
  let (c, b) := wakeBits w
  let live : Bool := s.boot.dormant || s.pcc.target = some 4
  if !live ∨ !(s.boot.wakeCfg.getLsbD c) then .next s
  else
    let s := if s.boot.wakeDue then s else rset s R.AON_WAKESRC 0
    let s := rputb s R.AON_WAKESRC b true
    let ready := s.boot.wakeReady || s.boot.dormant
    .next (wakeServe { s with boot := { s.boot with wakeDue := true, wakeReady := ready } })

/-- DORMANT_WAKE_SERVE (R609): a wake recorded during entry has waited its time. -/
def execDormantWakeServe (s : State) : Out :=
  if s.boot.dormant ∧ s.boot.wakeDue then .next (wakeServe { s with boot := { s.boot with wakeReady := true } }) else .next s

/-- VDD_SOC_DISCHARGED (R674). -/
def execVddSocDischarged (s : State) : Out :=
  if s.boot.dormant then .next (wakeServe { s with boot := { s.boot with soc := false, low := true } }) else .next s

/-- DDR_SELF_REFRESH_ENTRY (R604): LPDDR keeps its contents, and no access sees more than a delay. -/
def execDdrSelfRefreshEntry (s : State) : Out := .next s

/-- AON_OSC_FAILOVER (R692). -/
def execAonOscFailover (s : State) : Out :=
  if s.boot.aon then .next { s with boot := { s.boot with internalOsc := true } } else .next s
/-- AON_OSC_RETURN (R692). -/
def execAonOscReturn (s : State) : Out :=
  if s.boot.aon then .next { s with boot := { s.boot with internalOsc := false } } else .next s

/-- GATE_CLOCK_ON (R606, R607). -/
def execGateClockOn (q : RegAcc) (s : State) : Out := .next (onWrite s q R.PCC_REQ fun r w => pccWrite s r R.PCC_REQ w)
/-- GATE_CLOCK_OFF (R606). -/
def execGateClockOff (q : RegAcc) (s : State) : Out := .next (onWrite s q R.PCC_REQ fun r w => pccWrite s r R.PCC_REQ w)
/-- GATE_POWER_OFF (R606). -/
def execGatePowerOff (q : RegAcc) (s : State) : Out := .next (onWrite s q R.PCC_REQ fun r w => pccWrite s r R.PCC_REQ w)
/-- GATE_POWER_ON (R606, R607). -/
def execGatePowerOn (q : RegAcc) (s : State) : Out := .next (onWrite s q R.PCC_REQ fun r w => pccWrite s r R.PCC_REQ w)
/-- DEFER_GRANT (R606). -/
def execDeferGrant (q : RegAcc) (s : State) : Out := .next (onWrite s q R.PCC_DEFRESP fun _ w => deferResponse s w)
/-- DEFER_DENY (R606). -/
def execDeferDeny (q : RegAcc) (s : State) : Out := .next (onWrite s q R.PCC_DEFRESP fun _ w => deferResponse s w)
/-- TRIM_WRITE (R614, R615). -/
def execTrimWrite (q : RegAcc) (s : State) : Out := .next (onWrite s q R.PCC_TRIMVAL fun _ w => trimWrite s w)
/-- TRIM_APPLY (R614). -/
def execTrimApply (t : Fin 6) (s : State) : Out := .next (trimApply s t)

/-- THROTTLE_RELEASE (R612, R613): every sensor reads below 100 °C. -/
def execThrottleRelease (s : State) : Out :=
  if rbit s R.PCC_STAT 13 ∧ (List.range 6).all (sensorCool s) then
    let s := rputb s R.PCC_STAT 13 false
    let boil : Bool := rbits s R.PCC_STAT 6 4 = 0
    .next (if boil ∧ pccMode s = 1 ∧ s.pcc.target.isNone then modeBegin s 0
      else if boil ∧ (pccMode s = 2 ∨ s.pcc.target = some 2) then rput s R.PCC_STAT 10 8 0
      else s)
  else .next s

/-- MON_CONVERSION (R632, R633, R638). -/
def execMonConversion (c : MonCh) (s : State) : Out :=
  if outOfReset s then
    match c with
    | .temp i v => .next (monTemp s i v)
    | .volt i mv => .next (monVolt s i mv.toNat)
  else .next s

end Sys2Proof.Machine
end

