-- ==== Sys2Proof/Machine/Streams.lean ====
section
/-! DEFINITION. Streams and scene changes (R398 to R418). -/
namespace Sys2Proof.Machine

def strm (s : State) (n : Nat) : Stream := mget s.streams n {}
def setStrm (s : State) (n : Nat) (x : Stream) : State := { s with streams := mset s.streams n x }
def modStrm (s : State) (n : Nat) (f : Stream → Stream) : State := setStrm s n (f (strm s n))

def strSecure (s : State) (n : Nat) : Bool := rbit s R.ORDER_STR_OWN n
def strGin (s : State) (n : Nat) : Nat := rbits s (R.STR_CFG n) 5 0
def strGout (s : State) (n : Nat) : Nat := rbits s (R.STR_CFG n) 13 8
def strChan (s : State) (n : Nat) : Nat := rbits s (R.STR_CFG n) 20 16
def strQueue (s : State) (n : Nat) : Nat := rbits s (R.STR_CFG n) 28 24
def strBlock (s : State) (n : Nat) : Nat := rbits s (R.STR_FMT n) 9 0
def strReserve (s : State) (n : Nat) : Nat := rbits s (R.STR_FMT n) 11 10
def strMaxslip (s : State) (n : Nat) : Nat := rbits s (R.STR_FMT n) 15 12
def strNbuf (s : State) (n : Nat) : Nat := 2 ^ rbits s (R.STR_FMT n) 19 16
def strEpsIn (s : State) (n : Nat) : Nat := rbits s (R.STR_EPS n) 11 0 + 1
def strEpsOut (s : State) (n : Nat) : Nat := rbits s (R.STR_EPS n) 27 16 + 1
def strSlips (s : State) (n : Nat) : Nat := rbits s (R.STR_STATE n) 11 8
def strInLen (s : State) (n : Nat) : Nat := 8 * strBlock s n * strEpsIn s n
def strOutLen (s : State) (n : Nat) : Nat := 8 * strBlock s n * strEpsOut s n
def strInSlot (s : State) (n k : Nat) : Nat :=
  rbits s (R.STR_INRING n) 39 6 * 64 + k % strNbuf s n * ((strInLen s n + 63) / 64 * 64)
def strOutSlot (s : State) (n k : Nat) : Nat :=
  rbits s (R.STR_OUTRING n) 39 6 * 64 + k % strNbuf s n * ((strOutLen s n + 63) / 64 * 64)
def setStreamState (s : State) (n st : Nat) : State := rput s (R.STR_STATE n) 2 0 st

/-- The latency of the present run in DTB units. -/
def strLat (s : State) (n : Nat) : Nat := (2 + (strm s n).reserve + strSlips s n) * (strm s n).bper

/-! Scenes -/

def scenePending (s : State) (b : Nat) : Bool := mhas s.scenes b
def sceneOf (s : State) (b : Nat) : Scene := mget s.scenes b ⟨[], 0, 0, []⟩

/-- SCENE_STATUS.PHASE of block b, from the states of the streams that are left (R408, R412). -/
def scenePhase (s : State) (b : Nat) : State :=
  if !(scenePending s b) then s
  else
    let x := sceneOf s b
    let ph := if x.left = [] then 5
      else if x.left.any fun n => streamState s n = 2 then 1
      else if x.left.any fun n => streamState s n = 3 then 2
      else if x.left.length < x.mask.length ∧ x.t2 ≠ 0 then 4 else 3
    let s := rput s (R.SCENE_STATUS b) 2 0 ph
    if x.left = [] then { s with scenes := mdel s.scenes b } else s

/-- Stream n has restarted or stopped for good: its scene goes on without it. -/
def sceneLeave (s : State) (n : Nat) : State :=
  [0, 1].foldl (fun s b =>
    if scenePending s b then
      scenePhase { s with scenes := mset s.scenes b { sceneOf s b with left := (sceneOf s b).left.filter (· ≠ n) } } b
    else s) s

/-- The pending scene that holds stream n. -/
def sceneFor (s : State) (n : Nat) : Option (Nat × Scene) :=
  ([0, 1].find? fun b => scenePending s b && (sceneOf s b).left.contains n).map fun b => (b, sceneOf s b)

/-- Streams in a mask. -/
def maskList (m : Word) : List Nat := (List.range 64).filter (bit m)

/-- A write of GO to SCENE_CTRL of block b (R407, R408). -/
def sceneGo (s : State) (b : Nat) (w : Wr) : State :=
  if !(w.one 0) then s
  else
    let refuse (n : Nat) : State := rput s (R.SCENE_STATUS b) 15 8 n
    let mask := maskList (rget s (R.SCENE_MASK b))
    let t1 := (rget s (R.SCENE_T1 b)).toNat
    let t2 := (rget s (R.SCENE_T2 b)).toNat
    if scenePending s b then refuse 1
    else if mask.any fun n => strSecure s n != (b == 0) then refuse 2
    else if mask.any fun n => scenePending s (1 - b) && (sceneOf s (1 - b)).mask.contains n then refuse 3
    else if t2 ≠ 0 ∧ t2 ≤ t1 then refuse 4
    else
      let s := rput s (R.SCENE_STATUS b) 15 8 0
      let left := mask.filter fun n => t2 ≠ 0 || streamLive s n
      let s := if t2 = 0 then s
        else left.foldl (fun s n => if streamState s n = 0 ∨ streamState s n = 4 then setStreamState s n 1 else s) s
      scenePhase { s with scenes := mset s.scenes b ⟨mask, t1, t2, left⟩ } b

/-! Input descriptors (R400, R402) -/

def strInputs (s : State) (n : Nat) : Nat :=
  ((spQueue s (strChan s n)).filter fun e => match e.stream with | some (m, false, _) => m = n | _ => false).length

/-- The engine posts a descriptor of stream n on its channel. -/
def strPost (s : State) (n : Nat) (out : Bool) (k : Nat) (d : SpDesc) : State :=
  let c := strChan s n
  let r : Req := { reqOf s .own with
    who := .sparge (Fin.ofNat 32 c), id := BitVec.ofNat 8 (0x40 + c), world := worldOf (strSecure s n),
    level := if strSecure s n then .s else .n }
  let e : SpEntry := ⟨r, none, none, 0, false, d, .queued, 0, [], some (n, out, k), r⟩
  let (s, e) := spAdmit s c e
  setSpQueue s c (spQueue s c ++ [e])

def strRoom (s : State) (n : Nat) : Bool := decide ((spQueue s (strChan s n)).length < 8)

/-- Blocks of stream n are still to be captured: it runs, or it stops and the blocks before E_n are not all posted (R400, R408). -/
def strCaptures (s : State) (n : Nat) : Bool :=
  streamState s n = 2 ||
    (streamState s n = 3 && match (strm s n).total with | some t => decide ((strm s n).nextIn < t) | none => false)

/-- Input descriptors for the free input slots, at most two posted. -/
def strPostInputs (s : State) (n : Nat) : State :=
  [0, 1].foldl (fun s _ =>
    let x := strm s n
    if strCaptures s n && strInputs s n < 2 && strRoom s n && decide (x.nextIn < x.pushed + strNbuf s n) then
      let k := x.nextIn
      let d : SpDesc := { spZero with
        src := word (strGin s n), dst := word (strInSlot s n k), rowLen := BitVec.ofNat 32 (strInLen s n), rows := 1,
        flags := 0x20 }
      strPost (setStrm s n { x with nextIn := k + 1 }) n false k d
    else s) s

/-- Every live stream of channel c posts what it may. -/
def strPostAll (s : State) (c : Nat) : State :=
  (List.range 64).foldl (fun s n => if strCaptures s n ∧ strChan s n = c then strPostInputs s n else s) s

/-! The end of a run -/

/-- The last block of a run has been pushed (R408). -/
def streamEnded (s : State) (n : Nat) : State :=
  let x := strm s n
  if streamState s n = 3 && x.total.any fun t => decide (t ≤ x.pushed) then
    match sceneFor s n with
    | some (b, sc) => if sc.t2 ≠ 0 then scenePhase (setStreamState s n 1) b else sceneLeave (setStreamState s n 4) n
    | none => setStreamState s n 4
  else s

/-- Every entry that a grant shows is popped and discarded (R409). -/
def grantDiscard (s : State) (gi : Nat) : State := setGrant s gi { grantOf s gi with q := [], hidden := 0 }

/-- A descriptor of a stream's engine has completed, whatever its status (R276, R400, R403). -/
def streamDesc (s : State) (n : Nat) (out : Bool) (k : Nat) : State :=
  let x := strm s n
  if out then streamEnded (setStrm s n { x with pushed := k + 1 }) n
  else if streamState s n = 2 ∨ streamState s n = 3 then
    let s := rset (setStrm s n { x with captured := x.captured ++ [k] }) (R.STR_BLOCK n) (word (k + 1))
    if streamState s n = 3 ∧ !(streamInput s n) ∧ !(strCaptures s n) then grantDiscard s (strGin s n) else s
  else s

/-- A completion at the front of a channel, and what it means to the stream that posted it. -/
def spCompleteStream (s : State) (c : Nat) : State :=
  match spQueue s c with
  | [] => s
  | e :: _ =>
    let t := spComplete s c
    let done : Bool := (spQueue t c).length < (spQueue s c).length
    match e.stream, e.fin with
    | some (n, out, k), _ :: _ => strPostAll (if done then streamDesc t n out k else t) c
    | _, _ => strPostAll t c

/-! Submission (R400, R401) -/

/-- The 64-byte order descriptor of block k. -/
def blockOrder (s : State) (n k : Nat) : List Byte :=
  let x := strm s n
  let p := (mget x.cap k 0 + strLat s n) / 2 ^ 32
  leBytes 8 (rget s (R.STR_ENTRY n)).toNat ++ leBytes 8 (strInSlot s n k) ++ leBytes 4 (strInLen s n) ++
  leBytes 4 (rget s (R.STR_INLOCAL n)).toNat ++ leBytes 8 (strOutSlot s n k) ++ leBytes 4 (strOutLen s n) ++
  leBytes 1 (rbits s (R.STR_FMT n) 27 24 + 16 * rbits s (R.STR_FMT n) 23 23) ++ leBytes 1 (rbits s (R.STR_FMT n) 22 21) ++
  leBytes 2 3 ++ leBytes 8 p ++ leBytes 8 (n * 2 ^ 56 + k % 2 ^ 56) ++ List.replicate 8 0

/-- The oldest captured block of stream n is written at TAIL and submitted; refused, it waits. -/
def streamSubmit (s : State) (n : Nat) : State :=
  let x := strm s n
  let q := strQueue s n
  match x.captured with
  | [] => s
  | k :: rest =>
    let g := (rget s (R.ORDER_QGYLE q)).toNat
    let a := rbits s (R.ORDER_QRING q) 39 6 * 64 + rbits s (R.ORDER_QPTR q) 15 8 * 64
    let s := (memWrite s (orderReq s q) a (blockOrder s n k)).1
    let t := orderAccept { s with doors := mset s.doors q [1] } q
    if (rget t (R.ORDER_QGYLE q)).toNat = g then
      if x.waitLogged then t
      else logUnit (setStrm t n { x with waitLogged := true }) (strSecure s n) Code.STREAM_SUBMIT_WAIT (word n) (word k)
    else setStrm t n { x with captured := rest, waitLogged := false, submitted := x.submitted ++ [(g, k)] }

/-! Records (R403, R417) -/

/-- The rack mover has written a record of queue q: a stream block's goes to its stream. -/
def streamRacked (s : State) (q g : Nat) (done : Bool) : State :=
  (List.range 64).foldl (fun s n =>
    let x := strm s n
    if strQueue s n = q then
      match x.submitted with
      | (g', k) :: rest => if g' = g then setStrm s n { x with submitted := rest, racked := x.racked ++ [(k, done)] } else s
      | [] => s
    else s) s

/-- A stop that SLIPS or GOUT asks for (R416, R417). -/
def streamStopAsk (s : State) (n bitNo code : Nat) : State :=
  let s := rputb s (R.STR_STATE n) bitNo true
  logUnit (modStrm s n fun x => { x with stopping := true }) (strSecure s n) code (word n) 0

/-- The engine takes the next record of stream n and posts its push, or the fill of a FAILED block. -/
def streamRecord (s : State) (n : Nat) : State :=
  let x := strm s n
  match x.racked with
  | [] => s
  | (k, done) :: rest =>
    if !(strRoom s n) then s
    else
      let gout := strGout s n
      let short : Bool := decide (grantDepth s gout < wlevel s gout + strBlock s n * strEpsOut s n)
      let s := if short ∧ streamState s n = 2 ∧ !x.stopping then streamStopAsk s n 13 Code.STREAM_BACKLOG else s
      let s := if done then s
        else logUnit (rcount s (R.STR_BFAIL n) 1) (strSecure s n) Code.STREAM_BLOCK_FAILED (word n) 0
      let d0 : SpDesc := { spZero with dst := word gout, rowLen := BitVec.ofNat 32 (strOutLen s n), rows := 1 }
      let d := if done then { d0 with src := word (strOutSlot s n k), flags := 0x40 }
        else match (if rbit s (R.STR_FMT n) 20 then x.lastGood else none) with
          | some l => { d0 with src := word (strOutSlot s n l), flags := 0x40 }
          | none => { d0 with flags := 0x48 }
      let s := modStrm s n fun x =>
        { x with racked := rest, nextOut := k + 1, lastGood := if done then some k else x.lastGood }
      strPost s n true k d

/-! Starts (R399, R410) -/

/-- A range lies in Cellar where a world may read and write (R399). -/
def ringOk (s : State) (secure : Bool) (a len : Nat) : Bool :=
  let r : Req := ⟨.own, 0xFE, worldOf secure, if secure then .s else .n, none⟩
  decide (0x10000000 ≤ a ∧ a + len ≤ 0x10000000 + cellarSize s) &&
  (List.range ((a + len - 1) / 4096 + 1 - a / 4096)).all fun j =>
    let p := max a ((a / 4096 + j) * 4096)
    (accessCheck s r p .read).isNone && (accessCheck s r p .write).isNone

/-- The endpoint's unit runs, so that it serves (R617). -/
def endpointRuns (s : State) (c : Nat) : Bool := match endpointUnit c with | some k => unitRuns s k | none => true

/-- The first check of R399 that fails, or 0. -/
def streamCheck (s : State) (n : Nat) : Nat :=
  let w := strSecure s n
  let gi := strGin s n
  let go := strGout s n
  let c := strChan s n
  let q := strQueue s n
  let blk := strBlock s n
  let need := strReserve s n + strMaxslip s n
  if rbit s R.PART_OQ_OWN q != w || rbit s R.PART_GT_OWN gi != w || rbit s R.PART_GT_OWN go != w || spSecure s c != w then 1
  else if !(grantOn s gi) || !(grantTs s gi) || !(endpointPort (grantWriter s gi)) || grantReader s gi != 0x40 + c ||
      !(grantOn s go) || grantWriter s go != 0x40 + c || !(endpointPort (grantReader s go)) ||
      !(endpointRuns s (grantWriter s gi)) || !(endpointRuns s (grantReader s go)) then 2
  else if blk < 8 || decide (0x20000 < strInLen s n) || decide (0x3FFC0 < (rget s (R.STR_INLOCAL n)).toNat + strInLen s n) ||
      decide ((stagingSlot s q 0).2 < strOutLen s n) || decide (grantDepth s go < (need + 2) * blk * strEpsOut s n) then 3
  else if decide (strNbuf s n < need + 3) || !(ringOk s w (strInSlot s n 0) (strNbuf s n * ((strInLen s n + 63) / 64 * 64))) ||
      !(ringOk s w (strOutSlot s n 0) (strNbuf s n * ((strOutLen s n + 63) / 64 * 64))) then 4
  else if !(queueOn s q) then 5
  else if rget s (R.STR_BPER n) = 0 then 6
  else 0

/-- The restart boundary R_n in DTB units: on the old grid, or at the first entry (R410; log entry 42). -/
def restartAt (s : State) (n t2 : Nat) : Nat :=
  let x := strm s n
  let t := max (t2 * 2 ^ 32) s.dtb.toNat
  match x.stopAt with
  | some e => if x.bper = 0 ∨ t ≤ e then max t e else e + (t - e + x.bper - 1) / x.bper * x.bper
  | none => t

/-- Replayed blocks of stream n have all racked (R418). -/
def replaysRacked (s : State) (n : Nat) : Bool :=
  s.journal.all fun e => !(e.2.replayed && e.2.f 0x26 2 / 2 % 2 = 1 && e.2.f 0x37 1 % 64 = n && e.2.queue = strQueue s n)

/-- R_n has come for a masked stream that is ARMED, with tuns running, the gate open and replayed blocks racked (R77,
R410, R411, R616, R618). -/
def streamRestart (s : State) (n : Nat) : State :=
  match sceneFor s n with
  | none => s
  | some (b, sc) =>
    if sc.t2 = 0 ∨ streamState s n ≠ 1 ∨ 2 ≤ pccMode s ∨ !(gateIsOpen s) ∨ !(replaysRacked s n) then s
    else
      let code := streamCheck s n
      if code ≠ 0 then
        let s := rput (setStreamState s n 4) (R.STR_STATE n) 23 16 code
        let s := logUnit s (strSecure s n) Code.STREAM_START_BAD (word n) (word code)
        sceneLeave (rput s (R.SCENE_STATUS b) 15 8 5) n
      else
        let x := strm s n
        let at' := restartAt s n sc.t2
        let bper := (rget s (R.STR_BPER n)).toNat
        let gap : Int := match x.stopAt with
          | none => 0
          | some e =>
            (((at' + (2 + strReserve s n) * bper : Nat) : Int) - ((e + strLat s n : Nat) : Int)) / 2 ^ 32
        let s := rset (rset s (R.STR_GAP n) (word (uint 64 gap))) (R.STR_BLOCK n) 0
        let s := rput (rput (rput s (R.STR_STATE n) 11 8 0) (R.STR_STATE n) 23 16 0) (R.STR_STATE n) 2 0 2
        let s := setStrm s n { cap := [(0, at')], bper := bper, reserve := strReserve s n,
                               latched := some (rget s (R.STR_CFG n), rget s (R.STR_FMT n), rget s (R.STR_EPS n)) }
        sceneLeave (strPostInputs s n) n

/-- The capture instant of block `k + j` of stream n, where its first entry has come: recorded, or the stamp of the entry that stands
in GIN behind those of the blocks before it; `moved` entries of block k have left GIN (R408). -/
def strCapture (s : State) (n k moved j : Nat) : Option Nat :=
  if mhas (strm s n).cap (k + j) then some (mget (strm s n).cap (k + j) 0)
  else ((grantOf s (strGin s n)).q[j * (strBlock s n * strEpsIn s n) - moved]?).map fun e => e.side.toNat * 2 ^ 32

/-- The first block of stream n, from block k on, that is not captured when it stops: that whose capture instant is at or after T1, or
whose first entry has not come; a stop that SLIPS or GOUT asks for takes the latter (R408, R416, R417). -/
def strLimit (s : State) (n k moved : Nat) (t1 : Option Nat) : Nat :=
  let begun (j : Nat) : Bool := match strCapture s n k moved j with
    | some c => match t1 with | some t => decide (c < t * 2 ^ 32) | none => true
    | none => false
  k + ((List.range 512).find? fun j => !(begun j)).getD 512

/-- E_n has come: the block whose capture begins here and later ones are not captured (R408, R416, R417). -/
def streamStop (s : State) (n : Nat) : State :=
  let x := strm s n
  let asked : Bool := x.stopping || (sceneFor s n).isSome
  if streamState s n ≠ 2 ∨ !asked then s
  else
    let c := strChan s n
    let open' := (spQueue s c).filterMap fun e => match e.stream with
      | some (m, false, k) => if m = n then some (k, e.moved / 8) else none
      | _ => none
    let (k, moved) := open'.headD (x.nextIn, 0)
    let total := strLimit s n k moved (if x.stopping then none else (sceneFor s n).map fun p => p.2.t1)
    let e := (strCapture s n k moved (total - k)).getD
      (if total = 0 then s.dtb.toNat else (strCapture s n k moved (total - 1 - k)).getD (mget x.cap (total - 1) 0) + x.bper)
    let s := setSpQueue s c ((spQueue s c).filter fun e => match e.stream with
      | some (m, false, k) => m ≠ n || decide (k < total)
      | _ => true)
    let s := setStrm s n { x with total := some total, stopAt := some e, stopping := false, nextIn := min x.nextIn total }
    let gi := strGin s n
    let s := if k = total then grantDiscard s gi
      else
        let g := grantOf s gi
        let keep := (total - k) * (strBlock s n * strEpsIn s n) - moved
        setGrant s gi { g with q := g.q.take keep, hidden := g.hidden - (g.q.length - keep) }
    let s := setStreamState s n 3
    let s := match sceneFor s n with | some (b, _) => scenePhase s b | none => s
    streamEnded s n

/-! The sink (R404, R405, R416) -/

/-- The configuration with which the sink of stream n plays: that of the latest run, else as STR_CFG, STR_FMT and STR_EPS stand (R410). -/
def sinkCfg (s : State) (n : Nat) : Word × Word × Word :=
  (strm s n).latched.getD (rget s (R.STR_CFG n), rget s (R.STR_FMT n), rget s (R.STR_EPS n))

/-- GOUT of the sink, the entries of a block, MAXSLIP and FILL. -/
def sinkGout (s : State) (n : Nat) : Nat := bits (sinkCfg s n).1 13 8
def sinkNeed (s : State) (n : Nat) : Nat := bits (sinkCfg s n).2.1 9 0 * (bits (sinkCfg s n).2.2 27 16 + 1)
def sinkMax (s : State) (n : Nat) : Nat := bits (sinkCfg s n).2.1 15 12
def sinkRepeats (s : State) (n : Nat) : Bool := bit (sinkCfg s n).2.1 20

/-- A block boundary of the sink of stream n. -/
def sinkBoundary (s : State) (n : Nat) : State :=
  let x := strm s n
  let due : Bool := streamState s n ≠ 0 && mhas x.cap 0 && (match x.total with | some t => decide (x.play < t) | none => true)
  if !due then s
  else
    let go := sinkGout s n
    let need := sinkNeed s n
    if need ≤ rlevel s go then setStrm s n { x with play := x.play + 1, data := need, cur := [], fill := 0 }
    else
      let k := x.play
      let s := logUnit (grantUnder (setStrm s n { x with data := 0, cur := [], fill := 0 }) go) (strSecure s n) Code.SLIP 0
        (word (n * 2 ^ 56 + k % 2 ^ 56))
      let s := rcount s (R.STR_SLIP n) 1
      if sinkMax s n ≤ strSlips s n then
        if streamState s n = 2 ∧ !x.stopping then streamStopAsk s n 12 Code.STREAM_OVERSLIP else s
      else rput s (R.STR_STATE n) 11 8 (strSlips s n + 1)

/-- The stream whose GOUT serves sink endpoint c, if it is not IDLE. -/
def sinkStream (s : State) (c : Nat) : Option Nat :=
  match grantBound s c false with
  | none => none
  | some g => (List.range 64).find? fun n => streamState s n ≠ 0 && sinkGout s n = g

/-- The fill of a sink of stream n: with FILL 1 the next entry of the block played last, once one has been played;
otherwise none (R395, R403, R404). -/
def sinkFill (s : State) (n : Nat) : State × Option Word :=
  let x := strm s n
  if sinkRepeats s n ∧ x.last ≠ [] then
    (setStrm s n { x with fill := x.fill + 1 }, some (x.last.getD (x.fill % x.last.length) 0))
  else (s, none)

/-- One entry of a block of stream n has been played, or what stood in its place. -/
def sinkPlayed (s : State) (n : Nat) (v : Word) : State :=
  let x := strm s n
  let x := { x with cur := x.cur ++ [v], data := x.data - 1 }
  setStrm s n (if x.data = 0 then { x with last := x.cur, cur := [], fill := 0 } else x)

/-- What a sink endpoint plays next: an entry of the block being played, or, with no stream, whatever its grant shows; in
place of an entry it cannot have, fill (R395, R404). A sink between blocks leaves its grant alone. -/
def sinkPop (s : State) (c : Nat) (ecc : Ecc) : State × Option Word :=
  match sinkStream s c with
  | none => let (t, e) := portPop s c ecc; (t, e.map GEntry.val)
  | some n =>
    if (strm s n).data = 0 then sinkFill s n
    else match portPop s c ecc with
      | (t, some e) => (sinkPlayed t n e.val, some e.val)
      | (t, none) =>
        let (t, v) := sinkFill t n
        (sinkPlayed t n (v.getD 0), v)

/-- The next entry that a port uses: one that it has popped ahead, or one it pops now. -/
def sinkTake (s : State) (c : Nat) (ecc : Ecc) : State × Option Word :=
  match mget s.io.held c [] with
  | v :: rest => ({ s with io := { s.io with held := mset s.io.held c rest } }, v)
  | [] => sinkPop s c ecc

/-- `k` entries for a port, with what SECDED finds in each. -/
def sinkTakeN (s : State) (c k : Nat) (ecc : List Ecc) : State × List (Option Word) :=
  (List.range k).foldl (fun (st : State × List (Option Word)) i =>
    let (t, v) := sinkTake st.1 c (ecc.getD i .good)
    (t, st.2 ++ [v])) (s, [])

/-- Entries that a port pushes: at once while its grant has room and none wait, and otherwise after those that wait in the
port (R465). -/
def portEmit (s : State) (c : Nat) (vs : List Word) (side : Option Word) : State :=
  vs.foldl (fun s v =>
    let wait := mget s.io.outq c []
    let full : Bool := match grantBound s c true with | some n => grantFull s n | none => false
    if wait = [] ∧ !full then portPush s c v side
    else { s with io := { s.io with outq := mset s.io.outq c (wait ++ [(v, side)]) } }) s

/-! Registers -/

/-- A stream-bound write is ignored while a stream runs (R413). -/
def liveWrite (s : State) (r : Req) (n : Nat) : State :=
  let x := strm s n
  let s := rcount s (R.STR_LIVE n) 1
  if x.liveLogged then s
  else logBy (setStrm s n { x with liveLogged := true }) (some r) (strSecure s n) Code.STREAM_LIVE_WRITE (word n) 0

/-- The live stream that an endpoint serves, for a port's stream-bound fields (R413). -/
def endpointLive (s : State) (cs : List Nat) : Option Nat :=
  (List.range 64).find? fun n => streamLive s n && (cs.contains (streamEnds s n).1 || cs.contains (streamEnds s n).2)

/-- A write of stream-bound port fields `m` of the register at `a`, whose port serves endpoints `cs` (R413): the bound
fields keep their value while a stream is live. -/
def boundWrite (s : State) (r : Req) (a : Nat) (w : Wr) (m : Word) (cs : List Nat) : State :=
  match endpointLive s cs with
  | some n => if w.m &&& m = 0 then genericWrite s r a w else liveWrite (genericWrite s r a ⟨w.v, w.m &&& ~~~ m⟩) r n
  | none => genericWrite s r a w

/-- A write of ORDER_STR_OWN: bits of streams that are not IDLE stay (R398). -/
def strOwnWrite (s : State) (r : Req) (w : Wr) : State :=
  let m := (List.range 64).foldl (fun m n => if streamState s n = 0 then m else setBit m n false) (~~~ 0#64)
  genericWrite s r R.ORDER_STR_OWN ⟨w.v, w.m &&& m⟩

/-- Register writes of ORDER. -/
def orderWrite (s : State) (r : Req) (a : Nat) (w : Wr) : State :=
  let off := a - 0x400A0000
  if a = R.ORDER_STR_OWN then strOwnWrite s r w
  else if 0x2000 ≤ off ∧ off < 0x4000 then
    let n := (off - 0x2000) / 0x80
    if (off - 0x2000) % 0x80 < 0x30 then
      if streamLive s n then liveWrite s r n else genericWrite s r a w
    else genericWrite s r a w
  else if 0x4000 ≤ off then
    let b := (off - 0x4000) / 0x40
    if (off - 0x4000) % 0x40 = 0x18 then sceneGo s b w else genericWrite s r a w
  else queueWrite s r a w

def orderRead (s : State) (r : Req) (a : Nat) (m : Word) : State × Word :=
  let off := a - 0x400A0000
  if off < 0x2000 ∧ a ≠ R.ORDER_STR_OWN then queueRead s r a m else genericRead s r a m

/-! Commands -/

/-- SPARGE_DESC_COMPLETE (R273, R275, R400). -/
def execSpargeDescComplete (c : Fin 32) (s : State) : Out := .next (spCompleteStream s c)

/-- SCENE_GO (R407, R408). -/
def execSceneGo (q : RegAcc) (s : State) : Out :=
  let b := if (reqOf s q.who).world = .secure then 0 else 1
  .next (onWrite s q (R.SCENE_CTRL b) fun _ w => sceneGo s b w)

/-- STREAM_STOP_BOUNDARY (R408). -/
def execStreamStopBoundary (n : Fin 64) (s : State) : Out := .next (streamStop s n)

/-- STREAM_RESTART (R410, R411). -/
def execStreamRestart (n : Fin 64) (s : State) : Out := .next (streamRestart s n)

/-- STREAM_BLOCK_CAPTURED (R400). -/
def execStreamBlockCaptured (n : Fin 64) (s : State) : Out :=
  if (strm s n).waitLogged then .next s else .next (streamSubmit s n)

/-- STREAM_SUBMIT_RETRY (R401). -/
def execStreamSubmitRetry (n : Fin 64) (s : State) : Out :=
  if (strm s n).waitLogged then .next (streamSubmit s n) else .next s

/-- STREAM_RECORD (R402, R403, R417). -/
def execStreamRecord (n : Fin 64) (s : State) : Out := .next (streamRecord s n)

/-- SINK_BOUNDARY (R404, R405, R416). -/
def execSinkBoundary (n : Fin 64) (s : State) : Out := .next (sinkBoundary s n)

end Sys2Proof.Machine
end

