-- ==== Sys2Proof/Machine/Audio.lean ====
section
/-! DEFINITION. The audio ports: SAP, AES3, MADI and PDM (R419 to R455). -/
namespace Sys2Proof.Machine

/-- The stamp of an instant that lies `age` DTB units back (R384, R425). -/
def stampAgo (s : State) (age : BitVec 64) : Word := ((s.dtb - age.setWidth 96) >>> 32).setWidth 64

/-- A sticky bit of unit k is set by its event: the code is logged on the first event after the bit was last cleared, and
source `src` pends where `irq` holds (R455, "Registers"). -/
def unitSticky (s : State) (k a i : Nat) (code : Option Nat) (arg : Nat) (irq : Bool) (src : Nat)
    (by' : Option Req := none) : State :=
  if rbit s a i then s
  else
    let s := rputb s a i true
    let s := match code with
      | some c => logBy s by' (unitSecure s k) c (word arg) 0
      | none => s
    if irq then edge s src else s

/-- What output `n` sends, once the output gate is open (R76). -/
def wireOut (s : State) (n : Nat) (l : List Word) : State :=
  if gateIsOpen s then { s with wire := mset s.wire n l } else s

/-- Samples of one frame as entries of two channels each (R423). -/
def pairUp : List Word → List Word
  | a :: b :: r => (a ||| b <<< 32) :: pairUp r
  | [a] => [a]
  | [] => []

/-- The channel words of popped entries; fill gives zero words. -/
def unpair (l : List (Option Word)) : List Word :=
  l.flatMap fun e => match e with
    | some v => [v &&& 0xFFFFFFFF, v >>> 32]
    | none => [0, 0]

/-- A channel word: 24 bits of audio with Z, ERR, channel active, V, U and C (R424). -/
def chanWord (audio : BitVec 24) (z err active v u c : Bool) : Word :=
  (audio.setWidth 64 <<< 8) ||| word (128 * b2n z + 64 * b2n err + 32 * b2n active + 8 * b2n v + 4 * b2n u + 2 * b2n c)

/-- The sample delivered under SUBST for a sample that must be substituted (R450). -/
def substitute (subst : Nat) (x prev : BitVec 24) : BitVec 24 :=
  match subst with | 0 => x | 1 => 0 | _ => prev

/-- A write in which a two-bit SUBST field at bit `lo` keeps its value where 3 is written (R450). -/
def substGuard (w : Wr) (lo : Nat) : Wr := if w.bits (lo + 1) lo = 3 then ⟨w.v, w.m &&& ~~~ mask (lo + 1) lo⟩ else w

/-! Serial audio ports (R426 to R430, R447 to R449, R453) -/

def sap (s : State) (p : Nat) : Sap := mget s.io.sap p {}
def setSap (s : State) (p : Nat) (x : Sap) : State := { s with io := { s.io with sap := mset s.io.sap p x } }

def sapRunning (s : State) (p : Nat) : Bool := rbit s (R.SAP_STAT p) 0

/-- The sticky bits of SAP_STATp (R453, R455). -/
def sapSticky (s : State) (p i code : Nat) (by' : Option Req := none) : State :=
  unitSticky s 0x12 (R.SAP_STAT p) i (some code) p (rbit s (R.SAP_IRQ p) i) (184 + p) by'

/-- Number of slots of a configuration (R426). -/
def sapSlots (cfg : Word) : Nat := if bits cfg 4 3 = 2 then bits cfg 16 12 + 1 else 2
def sapSw (cfg : Word) : Nat := 16 + 8 * bits cfg 9 8
def sapDw (cfg : Word) : Nat := match bits cfg 11 10 with | 0 => 16 | 1 => 20 | 2 => 24 | _ => 32

/-- The enabled slots of a mask, in ascending order (R423). -/
def sapChans (cfg m : Word) : List Nat := (List.range (sapSlots cfg)).filter (bit m)

/-- Whether a master's BCLK would exceed 49.152 MHz (R428). -/
def sapBclkBad (cfg : Word) : Bool :=
  bit cfg 1 && decide (49152000 * bits cfg 31 24 < (if bit cfg 2 then 49152000 else 45158400))

/-- A refusal of R428 for port p with configuration `cfg`, already stored. -/
def sapCfgBad (s : State) (p : Nat) (cfg : Word) : Bool :=
  let l := bits cfg 21 19
  bits cfg 4 3 = 3 || bits cfg 9 8 = 3 || decide (sapSw cfg < sapDw cfg) || bits cfg 31 24 = 0 || sapBclkBad cfg ||
  (bit cfg 18 && (bit cfg 1 || decide (sapPorts s ≤ l) || l = p || !(rbit s (R.SAP_CFG l) 0) || rbit s (R.SAP_CFG l) 18)) ||
  (match grantBound s (0x90 + p) true with | some n => (grantOf s n).wdom != sapDomain s p | none => false) ||
  (match grantBound s (0x98 + p) false with | some n => (grantOf s n).rdom != sapDomain s p | none => false)

/-- Every field of SAP_CFGp but TXHIZ is stream-bound. -/
def sapBound : Word := 0xFFFDFFFF

/-- A write of SAP_CFGp (R428, R447, R448): a port that is disabled while its frames run finishes the frame. -/
def sapCfgWrite (s : State) (r : Req) (p : Nat) (w : Wr) : State :=
  let a := R.SAP_CFG p
  let cs := [0x90 + p, 0x98 + p]
  if rbit s a 0 then
    match endpointLive s cs with
    | some n => liveWrite s r n
    | none =>
      if bit w.v 0 then s
      else setSap (genericWrite s r a w) p { sap s p with ending := sapRunning s p }
  else
    let t := boundWrite s r a w sapBound cs
    if !(rbit t a 0) then t
    else
      let off := rputb t a 0 false
      if sapCfgBad off p (rget off a) then
        sapSticky off p 3 Code.SAP_CFG_BAD (some r)
      else
        let cfg := rget t a
        let t := setSap t p ⟨cfg, rget t (R.SAP_RXMASK p), rget t (R.SAP_TXMASK p), false⟩
        if bit cfg 1 then rputb t (R.SAP_STAT p) 0 true else t

/-- Writes of SAP's registers. -/
def sapWrite (s : State) (r : Req) (a : Nat) (w : Wr) : State :=
  if a = R.SAP_MCLK then (if w.one 0 ∧ w.one 1 then s else genericWrite s r a w)
  else if a = R.SAP_WCLK then
    genericWrite s r a (if w.bits 31 16 < 2 then ⟨w.v, w.m &&& ~~~ mask 31 16⟩ else w)
  else
    let p := (a - 0x40120100) / 0x20
    if sapPorts s ≤ p then s
    else match (a - 0x40120100) % 0x20 with
    | 0x00 => sapCfgWrite s r p w
    | 0x04 | 0x08 =>
      if rbit s (R.SAP_CFG p) 0 then
        match endpointLive s [0x90 + p, 0x98 + p] with | some n => liveWrite s r n | none => s
      else boundWrite s r a w (~~~ 0#64) [0x90 + p, 0x98 + p]
    | _ => genericWrite s r a w

/-- The bits of a slot that a frame of `n` bits has brought: `have` bits of it, in DW bits at the top, zero below (R424,
R453). -/
def slotWord (cfg : Word) (slot : BitVec 32) (have' : Nat) : Word :=
  let k := min (sapDw cfg) have'
  word (slot.toNat / 2 ^ (32 - k) * 2 ^ (32 - k))

/-- Whether the frames of port p come from outside: a slave, or a port linked to a slave (R427, R429). -/
def sapSlave (s : State) (cfg : Word) : Bool :=
  if bit cfg 18 then !(rbit s (R.SAP_CFG (bits cfg 21 19)) 1) else !(bit cfg 1)

/-- A frame of port p completes: `slots` as received, and `n` bits long (R423 to R426, R430, R453). The next frame is
popped and sent: wire 0x1200 + p holds each slot, with bit 32 set where DOUT is high-impedance. -/
def sapFrame (s : State) (p : Nat) (slots : List (BitVec 32)) (n : Nat) (age : BitVec 64) (ecc : List Ecc) : State :=
  let x := sap s p
  let on : Bool := rbit s (R.SAP_CFG p) 0 || x.ending
  let led : Bool := !(bit x.cfg 18) || sapRunning s (bits x.cfg 21 19)
  if sapPorts s ≤ p ∨ !(unitRuns s 0x12) ∨ !on ∨ !led then s
  else
    let full := sapSlots x.cfg * sapSw x.cfg
    let slave := sapSlave s x.cfg
    let got := if slave then min n full else full
    let s := rputb s (R.SAP_STAT p) 0 true
    let s := if slave ∧ n ≠ full then sapSticky (rcount s (R.SAP_FRAMEERR p) 1) p 1 Code.SAP_FRAME else s
    let rx := (sapChans x.cfg x.rx).map fun j => slotWord x.cfg (slots.getD j 0) (min (sapSw x.cfg) (got - j * sapSw x.cfg))
    let s := portPushAll s (0x90 + p) (pairUp rx) (some (stampAgo s age))
    if x.ending then
      { rputb (setSap s p {}) (R.SAP_STAT p) 0 false with wire := mset s.wire (0x1200 + p) [] }
    else
      let tx := sapChans x.cfg x.tx
      let (s, es) := sinkTakeN s (0x98 + p) ((tx.length + 1) / 2) ecc
      let vs := unpair es
      let out := (List.range (sapSlots x.cfg)).map fun j =>
        if j ∈ tx then slotWord x.cfg ((vs.getD (tx.idxOf j) 0).setWidth 32) 32
        else if bit x.cfg 17 then 0x100000000 else 0
      wireOut s (0x1200 + p) out

/-- No FS has come for four frame periods, or the leader has stopped (R449, R453). -/
def sapClockLost (s : State) (p : Nat) : State :=
  let x := sap s p
  let lost : Bool := if bit x.cfg 18 then !(sapRunning s (bits x.cfg 21 19)) else !(bit x.cfg 1)
  if p < sapPorts s ∧ unitRuns s 0x12 ∧ sapRunning s p ∧ lost then
    sapSticky (rputb s (R.SAP_STAT p) 0 false) p 2 Code.SAP_CLOCK_LOST
  else s

/-- MCLK_LOST (R420): `b` false CLK_AUDA, true CLK_AUDB. -/
def execMclkLost (b : Bool) (s : State) : Out :=
  if unitRuns s 0x12 ∧ rbit s R.SAP_MCLK (b2n b) then
    .next (unitSticky (rputb s R.SAP_MCLK (b2n b) false) 0x12 R.SAP_MCLK (16 + b2n b) (some Code.SAP_MCLK_LOST) (b2n b) false 0)
  else .next s

/-- SAP_ENABLE (R428). -/
def execSapEnable (q : RegAcc) (p : Fin 8) (s : State) : Out :=
  .next (onWrite s q (R.SAP_CFG p) fun r w => sapWrite s r (R.SAP_CFG p) w)
/-- SAP_DISABLE (R448). -/
def execSapDisable (q : RegAcc) (p : Fin 8) (s : State) : Out :=
  .next (onWrite s q (R.SAP_CFG p) fun r w => sapWrite s r (R.SAP_CFG p) w)
/-- SAP_FRAME (R423, R453). -/
def execSapFrame (p : Fin 8) (slots : List (BitVec 32)) (bits : Nat) (age : BitVec 64) (ecc : List Ecc) (s : State) : Out :=
  .next (sapFrame s p slots bits age ecc)
/-- SAP_CLOCK_LOST (R449, R453). -/
def execSapClockLost (p : Fin 8) (s : State) : Out := .next (sapClockLost s p)

/-! AES3 receivers (R431 to R433, R450 to R452) -/

def aesRx (s : State) (i : Nat) : AesRx := mget s.io.aesRx i {}
def setAesRx (s : State) (i : Nat) (x : AesRx) : State := { s with io := { s.io with aesRx := mset s.io.aesRx i x } }

/-- The sticky bits of AES3_RXSTATi: IRQ bit n serves bit n − 8. -/
def aesSticky (s : State) (i b : Nat) (code : Option Nat) : State :=
  unitSticky s 0x13 (R.AES3_RXSTAT i) b code i (rbit s (R.AES3_RXCFG i) (b + 8)) (192 + i)

def aesLocked (s : State) (i : Nat) : Bool := rbit s (R.AES3_RXSTAT i) 0
def aesPushing (s : State) (i : Nat) : Bool := rbit s (R.AES3_RXSTAT i) 1

/-- The CRC-8 of channel-status bytes in transmission order (R432). -/
def crc8 (l : List Byte) : Byte :=
  l.foldl (fun (c : Byte) b =>
    (List.range 8).foldl (fun (c : Byte) _ => if c.getLsbD 0 then (c >>> 1) ^^^ 0xB8 else c >>> 1) (c ^^^ b)) 0xFF

/-- The 24 channel-status bytes of a block. -/
def csBytes (x : BitVec 192) : List Byte := leBytes 24 x.toNat

/-- A block's bytes pass the check of R432. -/
def csOk (l : List Byte) : Bool := !((l.getD 0 0).getLsbD 0) || l.getD 23 0 == crc8 (l.take 23)

/-- A lock loss: FLY frames are due where frames were being pushed (R451). LOCK_CHG logs its code for a loss once. -/
def aesLockLost (s : State) (i : Nat) : State :=
  let x := aesRx s i
  let fresh := !(rbit s (R.AES3_RXSTAT i) 9)
  let push := aesPushing s i
  let fly := if push then rbits s (R.AES3_RXCFG i) 15 8 else 0
  let s := setAesRx s i { x with good := 0, bad := 0, pos := 0, rate := 0, fly := fly, lost := true }
  let s := rputb (rputb (rputb s (R.AES3_RXSTAT i) 0 false) (R.AES3_RXSTAT i) 1 (fly ≠ 0)) (R.AES3_RXSTAT i) 15 false
  let s := aesSticky (rcount s (R.AES3_RXLOCK i) 1) i 9 none
  if fresh ∨ !x.lost then logUnit s (unitSecure s 0x13) Code.AES3_LOCK_LOST (word i) 0 else s

/-- The errors of a subframe while locked: counted, sticky, logged. -/
def aesErr (s : State) (i : Nat) (e : SubErr) : State :=
  match e with
  | .none => s
  | .biphase => aesSticky (rcount s (R.AES3_RXBIPHASE i) 1) i 10 (some Code.AES3_BIPHASE)
  | .parity => aesSticky (rcount s (R.AES3_RXPARITY i) 1) i 11 (some Code.AES3_PARITY)
  | .preamble => aesSticky (rcount s (R.AES3_RXPREAMBLE i) 1) i 12 (some Code.AES3_PREAMBLE)

/-- A subframe's word and the new previous good sample (R424, R450). -/
def aesWord (cfg : Word) (f : SubFrame) (z : Bool) (prev : BitVec 24) : Word × BitVec 24 :=
  let bad : Bool := f.err ≠ .none || (bit cfg 3 && f.v)
  let x := if bad then substitute (bits cfg 2 1) f.audio prev else f.audio
  (chanWord x z bad false f.v f.u f.c, if bad then prev else f.audio)

/-- Frames with valid preambles before lock (R431). -/
def aesHunt (s : State) (i : Nat) (ok : Bool) : State :=
  let x := aesRx s i
  if !ok then setAesRx s i { x with good := 0 }
  else if x.good + 1 < 16 then setAesRx s i { x with good := x.good + 1 }
  else
    let fresh := !(rbit s (R.AES3_RXSTAT i) 9)
    let s := setAesRx s i { x with good := 0, bad := 0, pos := 0, fly := 0, lost := if fresh then false else x.lost }
    aesSticky (rputb (rputb s (R.AES3_RXSTAT i) 0 true) (R.AES3_RXSTAT i) 1 false) i 9 none

/-- A frame of a locked receiver. -/
def aesTake (s : State) (i : Nat) (a b : SubFrame) (z : Bool) (age : BitVec 64) : State :=
  let x := aesRx s i
  let s := aesErr (aesErr s i a.err) i b.err
  let ba := if a.err = .preamble then x.bad + 1 else 0
  let bb := if b.err = .preamble then ba + 1 else 0
  if 4 ≤ ba ∨ 4 ≤ bb then aesLockLost (setAesRx s i { x with bad := 0 }) i
  else
    let go : Bool := aesPushing s i || (z && !(rbit s (R.AES3_RXSTAT i) 15))
    let cfg := rget s (R.AES3_RXCFG i)
    let (wa, pa) := aesWord cfg a z x.prevA
    let (wb, pb) := aesWord cfg b z x.prevB
    let pos := if z then 0 else x.pos
    let put (c : BitVec 192) (v : Bool) : BitVec 192 := c ||| (if v then 1#192 <<< pos else 0)
    let count : Bool := z || (0 < x.pos && x.pos < 192)
    let x := { x with bad := bb, prevA := pa, prevB := pb, pos := if count then pos + 1 else x.pos,
                      csA := if count then put (if z then 0 else x.csA) a.c else x.csA,
                      csB := if count then put (if z then 0 else x.csB) b.c else x.csB }
    let s := setAesRx s i x
    if go then portPushAll (rputb s (R.AES3_RXSTAT i) 1 true) (0xA0 + i) [wa ||| wb <<< 32] (some (stampAgo s age)) else s

/-- A receiver that was disabled stops at the end of the frame (R448). -/
def aesStop (s : State) (i : Nat) : State :=
  rputb (rputb (rputb (setAesRx s i {}) (R.AES3_RXSTAT i) 0 false) (R.AES3_RXSTAT i) 1 false) (R.AES3_RXSTAT i) 15 false

def aesFrame (s : State) (i : Nat) (a b : SubFrame) (z : Bool) (age : BitVec 64) : State :=
  let x := aesRx s i
  if aes3Pairs s ≤ i ∨ !(unitRuns s 0x13) ∨ !(rbit s (R.AES3_RXCFG i) 0 || x.ending) then s
  else
    let s := if aesLocked s i then aesTake s i a b z age
      else aesHunt s i (a.err ≠ .preamble && b.err ≠ .preamble)
    if x.ending then aesStop s i else s

/-- The code of the nearest nominal rate within ±2%, or 0; `f` in 2^-4 Hz (R431). -/
def aesRate (f : Nat) : Nat :=
  let near (n : Nat) : Bool := decide (n * 16 * 98 ≤ f * 100 ∧ f * 100 ≤ n * 16 * 102)
  let l := [32000, 44100, 48000, 88200, 96000, 176400, 192000]
  match l.findIdx? near with | some k => k + 1 | none => 0

/-- The end of a whole block of receiver i, whose measured frame rate is `f` (R431, R432, R452). -/
def aesBlockEnd (s : State) (i f : Nat) : State :=
  let x := aesRx s i
  if aes3Pairs s ≤ i ∨ !(unitRuns s 0x13) ∨ !(aesLocked s i) ∨ x.pos ≠ 192 then s
  else
    let s := setAesRx s i { x with pos := 0, rate := if x.rate = 0 then f else x.rate }
    let s := rput (rset s (R.AES3_RXFREQ i) (word f)) (R.AES3_RXSTAT i) 6 4 (aesRate f)
    let a := csBytes x.csA
    let b := csBytes x.csB
    let s := if csOk a && csOk b then
        let s := (List.range 6).foldl (fun s j =>
          rset (rset s (R.AES3_RXCSA0 i + 4 * j) (word (fieldAt a (4 * j) 4))) (R.AES3_RXCSB0 i + 4 * j)
            (word (fieldAt b (4 * j) 4))) s
        aesSticky (rwrap s (R.AES3_RXSEQ i) 1) i 8 none
      else aesSticky (rcount s (R.AES3_RXCSCRC i) 1) i 14 (some Code.AES3_CS_CRC)
    let moved : Bool := x.rate ≠ 0 && decide (2 * x.rate < ((f : Int) - x.rate).natAbs * 1000)
    if moved ∧ aesPushing s i then
      let s := aesSticky (rputb s (R.AES3_RXSTAT i) 1 false) i 13 (some Code.AES3_RATE_CHANGE)
      rputb s (R.AES3_RXSTAT i) 15 (rbit s (R.AES3_RXCFG i) 4)
    else s

/-- AES3_RX_FRAME (R431, R450, R451). -/
def execAes3RxFrame (i : Fin 4) (a b : SubFrame) (z : Bool) (age : BitVec 64) (s : State) : Out :=
  .next (aesFrame s i a b z age)
/-- AES3_RX_BLOCK_END (R431, R432, R452). -/
def execAes3RxBlockEnd (i : Fin 4) (freq : BitVec 24) (s : State) : Out := .next (aesBlockEnd s i freq.toNat)

/-! AES3 transmitters (R434 to R436) -/

def aesTx (s : State) (i : Nat) : AesTx := mget s.io.aesTx i {}
def setAesTx (s : State) (i : Nat) (x : AesTx) : State := { s with io := { s.io with aesTx := mset s.io.aesTx i x } }

/-- A write of COMMIT (R435). -/
def aesCommit (s : State) (i : Nat) (w : Wr) : State := if w.one 8 then rputb s (R.AES3_TXSTAT i) 2 true else s

/-- A write of AES3_TXCFGi (R434, R435, R447). -/
def aesTxCfgWrite (s : State) (r : Req) (i : Nat) (w : Wr) : State :=
  let a := R.AES3_TXCFG i
  let fields : Wr := ⟨w.v, w.m &&& ~~~ (0x100 : Word)⟩
  let s := aesCommit s i w
  if rbit s a 0 then
    match endpointLive s [0xA4 + i] with
    | some n => liveWrite s r n
    | none =>
      if bit w.v 0 then s
      else setAesTx (genericWrite s r a fields) i { aesTx s i with ending := rbit s (R.AES3_TXSTAT i) 0 }
  else
    let t := boundWrite s r a fields 0x3F [0xA4 + i]
    if !(rbit t a 0) then t
    else
      let cfg := rget t a
      if bits cfg 5 2 ∈ [2, 4, 8, 12] then
        rputb (setAesTx t i { aesTx t i with cfg := cfg, n := 0, ending := false }) (R.AES3_TXSTAT i) 0 true
      else unitSticky (rputb t a 0 false) 0x13 (R.AES3_TXSTAT i) 1 (some Code.SAP_CFG_BAD) i false 0 (some r)

/-- Writes of AES3's registers. -/
def aesWrite (s : State) (r : Req) (a : Nat) (w : Wr) : State :=
  let o := a - 0x40130000
  let i := if 0x400 ≤ o then (o - 0x400) / 0x80 else (o - 0x100) / 0x80
  if aes3Pairs s ≤ i then s
  else if a = R.AES3_TXCFG i then aesTxCfgWrite s r i w
  else if a = R.AES3_RXCFG i then
    let on := rbit s a 0
    let w := substGuard w 1
    let s := if w.one 5 then rputb s (R.AES3_RXSTAT i) 15 false else s
    let t := boundWrite s r a ⟨w.v, w.m &&& ~~~ (0x20 : Word)⟩ 1 [0xA0 + i]
    if on ∧ !(rbit t a 0) then setAesRx t i { aesRx t i with ending := true }
    else if !on ∧ rbit t a 0 then setAesRx t i {}
    else t
  else genericWrite s r a w

/-- The channel-status bit n of an active buffer as it is sent (R435, R436). -/
def csSent (crcgen : Bool) (l : List Byte) (n : Nat) : Bool :=
  let l := sub l 0 24
  let l := if crcgen ∧ (l.getD 0 0).getLsbD 0 then l.take 23 ++ [crc8 (l.take 23)] else l
  (l.getD (n / 8) 0).getLsbD (n % 8)

/-- A subframe as sent: audio in [31:8], Z in [7], V, U and C in [3:1], even parity over audio, V, U and C in [0]. -/
def aesSent (v : Word) (z c : Bool) : Word :=
  let x := (v &&& 0xFFFFFF0C) ||| word (128 * b2n z + 2 * b2n c)
  let par := (List.range 32).foldl (fun b j => b != (j ≠ 7 && bit x j)) false
  x ||| word (b2n par)

/-- A transmitter sends a frame (R434 to R436, R448): wire 0x1300 + i holds its two subframes. -/
def aesTxFrame (s : State) (i : Nat) (ecc : List Ecc) : State :=
  if aes3Pairs s ≤ i ∨ !(unitRuns s 0x13) ∨ !(rbit s (R.AES3_TXSTAT i) 0) then s
  else
    let x := aesTx s i
    let src := bit x.cfg 6
    let (s, es) := sinkTakeN s (0xA4 + i) 1 ecc
    let vs := unpair es
    let a := vs.getD 0 0
    let b := vs.getD 1 0
    let z := if src then bit a 7 else decide (x.n = 0)
    let s := if z ∧ rbit s (R.AES3_TXSTAT i) 2 then
        let take (o : Nat) : List Byte := (List.range 6).flatMap fun j => leBytes 4 (rget s (o + 4 * j)).toNat
        rputb (setAesTx s i { x with csA := take (R.AES3_TXCSA0 i), csB := take (R.AES3_TXCSB0 i) }) (R.AES3_TXSTAT i) 2 false
      else s
    let x := aesTx s i
    let n := if z then 0 else x.n
    let c (l : List Byte) (v : Word) : Bool := if src then bit v 1 else csSent (bit x.cfg 7) l n
    let s := wireOut s (0x1300 + i) [aesSent a z (c x.csA a), aesSent b z (c x.csB b)]
    let s := setAesTx s i { x with n := (n + 1) % 192 }
    if x.ending then
      { rputb (setAesTx s i { x with ending := false }) (R.AES3_TXSTAT i) 0 false with wire := mset s.wire (0x1300 + i) [] }
    else s

/-- AES3_RESUME (R452). -/
def execAes3Resume (q : RegAcc) (i : Fin 4) (s : State) : Out :=
  .next (onWrite s q (R.AES3_RXCFG i) fun r w => aesWrite s r (R.AES3_RXCFG i) w)
/-- AES3_TX_ENABLE (R434). -/
def execAes3TxEnable (q : RegAcc) (i : Fin 4) (s : State) : Out :=
  .next (onWrite s q (R.AES3_TXCFG i) fun r w => aesWrite s r (R.AES3_TXCFG i) w)
/-- AES3_TX_COMMIT (R435). -/
def execAes3TxCommit (q : RegAcc) (i : Fin 4) (s : State) : Out :=
  .next (onWrite s q (R.AES3_TXCFG i) fun r w => aesWrite s r (R.AES3_TXCFG i) w)
/-- AES3_TX_FRAME (R434 to R436). -/
def execAes3TxFrame (i : Fin 4) (ecc : List Ecc) (s : State) : Out := .next (aesTxFrame s i ecc)

/-! MADI (R437 to R439, R450 to R452) -/

def setMadi (s : State) (x : Madi) : State := { s with io := { s.io with madi := x } }

/-- Channels of a configuration (R438). -/
def madiChans (cfg : Word) : Nat := (if bit cfg 3 then 56 else 64) / (if bit cfg 2 then 2 else 1)

/-- The sticky bits of MADI_STAT: IRQ bit n serves bit n − 8. -/
def madiSticky (s : State) (b : Nat) (code : Option Nat) : State :=
  unitSticky s 0x14 R.MADI_STAT b code 0 (rbit s R.MADI_CFG (b + 8)) 196

/-- A frame rate in 2^-4 Hz that the receiver accepts: within ±12.5% of a nominal rate with 56 or 28 channels, within
±0.2% with 64 or 32; nominal are 32, 44.1 and 48 kHz, doubled with MODE96 (R438). -/
def madiRateOk (cfg : Word) (f : Nat) : Bool :=
  let k := if bit cfg 2 then 32 else 16
  [32000, 44100, 48000].any fun n =>
    decide (((f : Int) - n * k).natAbs * 1000 ≤ n * k * (if bit cfg 3 then 125 else 2))

/-- A lock loss of the receiver (R451). -/
def madiLockLost (s : State) : State :=
  let x := s.io.madi
  if !(rbit s R.MADI_STAT 0) then s
  else
    let fresh := !(rbit s R.MADI_STAT 20)
    let fly := if rbit s R.MADI_STAT 1 then rbits s R.MADI_CFG 23 16 else 0
    let s := setMadi s { x with fly := fly, lost := true }
    let s := rputb (rputb s R.MADI_STAT 0 false) R.MADI_STAT 1 (fly ≠ 0)
    let s := madiSticky (rcount s R.MADI_LOCKLOSS 1) 20 none
    if fresh ∨ !x.lost then logUnit s (unitSecure s 0x14) Code.MADI_LOCK_LOST 0 0 else s

/-- The frame fields, which a write reaches only while neither direction is enabled (R447). -/
def madiFrameBits : Word := 0x3C

/-- A write of MADI_CFG (R447, R448). -/
def madiWrite (s : State) (r : Req) (a : Nat) (w : Wr) : State :=
  if a ≠ R.MADI_CFG then genericWrite s r a w
  else
    let w := substGuard w 8
    let held : Bool := (bit w.v 0 && rbit s a 0) || (bit w.v 1 && rbit s a 1)
    let old := rget s a
    let t := boundWrite s r a (if held then ⟨w.v, w.m &&& ~~~ madiFrameBits⟩ else w) 0x3F [0xA8, 0xA9]
    let cfg := rget t a
    let x := t.io.madi
    let x := if bit cfg 0 ∧ !(bit old 0) then { x with rx := cfg, rxOn := true, rxEnding := false, fly := 0 }
      else if !(bit cfg 0) ∧ bit old 0 then { x with rxEnding := x.rxOn } else x
    let x := if bit cfg 1 ∧ !(bit old 1) then { x with tx := cfg, txOn := true, txEnding := false }
      else if !(bit cfg 1) ∧ bit old 1 then { x with txEnding := x.txOn } else x
    setMadi t x

/-- One channel of a received frame, with the errors it makes (R439, R450). -/
def madiChan (cfg : Word) (st : State × List Word) (j : Nat) (c : Option MadiSub) : State × List Word :=
  let (s, l) := st
  match c with
  | none => (s, l ++ [chanWord 0 false true false false false false])
  | some c =>
    let s := match c.err with
      | .none => s
      | .code => madiSticky (rcount s R.MADI_CODEERR 1) 16 (some Code.MADI_CODE)
      | .parity => madiSticky (rcount s R.MADI_PARITYERR 1) 17 (some Code.MADI_PARITY)
    let bad : Bool := c.err ≠ .none || (bit cfg 10 && c.v)
    let prev := mget s.io.madi.prev j 0
    let v := if bad then substitute (bits cfg 9 8) c.audio prev else c.audio
    let s := if bad then s else setMadi s { s.io.madi with prev := mset s.io.madi.prev j c.audio }
    (s, l ++ [chanWord v c.block bad c.active c.v c.u c.c])

/-- A frame of the receiver (R438, R439, R451). -/
def madiFrame (s : State) (sync : Bool) (f : Nat) (l : List MadiSub) (age : BitVec 64) : State :=
  let x := s.io.madi
  if !(unitRuns s 0x14) ∨ !x.rxOn then s
  else
    let cfg := (x.rx &&& madiFrameBits) ||| (rget s R.MADI_CFG &&& ~~~ madiFrameBits)
    let s :=
      if !sync then madiLockLost (madiSticky (rcount s R.MADI_SYNCERR 1) 18 none)
      else
        let fresh := !(rbit s R.MADI_STAT 20)
        let s := if rbit s R.MADI_STAT 0 then s
          else madiSticky (rputb (setMadi s { s.io.madi with fly := 0, lost := if fresh then false else x.lost }) R.MADI_STAT 0 true)
            20 none
        let s := rput (rset s R.MADI_RXFREQ (word f)) R.MADI_STAT 14 8 l.length
        let n := madiChans cfg
        let format (s : State) : State := madiSticky (rcount s R.MADI_FORMATERR 1) 19 (some Code.MADI_FORMAT)
        let s := if l.length = n then s else format s
        if madiRateOk cfg f then
          let (s, ws) := (List.range n).foldl (fun st j => madiChan cfg st j l[j]?) (s, [])
          portPushAll (rputb s R.MADI_STAT 1 true) 0xA8 (pairUp ws) (some (stampAgo s age))
        else if rbit s R.MADI_STAT 1 then format (rputb s R.MADI_STAT 1 false)
        else s
    if x.rxEnding then
      rputb (rputb (setMadi s { s.io.madi with rxOn := false, rxEnding := false, fly := 0 }) R.MADI_STAT 0 false) R.MADI_STAT 1 false
    else s

/-- A frame of the transmitter (R438, R439): wire 0x1400 holds its channels as in the entry, with
frame sync in [4], subframe B in [0] and even parity over audio, V, U and C in [6]. -/
def madiTxFrame (s : State) (ecc : List Ecc) : State :=
  let x := s.io.madi
  if !(unitRuns s 0x14) ∨ !x.txOn then s
  else
    let n := madiChans x.tx
    let (s, es) := sinkTakeN s 0xA9 (n / 2) ecc
    let out := ((unpair es).take n).zipIdx.map fun (v, j) =>
      let par := (List.range 32).foldl (fun b k => b != ((8 ≤ k || (1 ≤ k && k ≤ 3)) && bit v k)) false
      (v &&& 0xFFFFFFAE) ||| word (64 * b2n par + 16 * b2n (j = 0) + j % 2)
    let s := wireOut s 0x1400 out
    if x.txEnding then { setMadi s { x with txOn := false, txEnding := false } with wire := mset s.wire 0x1400 [] } else s

/-- FLY_FRAME (R451): a zero frame with ERR at the last rate. -/
def flyFrame (s : State) (src : FlySrc) (age : BitVec 64) : State :=
  let z : Word := chanWord 0 false true false false false false
  match src with
  | .aes i =>
    let x := aesRx s i
    if !(unitRuns s 0x13) ∨ x.fly = 0 then s
    else
      let s := portPushAll (setAesRx s i { x with fly := x.fly - 1 }) (0xA0 + i) [z ||| z <<< 32] (some (stampAgo s age))
      if x.fly = 1 then rputb s (R.AES3_RXSTAT i) 1 false else s
  | .madi =>
    let x := s.io.madi
    if !(unitRuns s 0x14) ∨ x.fly = 0 then s
    else
      let s := portPushAll (setMadi s { x with fly := x.fly - 1 }) 0xA8
        (List.replicate (madiChans x.rx / 2) (z ||| z <<< 32)) (some (stampAgo s age))
      if x.fly = 1 then rputb s R.MADI_STAT 1 false else s

def execFlyFrame (src : FlySrc) (age : BitVec 64) (s : State) : Out := .next (flyFrame s src age)
/-- MADI_RX_FRAME (R438, R439, R450, R451). -/
def execMadiRxFrame (sync : Bool) (freq : BitVec 24) (l : List MadiSub) (age : BitVec 64) (s : State) : Out :=
  .next (madiFrame s sync freq.toNat l age)
/-- MADI_TX_FRAME (R438, R439). -/
def execMadiTxFrame (ecc : List Ecc) (s : State) : Out := .next (madiTxFrame s ecc)
/-- MADI_LOS (R451). -/
def execMadiLos (s : State) : Out := .next (if unitRuns s 0x14 then madiLockLost s else s)

/-! PDM (R440 to R443, R454) -/

def setPdm (s : State) (x : Pdm) : State := { s with io := { s.io with pdm := x } }

/-- Pins of PDM on the variant. -/
def pdmPins (s : State) : Nat := pdmChannels s / 2

/-- CLKDIV × DEC: audio clocks of one output period. -/
def pdmDiv (cfg : Word) : Nat := bits cfg 15 8 * (if bit cfg 2 then 32 else 64)

/-- A write of PDM_CFG (R440, R442, R447, R448). -/
def pdmWrite (s : State) (r : Req) (a : Nat) (w : Wr) : State :=
  if a ≠ R.PDM_CFG then genericWrite s r a w
  else
    let w : Wr := ⟨w.v, w.m &&& ~~~ (mask 7 4 &&& ~~~ mask (3 + pdmPins s) 4)⟩
    if rbit s a 0 then
      match endpointLive s [0xAA] with
      | some n => liveWrite s r n
      | none =>
        if bit w.v 0 then s
        else setPdm (genericWrite s r a w) { s.io.pdm with ending := rbit s R.PDM_STAT 0 }
    else
      let t := boundWrite s r a w 0xFFF7 [0xAA]
      if !(rbit t a 0) then t
      else
        let cfg := rget t a
        if 8 ≤ bits cfg 15 8 ∧ (pdmDiv cfg = 512 ∨ pdmDiv cfg = 1024) then
          rputb (setPdm t { cfg := cfg, zero := 32 }) R.PDM_STAT 0 true
        else unitSticky (rputb t a 0 false) 0x15 R.PDM_STAT 1 (some Code.SAP_CFG_BAD) 0 false 0 (some r)

/-- The channels of the enabled pins, in ascending order (R423). -/
def pdmChans (cfg : Word) : List Nat := (List.range 8).filter fun c => bit cfg (4 + c / 2)

/-- The stamp of a sample: the DTB less the group delay of 16.5 or 20.5 output periods at the nominal clock (R442,
R443). -/
def pdmStamp (s : State) (cfg : Word) : Word :=
  let halves := if bit cfg 2 then 41 else 33
  let clk := if bit cfg 1 then 49152000 else 45158400
  let back := halves * pdmDiv cfg * 1000000000 * 2 ^ 32 / (2 * clk)
  ((s.dtb - BitVec.ofNat 96 back) >>> 32).setWidth 64

/-- An output sample frame (R441 to R443, R454): each channel's value, and whether its data changed since its last sample. -/
def pdmSample (s : State) (l : List (BitVec 24 × Bool)) : State :=
  let x := s.io.pdm
  if !(unitRuns s 0x15) ∨ !(rbit s R.PDM_STAT 0) then s
  else
    let cs := pdmChans x.cfg
    let stuck := x.stuck.filter fun c => !(cs.zipIdx.any fun (d, k) => d = c && (l.getD k (0, false)).2)
    let ws := cs.zipIdx.map fun (c, k) =>
      if 0 < x.zero ∨ (c ∈ stuck ∧ bit x.cfg (16 + c / 2)) then (0 : Word)
      else (l.getD k (0, false)).1.setWidth 64 <<< 8
    let s := portPushAll (setPdm s { x with zero := x.zero - 1, stuck := stuck }) 0xAA (pairUp ws) (some (pdmStamp s x.cfg))
    if x.ending then rputb (setPdm s {}) R.PDM_STAT 0 false else s

/-- PDM_ENABLE (R440). -/
def execPdmEnable (q : RegAcc) (s : State) : Out := .next (onWrite s q R.PDM_CFG fun r w => pdmWrite s r R.PDM_CFG w)
/-- PDM_SAMPLE (R441 to R443). -/
def execPdmSample (l : List (BitVec 24 × Bool)) (s : State) : Out := .next (pdmSample s l)
/-- PDM_STUCK (R454). -/
def execPdmStuck (c : Fin 8) (s : State) : Out :=
  let x := s.io.pdm
  if unitRuns s 0x15 ∧ rbit s R.PDM_STAT 0 ∧ c.val ∈ pdmChans x.cfg ∧ c.val ∉ x.stuck then
    .next (unitSticky (rcount (setPdm s { x with stuck := c.val :: x.stuck }) R.PDM_STUCKCNT 1) 0x15 R.PDM_STAT (8 + c)
      (some Code.PDM_STUCK) c (bit x.cfg 20) 197)
  else .next s

end Sys2Proof.Machine
end

