-- ==== Sys2Proof/Machine/Video.lean ====
section
/-! DEFINITION. SDI: receivers, transmitters, pixel stages and the genlock reference (R456 to R483). -/
namespace Sys2Proof.Machine

/-! Rasters and rates (R456, R458) -/

/-- Active width, active lines, interlaced, and frames a second in thousandths at the integer rate, of a raster code. -/
def rasterOf (code : Nat) : Nat × Nat × Bool × Nat :=
  match code with
  | 1 => (720, 486, true, 29970) | 2 => (720, 576, true, 25000)
  | 3 => (1280, 720, false, 50000) | 4 => (1280, 720, false, 60000)
  | 5 => (1920, 1080, true, 25000) | 6 => (1920, 1080, true, 30000)
  | 7 => (1920, 1080, false, 24000) | 8 => (1920, 1080, false, 25000) | 9 => (1920, 1080, false, 30000)
  | 10 => (1920, 1080, false, 50000) | 11 => (1920, 1080, false, 60000)
  | 12 => (3840, 2160, false, 24000) | 13 => (3840, 2160, false, 25000) | 14 => (3840, 2160, false, 30000)
  | 15 => (3840, 2160, false, 50000) | 16 => (3840, 2160, false, 60000)
  | _ => (0, 0, false, 0)

def rasterW (code : Nat) : Nat := (rasterOf code).1
def rasterH (code : Nat) : Nat := (rasterOf code).2.1
def rasterI (code : Nat) : Bool := (rasterOf code).2.2.1

/-- Whether port p runs rate 1 to 7 (R456). -/
def sdiRateOk (s : State) (p rate : Nat) : Bool :=
  (1 ≤ rate && rate ≤ 5) || ((rate = 6 || rate = 7) && s.variant = .zm8640 && p = 0)

/-- The RATEMASK bit of a rate. -/
def rateBit (rate : Nat) : Nat := match rate with | 1 => 0 | 2 => 1 | 3 | 4 | 5 => 2 | 6 => 3 | _ => 4

/-- Whether raster `code` with sampling `samp` is carried at a rate (R458). -/
def carried (code samp rate : Nat) : Bool :=
  if samp = 0 then
    if code ≤ 2 then rate = 1 else if code ≤ 9 then rate = 2 || rate = 5
    else if code ≤ 11 then rate = 3 || rate = 4 else if code ≤ 14 then rate = 6 else rate = 7
  else (7 ≤ code && code ≤ 9 && rate = 3) || (12 ≤ code && code ≤ 14 && rate = 7)

/-- Whether some rate of port p carries the raster and sampling. -/
def codeOk (s : State) (p code samp : Nat) : Bool :=
  1 ≤ code && code ≤ 16 && samp < 3 && (List.range 8).any fun r => sdiRateOk s p r && carried code samp r

/-- Pixels of the bands that port p holds (R465). -/
def bandMax (s : State) (p : Nat) : Nat := if s.variant = .zm8640 ∧ p = 0 then 4096 else 2048

/-- A form that a raster cannot take: ENT 1 with 4:4:4; tiles with ENT 1, of an interlaced raster, or of a band too wide
(R464, R465, R479). -/
def formBad (s : State) (p code samp : Nat) (ent tile : Bool) : Bool :=
  (ent && samp != 0) || (tile && (ent || rasterI code || decide (bandMax s p < rasterW code)))

/-! Pixel stage (R467 to R469) -/

def pix (s : State) (p : Nat) : Pix := mget s.io.pix p {}
def setPix (s : State) (p : Nat) (x : Pix) : State := { s with io := { s.io with pix := mset s.io.pix p x } }

/-- The active matrix and offsets: those of reset until the first copy. -/
def pixMat (x : Pix) (j : Nat) : Word := x.mat.getD j (if j = 0 ∨ j = 4 ∨ j = 8 then 0x1000 else 0)

def clip12 (v : Int) : Nat := (max 0 (min 4095 v)).toNat

/-- The matrix with offsets (R467). -/
def pixMatrix (x : Pix) (c : List Nat) : List Nat :=
  (List.range 3).map fun r =>
    let sum := (List.range 3).foldl (fun (a : Int) k => a + sint 16 (pixMat x (3 * r + k)).toNat * (c.getD k 0 : Nat)) 0
    clip12 ((sum + 2 ^ 11) / 2 ^ 12 + sint 14 (pixMat x (9 + r)).toNat)

/-- A 1D LUT (R468). -/
def pixLut1 (x : Pix) (c v : Nat) : Nat :=
  let l (i : Nat) : Int := (mget x.lut (c * 65536 + min i 1023) 0 : Nat)
  let i := v / 4
  ((l i + ((l (i + 1) - l i) * ((v % 4 : Nat) : Int) + 2) / 4) % 4096).toNat

/-- Nodes along an edge of the 3D LUT. -/
def lut3N (s : State) : Nat := if s.variant = .zm8640 then 33 else 17

/-- Component c of a 3D LUT node. -/
def lut3At (s : State) (x : Pix) (c : Nat) (n : List Nat) : Nat :=
  let g := lut3N s
  let k (j : Nat) : Nat := min (n.getD j 0) (g - 1)
  mget x.lut (3 * 65536 + k 0 + g * (k 1 + g * k 2)) 0 / 4096 ^ c % 4096

/-- The 3D LUT: tetrahedral interpolation, rounded half up (R468). -/
def pixLut3 (s : State) (x : Pix) (v : List Nat) : List Nat :=
  let cell := 4096 / (lut3N s - 1)
  let base := v.map (· / cell)
  let f (j : Nat) : Nat := v.getD j 0 % cell
  let order := if f 0 ≥ f 1 then (if f 1 ≥ f 2 then [0, 1, 2] else if f 0 ≥ f 2 then [0, 2, 1] else [2, 0, 1])
    else (if f 0 ≥ f 2 then [1, 0, 2] else if f 1 ≥ f 2 then [1, 2, 0] else [2, 1, 0])
  let o (j : Nat) : Nat := order.getD j 0
  let up (k : Nat) : List Nat := (List.range 3).map fun j => base.getD j 0 + b2n (j ∈ order.take k)
  (List.range 3).map fun c =>
    let n (k : Nat) : Nat := lut3At s x c (up k)
    ((cell - f (o 0)) * n 0 + (f (o 0) - f (o 1)) * n 1 + (f (o 1) - f (o 2)) * n 2 + f (o 2) * n 3 + cell / 2) / cell

/-- The stage on the three 12-bit components of a pixel, on the receive path (`tx` false) or the transmit path. -/
def pixStage (s : State) (p : Nat) (tx : Bool) (v : List Nat) : List Nat :=
  let x := pix s p
  if bit x.cfg 0 != tx then v
  else
    let v := if bit x.cfg 1 then pixMatrix x v else v
    let v := if bit x.cfg 2 then v.zipIdx.map fun (a, c) => pixLut1 x c a else v
    if bit x.cfg 3 then pixLut3 s x v else v

/-- The components of an ENT 0 entry, 12 bits each, and the entry of three components. -/
def entComps (e : Word) : List Nat := [bits e 15 4, bits e 31 20, bits e 47 36]
def entOf (v : List Nat) : Word := word (16 * (v.getD 0 0 + 65536 * (v.getD 1 0 + 65536 * v.getD 2 0)))

/-! Receivers (R459 to R466, R481, R482) -/

def sdiRx (s : State) (p : Nat) : SdiRx := mget s.io.sdiRx p {}
def setSdiRx (s : State) (p : Nat) (x : SdiRx) : State := { s with io := { s.io with sdiRx := mset s.io.sdiRx p x } }

def sdiLocked (s : State) (p : Nat) : Bool := rbit s (R.SDI_RXSTAT p) 0

/-- The sticky bits of SDI_RXSTATp. -/
def sdiSticky (s : State) (p i : Nat) (code : Option Nat) (by' : Option Req := none) : State :=
  unitSticky s 0x16 (R.SDI_RXSTAT p) i code p (rbit s (R.SDI_RXIRQ p) i) (198 + p) by'

/-- A violation of a class: its counter and its sticky bit. -/
def sdiViol (s : State) (p cnt i code : Nat) : State := sdiSticky (rcount s cnt 1) p i (some code)

def rxEnt (cfg : Word) : Bool := bit cfg 7
def rxTile (cfg : Word) : Bool := bit cfg 8
def tileH (th8 : Bool) : Nat := if th8 then 8 else 4

/-- The detected raster and sampling match RXFMT, and the port's form can carry them (R460). -/
def sdiMatch (s : State) (p : Nat) : Bool :=
  let x := sdiRx s p
  let f := rget s (R.SDI_RXFMT p)
  let cfg := rget s (R.SDI_RXCFG p)
  codeOk s p x.code x.samp && (bits f 4 0 = 0 || (bits f 4 0 = x.code && bits f 6 5 = x.samp)) &&
  !(formBad s p x.code x.samp (rxEnt cfg) (rxTile cfg))

/-- Entries of one line (R465). -/
def lineLen (code : Nat) (ent : Bool) : Nat := if ent then rasterW code / 2 else rasterW code

/-- A 12-bit component from a received 10-bit value. -/
def up12 (v : BitVec 10) : Nat := 4 * v.toNat

/-- The entries of a line from its active words, before truncation or padding (R464). -/
def lineEntries (s : State) (p : Nat) (samp : Nat) (ent : Bool) (ws : List (BitVec 10)) : List Word :=
  let w (i : Nat) : Nat := up12 (ws.getD i 0)
  if ent then
    (List.range (ws.length / 4)).map fun j =>
      word (16 * (w (4 * j) + 65536 * (w (4 * j + 1) + 65536 * (w (4 * j + 2) + 65536 * w (4 * j + 3)))))
  else if samp = 0 then
    let n := ws.length / 2
    (List.range n).map fun i =>
      let j := i / 2
      let ch (o : Nat) : Nat :=
        if i % 2 = 0 ∨ n ≤ i + 1 then w (4 * j + o) else (w (4 * j + o) + w (4 * j + 4 + o) + 1) / 2
      entOf (pixStage s p false [w (2 * i + 1), ch 0, ch 2])
  else (List.range (ws.length / 3)).map fun i => entOf (pixStage s p false [w (3 * i), w (3 * i + 1), w (3 * i + 2)])

/-- A list cut or padded with zero entries to n. -/
def fitTo (n : Nat) (l : List Word) : List Word := (List.range n).map fun i => l.getD i 0

/-- The tiles of a band in the order they are pushed: left to right, each in raster order (R465). -/
def tilesOf (tw : Nat) (rows : List (List Word)) : List Word :=
  (List.range (((rows.headD []).length + tw - 1) / tw)).flatMap fun t =>
    rows.flatMap fun r => (r.drop (t * tw)).take tw

def freezeWord : Word := 0xFFFFFFFFFFFFFFFF

/-- One active line of the picture goes out: in line mode as a sample, in tile mode into the band (R464 to R466). A freeze
sample is all ones throughout. -/
def sdiEmit (s : State) (p : Nat) (entries : List Word) (stamp : Word) : State :=
  let x := sdiRx s p
  let cfg := rget s (R.SDI_RXCFG p)
  let c := 0xB0 + p
  if !(rxTile cfg) then portEmit s c (if x.freeze then entries.map (fun _ => freezeWord) else entries) (some stamp)
  else
    let stamp := if x.rows = [] then stamp else x.stamp
    let rows := x.rows ++ [entries]
    if rows.length < tileH (bit cfg 9) then setSdiRx s p { x with rows := rows, stamp := stamp }
    else
      let es := tilesOf (16 * 2 ^ bits cfg 11 10) rows
      portEmit (setSdiRx s p { x with rows := [], stamp := stamp }) c (if x.freeze then es.map (fun _ => freezeWord) else es)
        (some stamp)

/-- A freeze line of a frame whose lock is lost (R482). -/
def sdiFreezeLine (s : State) (p : Nat) (age : BitVec 64) : State :=
  let x := sdiRx s p
  if x.owed = 0 then s
  else
    let n := lineLen x.code (rxEnt (rget s (R.SDI_RXCFG p)))
    let s := sdiEmit (setSdiRx s p { x with freeze := true, owed := x.owed - 1 }) p (List.replicate n 0) (stampAgo s age)
    if x.owed = 1 ∧ x.fly = 0 then rputb s (R.SDI_RXSTAT p) 1 false else s

/-- The checks of a line (R461): the state with their violations, and whether one of a class whose FREEZE bit is 1 was
found. -/
def sdiChecks (s : State) (p : Nat) (l : SdiLine) (words : List (BitVec 10)) : State × Bool :=
  let x := sdiRx s p
  let rate := rbits s (R.SDI_RXSTAT p) 4 2
  let fz (i : Nat) : Bool := rbit s (R.SDI_RXCFG p) (12 + i)
  let want := rasterW x.code * (if x.samp = 0 then 2 else 3)
  let crc := l.crc && rate != 1
  let edh := l.edh && rate == 1
  let trs := l.trs || (l.ln && rate != 1)
  let len := l.active && words.length != want
  let vp : Bool := match l.vpid with | some (_, ok) => !ok | none => false
  let s := match l.vpid with | some (v, _) => rset s (R.SDI_RXVPID p) (v.setWidth 64) | none => s
  let s := if crc then sdiViol s p (R.SDI_RXCRC p) 16 Code.SDI_CRC else s
  let s := if edh then sdiViol s p (R.SDI_RXEDH p) 17 Code.SDI_EDH else s
  let s := if trs then sdiViol s p (R.SDI_RXTRS p) 18 Code.SDI_TRS else s
  let s := if len then sdiViol s p (R.SDI_RXLEN p) 19 Code.SDI_LENGTH else s
  let s := if vp then sdiViol s p (R.SDI_RXVPIDERR p) 20 Code.SDI_VPID else s
  (s, (crc && fz 0) || (edh && fz 1) || (trs && fz 2) || (len && fz 3) || (vp && fz 4))

/-- A line of a locked receiver (R460, R461, R464 to R466, R481). -/
def sdiLine (s : State) (p : Nat) (l : SdiLine) (age : BitVec 64) : State :=
  let cfg := rget s (R.SDI_RXCFG p)
  let words := if rbits s (R.SDI_RXSTAT p) 4 2 = 5 ∧ bit cfg 6 then l.words2 else l.words
  let (s, bad) := sdiChecks s p l words
  let x := sdiRx s p
  let s := if bad ∧ x.y.isSome then setSdiRx s p { x with freeze := true } else s
  if !l.active then s
  else
    let s := if l.first then
        let s := rputb s (R.SDI_RXSTAT p) 1 (sdiMatch s p)
        setSdiRx s p { sdiRx s p with y := some 0, freeze := bad, rows := [] }
      else s
    let x := sdiRx s p
    match x.y with
    | none => s
    | some y =>
      let h := rasterH x.code
      let s := setSdiRx s p { x with y := if y + 1 < h then some (y + 1) else none }
      if rbit s (R.SDI_RXSTAT p) 1 then
        sdiEmit s p (fitTo (lineLen x.code (rxEnt cfg)) (lineEntries s p x.samp (rxEnt cfg) words)) (stampAgo s age)
      else s

/-- SDI_RX_LINE: a locked receiver's line; while freeze frames run, the next freeze line. -/
def execSdiRxLine (p : Fin 4) (l : SdiLine) (age : BitVec 64) (s : State) : Out :=
  if sdiPorts s ≤ p ∨ !(unitRuns s 0x16) ∨ !(rbit s (R.SDI_RXCFG p) 0) then .next s
  else if sdiLocked s p then .next (sdiLine s p l age)
  else .next (sdiFreezeLine s p age)

/-- SDI_RX_LOCK (R459, R460, R480): the receiver locks, or finds another raster while locked. A raster that RXFMT does not
name is a FORMAT violation. -/
def execSdiRxLock (p : Fin 4) (rate : BitVec 3) (frac : Bool) (code : BitVec 5) (samp : BitVec 2) (s : State) : Out :=
  let r := rate.toNat
  if sdiPorts s ≤ p ∨ !(unitRuns s 0x16) ∨ !(rbit s (R.SDI_RXCFG p) 0) ∨ !(sdiRateOk s p r) ∨
      !(rbit s (R.SDI_RXCFG p) (1 + rateBit r)) then .next s
  else
    let a := R.SDI_RXSTAT p
    let was := sdiLocked s p
    let x := sdiRx s p
    let s := rput (rputb (rput s a 4 2 r) a 5 frac) a 10 6 code.toNat
    let s := if was then setSdiRx s p { x with code := code.toNat, samp := samp.toNat }
      else
        let lost := rbit s a 24 && x.lost
        let s := setSdiRx s p { code := code.toNat, samp := samp.toNat, lost := lost, prev := x.prev }
        sdiSticky (rputb (rputb s a 0 true) a 1 false) p 24 none
    let s := (List.range 4).foldl (fun s t =>
      if rbits s (R.SDI_TXCFG t) 8 7 = p.val then
        { s with io := { s.io with sdiTx := mset s.io.sdiTx t { mget s.io.sdiTx t {} with loopLost := false } } }
      else s) s
    .next (if sdiMatch s p then s else sdiSticky s p 21 (some Code.SDI_FORMAT))

/-- SDI_LOCK_LOST (R480, R482): the rest of the frame and FLY whole frames are freeze samples. The first freeze line is
pushed here and each later one at its own line. -/
def execSdiLockLost (p : Fin 4) (age : BitVec 64) (s : State) : Out :=
  if sdiPorts s ≤ p ∨ !(unitRuns s 0x16) ∨ !(sdiLocked s p) then .next s
  else
    let a := R.SDI_RXSTAT p
    let x := sdiRx s p
    let push := rbit s a 1
    let fresh := !(rbit s a 24)
    let fly := if push then rbits s (R.SDI_RXCFG p) 31 24 else 0
    let owed := if push then (match x.y with | some y => rasterH x.code - y | none => 0) else 0
    let s := setSdiRx s p { x with y := none, fly := fly, owed := owed, lost := true }
    let s := rputb (rputb s a 0 false) a 1 (push && (owed ≠ 0 || fly ≠ 0))
    let s := sdiSticky (rcount s (R.SDI_RXLOCK p) 1) p 24 none
    let s := if fresh ∨ !x.lost then logUnit s (unitSecure s 0x16) Code.SDI_LOCK_LOST (word p) 0 else s
    let s := (List.range 4).foldl (fun s t =>
      if rbit s (R.SDI_TXSTAT t) 0 ∧ rbits s (R.SDI_TXCFG t) 6 5 = 2 ∧ rbits s (R.SDI_TXCFG t) 8 7 = p.val then
        rputb { s with io := { s.io with sdiTx := mset s.io.sdiTx t { mget s.io.sdiTx t {} with loopLost := true } } }
          (R.SDI_TXSTAT t) 10 true
      else s) s
    .next (sdiFreezeLine s p age)

/-- SDI_FLY_FRAME (R482): a freeze frame starts with its first line; SDI_RX_LINE brings the others. -/
def execSdiFlyFrame (p : Fin 4) (age : BitVec 64) (s : State) : Out :=
  let x := sdiRx s p
  if !(unitRuns s 0x16) ∨ x.fly = 0 ∨ x.owed ≠ 0 ∨ sdiLocked s p then .next s
  else .next (sdiFreezeLine (setSdiRx s p { x with fly := x.fly - 1, owed := rasterH x.code, rows := [] }) p age)

/-- Whether a packet matches an enabled filter (R462). -/
def ancMatch (s : State) (p : Nat) (k : AncPkt) : Bool :=
  (List.range 8).any fun m =>
    let f := rget s (R.SDI_ANCFILT0 p + 4 * m)
    bit f 31 && bits f 7 0 = k.did.toNat && (word k.sdid.toNat ^^^ word (bits f 15 8)) &&& word (bits f 23 16) = 0

/-- Six 10-bit user data words an entry (R462). -/
def ancData (l : List (BitVec 10)) : List Word :=
  (List.range ((l.length + 5) / 6)).map fun e =>
    word ((List.range 6).foldl (fun a i => a + (l.getD (6 * e + i) 0).toNat * 1024 ^ i) 0)

/-- SDI_ANC_PACKET (R462). -/
def execSdiAncPacket (p : Fin 4) (k : AncPkt) (s : State) : Out :=
  if sdiPorts s ≤ p ∨ !(unitRuns s 0x16) ∨ !(sdiLocked s p) ∨ !(ancMatch s p k) ∨ 255 < k.udw.length then .next s
  else
    let hdr := word (k.did.toNat + k.sdid.toNat * 2 ^ 8 + k.udw.length * 2 ^ 16 + k.line.toNat * 2 ^ 24 +
      b2n k.chroma * 2 ^ 35 + k.link.toNat * 2 ^ 36 + b2n k.csErr * 2 ^ 38 + b2n k.parErr * 2 ^ 39)
    let s := if k.csErr ∨ k.parErr then sdiViol s p (R.SDI_RXANCCS p) 22 Code.SDI_ANC_CS else s
    .next (portPushAll s (0xB8 + p) (hdr :: ancData k.udw) none)

/-- The groups of an AUD register, in the order G0 to G3 (R463). -/
def audGroups (a : Word) : List Nat := [bits a 3 1, bits a 6 4, bits a 9 7, bits a 12 10].filter (· ≠ 0)

/-- SDI_AUDIO_PACKET (R463). -/
def execSdiAudioPacket (p : Fin 4) (l : List SdiAud) (s : State) : Out :=
  let a := rget s (R.SDI_RXAUD p)
  if sdiPorts s ≤ p ∨ !(unitRuns s 0x16) ∨ !(sdiLocked s p) ∨ !(bit a 0) then .next s
  else
    let st := (List.range (4 * (audGroups a).length)).foldl (fun (st : State × List Word) j =>
      let (s, ws) := st
      match l[j]? with
      | none => (s, ws ++ [chanWord 0 false true false false false false])
      | some c =>
        if c.foreign then (s, ws ++ [chanWord 0 false true false false false false])
        else if c.err then
          let v := substitute (bits a 14 13) c.audio (mget (sdiRx s p).prev j 0)
          (sdiViol s p (R.SDI_RXAUDERR p) 23 Code.SDI_AUDIO, ws ++ [chanWord v c.z true false c.v c.u c.c])
        else
          (setSdiRx s p { sdiRx s p with prev := mset (sdiRx s p).prev j c.audio },
            ws ++ [chanWord c.audio c.z false false c.v c.u c.c])) (s, [])
    .next (portPushAll st.1 (0xC0 + p) (pairUp st.2) none)

/-! Transmitters (R470 to R473) -/

def sdiTx (s : State) (p : Nat) : SdiTx := mget s.io.sdiTx p {}
def setSdiTx (s : State) (p : Nat) (x : SdiTx) : State := { s with io := { s.io with sdiTx := mset s.io.sdiTx p x } }

/-- A component as it is sent, and whether it was clipped (R471). -/
def txComp (v16 : Nat) : Nat × Bool :=
  let x := (v16 + 0x20) / 64
  if x < 4 then (4, true) else if 0x3FB < x then (0x3FB, true) else (x, false)

/-- The words of one line from its entries, and how many components were clipped. Fill is black. -/
def txLine (s : State) (p samp : Nat) (ent : Bool) (es : List (Option Word)) : List Nat × Nat :=
  let f (e : Word) (k : Nat) : Nat := bits e (16 * k + 15) (16 * k)
  let staged (e : Word) : Word := entOf (pixStage s p true (entComps e))
  let raw (e : Word) : Word := if bit (pix s p).cfg 0 then staged e else e
  let comp (l : List Nat) : List (Nat × Bool) := l.map txComp
  let black (l : List Nat) : List (Nat × Bool) := l.map fun v => (v, false)
  let out := es.zipIdx.flatMap fun (e, i) =>
    if ent then match e with
      | some e => comp [f e 0, f e 1, f e 2, f e 3]
      | none => black [0x200, 0x040, 0x200, 0x040]
    else if samp = 0 then match e with
      | some e => let e := raw e; if i % 2 = 0 then comp [f e 1, f e 0, f e 2] else comp [f e 0]
      | none => if i % 2 = 0 then black [0x200, 0x040, 0x200] else black [0x040]
    else match e with
      | some e => let e := raw e; comp [f e 0, f e 1, f e 2]
      | none => black (if samp = 1 then [0x040, 0x200, 0x200] else [0x040, 0x040, 0x040])
  (out.map Prod.fst, (out.filter Prod.snd).length)

/-- The rows of a band popped tile by tile (R465). -/
def untile (w tw th : Nat) (es : List (Option Word)) : List (List (Option Word)) :=
  (List.range th).map fun y => (List.range w).map fun x =>
    (es.getD ((x / tw) * tw * th + y * tw + x % tw) none)

/-- SDI_TX_LINE (R465, R467, R471): a line, or in tile mode a band, is popped and sent. Wire 0x1600 + p holds its words. -/
def execSdiTxLine (p : Fin 4) (ecc : List Ecc) (s : State) : Out :=
  if sdiPorts s ≤ p ∨ !(unitRuns s 0x16) ∨ !(rbit s (R.SDI_TXSTAT p) 0) then .next s
  else
    let cfg := rget s (R.SDI_TXCFG p)
    let fmt := rget s (R.SDI_TXFMT p)
    let code := bits fmt 4 0
    let ent := bit cfg 9
    let th := if bit cfg 10 then tileH (bit cfg 11) else 1
    let n := lineLen code ent
    let (s, es) := sinkTakeN s (0xB4 + p) (n * th) ecc
    let rows := if bit cfg 10 then untile n (16 * 2 ^ bits cfg 13 12) th es else [es]
    let outs := rows.map (txLine s p (bits fmt 6 5) ent)
    let clips := outs.foldl (fun a o => a + o.2) 0
    let s := if clips = 0 then s else rputb (rcount s (R.SDI_TXCLIP p) clips) (R.SDI_TXSTAT p) 12 true
    let x := sdiTx s p
    .next (wireOut (setSdiTx s p { x with y := (x.y + th) % rasterH code }) (0x1600 + p) ((outs.flatMap Prod.fst).map word))

/-- A 10-bit ANC word with even parity of its eight data bits in bit 8 and its complement in bit 9. -/
def ancWord (b : Nat) : Nat :=
  let par := (List.range 8).foldl (fun x i => x != (b.testBit i)) false
  b % 256 + 256 * b2n par + 512 * b2n (!par)

/-- The checksum word over nine bits of each word of a packet. -/
def ancSum (l : List Nat) : Nat :=
  let x := l.foldl (fun a w => (a + w % 512) % 512) 0
  x + 512 * b2n (!(x.testBit 8))

/-- SDI_TX_ANC (R472): `fits` says that its line has not passed and that it fits. Wire 0x1610 + p holds the packet. -/
def execSdiTxAnc (p : Fin 4) (fits : Bool) (ecc : List Ecc) (s : State) : Out :=
  if sdiPorts s ≤ p ∨ !(unitRuns s 0x16) ∨ !(rbit s (R.SDI_TXSTAT p) 0) then .next s
  else
    let (s, h) := sinkTake s (0xBC + p) (ecc.getD 0 .good)
    match h with
    | none => .next s
    | some h =>
      let dc := bits h 23 16
      let (s, es) := sinkTakeN s (0xBC + p) ((dc + 5) / 6) (ecc.drop 1)
      let udw := (List.range dc).map fun i => bits ((es.getD (i / 6) none).getD 0) (10 * (i % 6) + 9) (10 * (i % 6))
      if !fits then .next (rputb (rcount s (R.SDI_TXANCDROP p) 1) (R.SDI_TXSTAT p) 11 true)
      else
        let ws := [ancWord (bits h 7 0), ancWord (bits h 15 8), ancWord dc] ++ udw
        .next (wireOut s (0x1610 + p) ((bits h 34 24 :: ws ++ [ancSum ws]).map word))

/-- SDI_TX_AUDIO (R473): wire 0x1620 + p holds the channel words of the sample frame. -/
def execSdiTxAudio (p : Fin 4) (ecc : List Ecc) (s : State) : Out :=
  let a := rget s (R.SDI_TXAUD p)
  if sdiPorts s ≤ p ∨ !(unitRuns s 0x16) ∨ !(rbit s (R.SDI_TXSTAT p) 0) ∨ !(bit a 0) then .next s
  else
    let (s, es) := sinkTakeN s (0xC4 + p) (2 * (audGroups a).length) ecc
    .next (wireOut s (0x1620 + p) (unpair es))

/-! Genlock (R474, R475) -/

/-- LOCKED falls (R474). -/
def vrefLost (s : State) : State :=
  if !(rbit s R.SDI_VREFSTAT 0) then s
  else
    let s := rputb { s with io := { s.io with vref := [] } } R.SDI_VREFSTAT 0 false
    unitSticky s 0x16 R.SDI_VREFSTAT 1 (some Code.VREF_LOST) 0 false 0

/-- VREF_EDGE (R474): an edge `per` ns after the one before. -/
def execVrefEdge (per : BitVec 32) (s : State) : Out :=
  if !(unitRuns s 0x16) ∨ !(rbit s R.SDI_VREF 0) then .next s
  else
    let n := per.toNat
    let mean := (rget s R.SDI_VREFPER).toNat
    if rbit s R.SDI_VREFSTAT 0 ∧ mean < ((n : Int) - mean).natAbs * 1000 then .next (vrefLost s)
    else
      let l := (n :: s.io.vref).take 8
      let s := { s with io := { s.io with vref := l } }
      let lo := l.foldl min n
      let hi := l.foldl max n
      if l.length = 8 ∧ (rbit s R.SDI_VREFSTAT 0 ∨ hi - lo ≤ 1000) then
        .next (rset (rputb s R.SDI_VREFSTAT 0 true) R.SDI_VREFPER (word (l.foldl (· + ·) 0 / 8)))
      else .next s

/-- VREF_LOST (R474, R475): no edge for three periods. Transmitters keep their timing. -/
def execVrefLost (s : State) : Out := .next (if unitRuns s 0x16 then vrefLost s else s)

/-- The frame period in ns of a transmitter: code 1 is 1001/30 ms, others follow FRAC. -/
def framePeriod (code : Nat) (frac : Bool) : Nat :=
  let f := if code = 1 then 30000 else (rasterOf code).2.2.2
  let k := if frac ∨ code = 1 then 1001 else 1000
  if f = 0 then 0 else 1000000000 * k / f

/-- GENLOCK_ACHIEVED (R475). -/
def execGenlockAchieved (p : Fin 4) (s : State) : Out :=
  let cfg := rget s (R.SDI_TXCFG p)
  if sdiPorts s ≤ p ∨ !(unitRuns s 0x16) ∨ !(rbit s (R.SDI_TXSTAT p) 0) ∨ bits cfg 6 5 ≠ 1 ∨ !(rbit s R.SDI_VREFSTAT 0) then
    .next s
  else
    let fp := framePeriod (rbits s (R.SDI_TXFMT p) 4 0) (bit cfg 4)
    let ref := (rget s R.SDI_VREFPER).toNat
    if rbit s R.SDI_VREF 2 = bit cfg 4 ∧ ((fp : Int) - ref).natAbs * 1000 ≤ ref then
      .next (rputb s (R.SDI_TXSTAT p) 1 true)
    else .next (unitSticky s 0x16 (R.SDI_TXSTAT p) 9 (some Code.SDI_GENLOCK) p false 0)

/-! Registers (R469, R477, R479) -/

/-- Stream-bound fields of SDI_RXCFG and SDI_TXCFG. -/
def rxCfgBound : Word := 0xF81
def txCfgBound : Word := 0x3FFF

def rxEnds (p : Nat) : List Nat := [0xB0 + p, 0xB8 + p, 0xC0 + p]
def txEnds (p : Nat) : List Nat := [0xB4 + p, 0xBC + p, 0xC4 + p]

/-- A receiver's EN 1 is refused (R479). -/
def rxCfgBad (s : State) (p : Nat) (cfg : Word) : Bool :=
  let f := rget s (R.SDI_RXFMT p)
  let code := bits f 4 0
  (code ≠ 0 && !(codeOk s p code (bits f 6 5))) || (rxTile cfg && rxEnt cfg) ||
  (code ≠ 0 && formBad s p code (bits f 6 5) (rxEnt cfg) (rxTile cfg))

/-- A write of SDI_RXCFGp. -/
def rxCfgWrite (s : State) (r : Req) (p : Nat) (w : Wr) : State :=
  let a := R.SDI_RXCFG p
  let w : Wr := ⟨w.v, w.m &&& ~~~ (if sdiRateOk s p 6 then 0 else 0x30)⟩
  if rbit s a 0 then
    match endpointLive s (rxEnds p) with
    | some n => liveWrite s r n
    | none =>
      if bit w.v 0 then s
      else rput (setSdiRx (genericWrite s r a w) p {}) (R.SDI_RXSTAT p) 1 0 0
  else
    let t := boundWrite s r a w rxCfgBound (rxEnds p)
    if !(rbit t a 0) then t
    else if rxCfgBad t p (rget t a) then sdiSticky (rputb t a 0 false) p 25 (some Code.SDI_CFG_BAD) (some r)
    else setSdiRx t p {}

/-- A transmitter's EN 1 is refused (R479). -/
def txCfgBad (s : State) (p : Nat) (cfg : Word) : Bool :=
  let f := rget s (R.SDI_TXFMT p)
  let rate := bits cfg 3 1
  let code := bits f 4 0
  !(sdiRateOk s p rate) || rate = 5 || !(1 ≤ code && code ≤ 16 && bits f 6 5 < 3 && carried code (bits f 6 5) rate) ||
  formBad s p code (bits f 6 5) (bit cfg 9) (bit cfg 10) ||
  (bits cfg 6 5 = 2 && (decide (sdiPorts s ≤ bits cfg 8 7) || !(rbit s (R.SDI_RXCFG (bits cfg 8 7)) 0)))

/-- A write of SDI_TXCFGp. -/
def txCfgWrite (s : State) (r : Req) (p : Nat) (w : Wr) : State :=
  let a := R.SDI_TXCFG p
  let st := R.SDI_TXSTAT p
  if rbit s a 0 then
    match endpointLive s (txEnds p) with
    | some n => liveWrite s r n
    | none =>
      if bit w.v 0 then s
      else { rput (setSdiTx (genericWrite s r a w) p {}) st 1 0 0 with wire := mset s.wire (0x1600 + p) [] }
  else
    let t := boundWrite s r a w txCfgBound (txEnds p)
    if !(rbit t a 0) then t
    else if txCfgBad t p (rget t a) then unitSticky (rputb t a 0 false) 0x16 st 8 (some Code.SDI_CFG_BAD) p false 0 (some r)
    else rputb (setSdiTx t p {}) st 0 true

/-- A write that is ignored while `on`, except that a write of an AUD register that clears EN applies. -/
def heldWrite (s : State) (r : Req) (a : Nat) (w : Wr) (on : Bool) (m : Word) (cs : List Nat) : State :=
  if on then (match endpointLive s cs with | some n => liveWrite s r n | none => s) else boundWrite s r a w m cs

/-- A shadow write of the pixel stage, refused while a commit waits (R469). -/
def pixWrite (s : State) (p : Nat) (f : State → State) : State :=
  if rbit s (R.SDI_PIXCTL p) 1 then rputb s (R.SDI_PIXCTL p) 2 true else f s

/-- Whether an index lies within table t (the table under "Registers"). -/
def lutIn (s : State) (t i : Nat) : Bool := if t < 3 then i < 1024 else decide (i < lut3N s * lut3N s * lut3N s)

/-- The key of the shadow LUT entry that SDI_LUTADDRp names. -/
def lutKey (s : State) (p : Nat) : Nat := rbits s (R.SDI_LUTADDR p) 17 16 * 65536 + rbits s (R.SDI_LUTADDR p) 15 0

/-- A write of SDI_LUTDATAp (R469). -/
def lutWrite (s : State) (p : Nat) (w : Wr) : State :=
  pixWrite s p fun s =>
    let k := lutKey s p
    let t := k / 65536
    let old := word (mget (pix s p).shadow k 0)
    let v := ((old &&& ~~~ w.m) ||| (w.v &&& w.m)).toNat % (if t < 3 then 4096 else 2 ^ 36)
    let s := if lutIn s t (k % 65536) then setPix s p { pix s p with shadow := mset (pix s p).shadow k v } else s
    rput s (R.SDI_LUTADDR p) 15 0 (k % 65536 + 1)

/-- Writes of SDI's registers. -/
def sdiWrite (s : State) (r : Req) (a : Nat) (w : Wr) : State :=
  if a < 0x40161000 then genericWrite s r a w
  else
    let p := (a - 0x40161000) / 0x400
    let o := (a - 0x40161000) % 0x400
    if sdiPorts s ≤ p then s
    else if o = 0x000 then rxCfgWrite s r p w
    else if o = 0x004 then heldWrite s r a w (rbit s (R.SDI_RXCFG p) 0) (~~~ 0#64) (rxEnds p)
    else if o = 0x060 then
      let w := substGuard w 13
      heldWrite s r a w (rbit s a 0 && bit w.v 0) 0x1FFF (rxEnds p)
    else if o = 0x080 then txCfgWrite s r p w
    else if o = 0x084 then heldWrite s r a w (rbit s (R.SDI_TXCFG p) 0) (~~~ 0#64) (txEnds p)
    else if o = 0x094 then heldWrite s r a w (rbit s a 0 && bit w.v 0) 0x1FFF (txEnds p)
    else if o = 0x100 then pixWrite s p fun s => boundWrite s r a w 1 (rxEnds p ++ txEnds p)
    else if o = 0x104 then
      let s := genericWrite s r a ⟨w.v, w.m &&& ~~~ (1 : Word)⟩
      if w.one 0 then rputb s a 1 true else s
    else if 0x110 ≤ o ∧ o < 0x140 then pixWrite s p fun s => genericWrite s r a w
    else if 0x148 ≤ o ∧ o < 0x150 then lutWrite s p w
    else genericWrite s r a w

def sdiRead (s : State) (r : Req) (a : Nat) (m : Word) : State × Word :=
  if a < 0x40161000 then genericRead s r a m
  else
    let p := (a - 0x40161000) / 0x400
    let o := (a - 0x40161000) % 0x400
    if sdiPorts s ≤ p then (s, 0)
    else if o = 0 then
      let (s, v) := genericRead s r a m
      (s, if sdiRateOk s p 6 then v else v &&& ~~~ (0x30 : Word))
    else if 0x148 ≤ o ∧ o < 0x150 then (s, word (mget (pix s p).shadow (lutKey s p) 0))
    else genericRead s r a m

/-- SDI_RX_ENABLE (R479). -/
def execSdiRxEnable (q : RegAcc) (p : Fin 4) (s : State) : Out :=
  .next (onWrite s q (R.SDI_RXCFG p) fun r w => sdiWrite s r (R.SDI_RXCFG p) w)
/-- SDI_TX_ENABLE (R479). -/
def execSdiTxEnable (q : RegAcc) (p : Fin 4) (s : State) : Out :=
  .next (onWrite s q (R.SDI_TXCFG p) fun r w => sdiWrite s r (R.SDI_TXCFG p) w)
/-- PIXEL_STAGE_COMMIT (R469). -/
def execPixelStageCommit (q : RegAcc) (p : Fin 4) (s : State) : Out :=
  .next (onWrite s q (R.SDI_PIXCTL p) fun r w => sdiWrite s r (R.SDI_PIXCTL p) w)
/-- LUT_DATA_WRITE (R469). -/
def execLutDataWrite (q : RegAcc) (p : Fin 4) (s : State) : Out :=
  .next (onWrite s q (R.SDI_LUTDATA p) fun r w => sdiWrite s r (R.SDI_LUTDATA p) w)

/-- PIXEL_STAGE_APPLY (R469): in vertical blanking the shadow is copied. -/
def execPixelStageApply (p : Fin 4) (s : State) : Out :=
  if sdiPorts s ≤ p ∨ !(unitRuns s 0x16) ∨ !(rbit s (R.SDI_PIXCTL p) 1) then .next s
  else
    let x := pix s p
    let mat := (List.range 12).map fun j => rget s (R.SDI_MAT0 p + 4 * j)
    .next (rputb (setPix s p { x with cfg := rget s (R.SDI_PIXCFG p), mat := mat, lut := x.shadow }) (R.SDI_PIXCTL p) 1 false)

end Sys2Proof.Machine
end

