-- ==== Sys2Proof/Machine/Net.lean ====
section
/-! DEFINITION. ETHA and ETHB: MACs, frame rings, transmit selection, gates and RTP flows (R484 to R500, R513, R516). MAC m is
0 ETHA, 1 ETHB. -/
namespace Sys2Proof.Machine

/-- A register of MAC m from ETHA's. -/
def ethR (m a : Nat) : Nat := a + 0x10000 * m
def ethUnit (m : Nat) : Nat := 0x17 + m
def eth (s : State) (m : Nat) : Eth := mget s.io.eth m {}
def setEth (s : State) (m : Nat) (x : Eth) : State := { s with io := { s.io with eth := mset s.io.eth m x } }

/-- The sticky bits of ETH_STAT: bit n of ETH_CFG's IRQ field stands at bit n of ETH_STAT. -/
def ethSticky (s : State) (m i : Nat) (code : Option Nat) (by' : Option Req := none) : State :=
  unitSticky s (ethUnit m) (ethR m R.ETHA_STAT) i code 0 (rbit s (ethR m R.ETHA_CFG) i) (202 + m) by'

def ethOn (s : State) (m : Nat) : Bool := unitRuns s (ethUnit m) && rbit s (ethR m R.ETHA_CFG) 0
def ethUp (s : State) (m : Nat) : Bool := ethOn s m && rbit s (ethR m R.ETHA_STAT) 0

/-- The port's rate in Mb/s, from ETH_STAT.RATE. -/
def ethMbps (s : State) (m : Nat) : Nat :=
  match rbits s (ethR m R.ETHA_STAT) 2 1 with | 0 => 10 | 1 => 100 | 2 => 1000 | _ => 2500

/-- Attributes of the accesses that unit k makes for itself. -/
def unitReq (s : State) (k : Nat) : Req :=
  let sec := unitSecure s k
  ⟨.own, 0xFE, worldOf sec, if sec then .s else .n, none⟩

/-! Frame rings (R487): a block at address b -/

def ringSize (s : State) (b : Nat) : Nat := 2 ^ rbits s (b + 8) 3 0
def ringHead (s : State) (b : Nat) : Nat := rbits s (b + 0xC) 9 0
def ringTail (s : State) (b : Nat) : Nat := rbits s (b + 0xC) 25 16
def ringHas (s : State) (b : Nat) : Bool := ringHead s b ≠ ringTail s b
def ringAddr (s : State) (b : Nat) : Nat := rbits s b 39 6 * 64 + 32 * ringHead s b

/-- The descriptor at HEAD. -/
def ringDesc (s : State) (r : Req) (b : Nat) : State × Option (List Byte) :=
  match memRead s r (ringAddr s b) 32 .read with
  | (s, .inr l) => (s, some l)
  | (s, .inl _) => (s, none)

/-- The descriptor at HEAD is written back, and HEAD advances past it. -/
def ringBack (s : State) (r : Req) (b status : Nat) (stamp : Option Word) : State :=
  let a := ringAddr s b
  let s := (memWrite s r (a + 0x10) (leBytes 4 status)).1
  let s := match stamp with | some v => (memWrite s r (a + 0x18) (leBytes 8 v.toNat)).1 | none => s
  rput s (b + 0xC) 9 0 ((ringHead s b + 1) % ringSize s b)

/-! Frames -/

/-- CRC-32 of IEEE 802.3. -/
def crc32 (l : List Byte) : Nat :=
  let r := l.foldl (fun (c : BitVec 32) b =>
    (List.range 8).foldl (fun (c : BitVec 32) _ => if c.getLsbD 0 then (c >>> 1) ^^^ 0xEDB88320 else c >>> 1)
      (c ^^^ b.setWidth 32)) 0xFFFFFFFF
  (~~~ r).toNat

/-- A frame as the MAC sends it: padded to 60 bytes, with its FCS (R485). -/
def framed (l : List Byte) : List Byte :=
  let l := l ++ List.replicate (60 - l.length) 0
  l ++ leBytes 4 (crc32 l)

/-- Bits that a frame holds the wire for, preamble and gap included (R485, R492). -/
def wireBits (l : List Byte) : Nat := 8 * ((framed l).length + 20)
def wireNs (s : State) (m : Nat) (l : List Byte) : Nat := (wireBits l * 1000 + ethMbps s m - 1) / ethMbps s m

/-- Big-endian field of `n` bytes at offset o. -/
def beAt (l : List Byte) (o n : Nat) : Nat := beNat (sub l o n)

/-- Where the EtherType's payload starts, and the EtherType behind a VLAN tag. -/
def etherType (l : List Byte) : Nat × Nat := if beAt l 12 2 = 0x8100 then (18, beAt l 16 2) else (14, beAt l 12 2)

/-- An IPv4 packet with UDP in a frame: where the IP and the UDP header start. -/
def udpAt (l : List Byte) : Option (Nat × Nat) :=
  let (o, t) := etherType l
  let ihl := (l.getD o 0).toNat % 16
  if t = 0x0800 ∧ (l.getD o 0).toNat / 16 = 4 ∧ 5 ≤ ihl ∧ (l.getD (o + 9) 0) = 17 ∧ o + 4 * ihl + 8 ≤ l.length then
    some (o, o + 4 * ihl)
  else none

/-- A PTP frame (R490). -/
def isPtp (l : List Byte) : Bool :=
  (etherType l).2 = 0x88F7 || match udpAt l with | some (_, u) => beAt l (u + 2) 2 = 319 || beAt l (u + 2) 2 = 320 | none => false

/-- The address filter (R488). -/
def ethFilter (s : State) (m : Nat) (l : List Byte) : Bool :=
  let d := beAt l 0 6
  rbit s (ethR m R.ETHA_CFG) 6 || d = rbits s (ethR m R.ETHA_MACADDR) 47 0 || d = 0xFFFFFFFFFFFF ||
  ((l.getD 0 0).getLsbD 0 && rbit s (ethR m R.ETHA_MCHASH) (crc32 (sub l 0 6) / 2 ^ 26))

/-! Gates (R494, R495, R513) -/

def gateOn (s : State) (m : Nat) : Bool := rbit s (ethR m R.ETHA_GCTL) 0
def gateActive (s : State) (m : Nat) : Nat := rbits s (ethR m R.ETHA_GCTL) 1 1
/-- The entries of list k (0 A, 1 B): gates and interval, up to the one that ends it. -/
def gateList (s : State) (m k : Nat) : List (Nat × Nat) :=
  ((List.range 64).map fun i =>
    let e := rget s (ethR m (if k = 0 then R.ETHA_GCLA i else R.ETHA_GCLB i))
    (bits e 3 0, bits e 31 4)).takeWhile fun e => e.2 ≠ 0
def gateCycle (s : State) (m k : Nat) : Nat := (rget s (ethR m (R.ETHA_GCYCLE k))).toNat
def gateBase (s : State) (m k : Nat) : Nat := (rget s (ethR m (R.ETHA_GBASE k))).toNat

/-- Reference time now, in whole ns (R387, R491). -/
def refNs (s : State) : Nat := ((s.dtb.toNat + epoch s) / 2 ^ 32) % 2 ^ 64

/-- Spans of one cycle: start and end offset in ns, gates; the last entry holds to the cycle's end, which cuts the others. -/
def gateSpans (l : List (Nat × Nat)) (cycle : Nat) : List (Nat × Nat × Nat) :=
  let starts := l.scanl (fun a e => a + e.2) 0
  (l.zipIdx.map fun (e, i) =>
    let hi := if i + 1 = l.length then cycle else min cycle (starts.getD (i + 1) 0)
    (starts.getD i 0, hi, e.1)).filter fun x => x.1 < x.2.1

/-- ns from `t` (offset in the cycle) for which gate q stays open, entry `e` being the current one; `none` where it does not
close within this cycle and the next. -/
def gateLeft (s : State) (m q e t : Nat) : Option Nat :=
  let k := gateActive s m
  let c := gateCycle s m k
  let sp := gateSpans (gateList s m k) c
  let two := sp.drop e ++ sp.map fun x => (x.1 + c, x.2.1 + c, x.2.2)
  (two.find? fun x => !(x.2.2.testBit q)).map fun x => x.1 - t

/-- Gate q is open now, and a frame of `ns` ends before it closes (R492). -/
def gatePass (s : State) (m q ns : Nat) : Bool :=
  if !(gateOn s m) then true
  else match (eth s m).entry with
    | none => false
    | some e =>
      let g := (gateList s m (gateActive s m))[e]?
      let t := ((s.dtb.toNat / 2 ^ 32 : Nat) - (eth s m).cycle).toNat
      (match g with | some g => g.1.testBit q | none => false) &&
        (match gateLeft s m q e t with | some left => decide (ns ≤ left) | none => true)

/-- The longest time that gate q is open within one cycle. -/
def gateLongest (s : State) (m q : Nat) : Nat :=
  let k := gateActive s m
  ((gateSpans (gateList s m k) (gateCycle s m k)).foldl (fun (a : Nat × Nat) x =>
    let run := if x.2.2.testBit q then a.1 + (x.2.1 - x.1) else 0
    (run, max a.2 run)) (0, 0)).2

/-! Credit (R493) -/

def txqCbs (s : State) (m q : Nat) : Bool := rbit s (ethR m (R.ETHA_TXQ_SIZE q)) 8

/-- TXQ q holds a frame: one launched by a flow, or one in its ring. -/
def txqHas (s : State) (m q : Nat) : Bool :=
  mget (eth s m).ready q [] ≠ [] || ringHas s (ethR m (R.ETHA_TXQ_BASE q))

/-- The credit of TXQ q brought up to now. -/
def creditTouch (s : State) (m q : Nat) : State :=
  let x := eth s m
  let now := s.dtb.toNat
  let last := mget x.at' q now
  if now < last then s
  else
    let c := mget x.credit q 0
    let rise : Int := (rget s (ethR m (R.ETHA_TXQ_IDLESLOPE q))).toNat * (now - last) / (2 ^ 32 * 1000000000)
    let hi := sint 32 (rget s (ethR m (R.ETHA_TXQ_CBS_HI q))).toNat
    let c := if txqHas s m q then min hi (c + rise) else if c < 0 then min 0 (c + rise) else 0
    setEth s m { x with credit := mset x.credit q (if txqCbs s m q then c else 0), at' := mset x.at' q now }

def creditTouchAll (s : State) (m : Nat) : State := (List.range 4).foldl (fun s q => creditTouch s m q) s

/-- The credit after a frame of `l` has been sent from TXQ q. -/
def creditSpend (s : State) (m q : Nat) (l : List Byte) : State :=
  let x := eth s m
  let rate : Int := ethMbps s m * 1000000
  let idle : Int := (rget s (ethR m (R.ETHA_TXQ_IDLESLOPE q))).toNat
  let lo := sint 32 (rget s (ethR m (R.ETHA_TXQ_CBS_LO q))).toNat
  let c := max lo (mget x.credit q 0 - wireBits l * (rate - idle) / rate)
  let c := if !(txqHas s m q) ∧ 0 < c then 0 else c
  let free := s.dtb.toNat + wireNs s m l * 2 ^ 32
  setEth s m { x with credit := mset x.credit q (if txqCbs s m q then c else 0), at' := mset x.at' q free }

/-! Transmission (R487, R489, R492) -/

/-- The head frame of TXQ q: its bytes, and whether it stands in the ring with its FLAGS; a ring frame that cannot be read or is
too long has no bytes. -/
inductive TxHead where
  | none
  | rtp (l : List Byte)
  | ring (l : Option (List Byte)) (tsreq : Bool)
  deriving DecidableEq, Repr

def txHead (s : State) (m q : Nat) : State × TxHead :=
  match mget (eth s m).ready q [] with
  | l :: _ => (s, .rtp l)
  | [] =>
    let b := ethR m (R.ETHA_TXQ_BASE q)
    let r := unitReq s (ethUnit m)
    if !(ringHas s b) then (s, .none)
    else match ringDesc s r b with
      | (s, none) => (s, .none)
      | (s, some d) =>
        let n := fieldAt d 8 2
        let ts : Bool := fieldAt d 0xA 2 % 2 = 1
        if n = 0 ∨ 9212 < n then (s, .ring none ts)
        else match memRead s r (fieldAt d 0 5) n .read with
          | (s, .inr l) => (s, .ring (some l) ts)
          | (s, .inl _) => (s, .ring none ts)

/-- The head frame of TXQ q leaves: sent, or dropped. -/
def txqPop (s : State) (m q : Nat) (h : TxHead) (dropped : Bool) : State :=
  match h with
  | .none => s
  | .rtp _ => let x := eth s m; setEth s m { x with ready := mset x.ready q ((mget x.ready q []).drop 1) }
  | .ring _ ts =>
    let stamp := dtbNs s + word (rbits s (ethR m R.ETHA_TSLAT) 31 16)
    ringBack s (unitReq s (ethUnit m)) (ethR m (R.ETHA_TXQ_BASE q)) (if dropped then 2 else 1)
      (if ts ∧ !dropped then some stamp else none)

/-- The queue that sends next, with its frame (R492). -/
def txSelect (s : State) (m : Nat) : State × Option (Nat × TxHead × List Byte) :=
  [3, 2, 1, 0].foldl (fun (st : State × Option (Nat × TxHead × List Byte)) q =>
    match st.2 with
    | some _ => st
    | none =>
      let (s, h) := txHead st.1 m q
      let ok (l : List Byte) : Bool :=
        gatePass s m q (wireNs s m l) && (!(txqCbs s m q) || decide (0 ≤ mget (eth s m).credit q 0))
      match h with
      | .rtp l => if ok l then (s, some (q, h, l)) else (s, none)
      | .ring (some l) _ => if ok l then (s, some (q, h, l)) else (s, none)
      | .ring none _ => (txqPop s m q h true, none)
      | .none => (s, none)) (s, none)

/-- ETH_TX_FRAME (R485, R487, R489, R492, R493): wire 0x1700 + 0x100·m holds the frame with its FCS. -/
def execEthTxFrame (m : Fin 2) (s : State) : Out :=
  if !(ethUp s m) ∨ s.dtb.toNat < (eth s m).pause then .next s
  else
    match txSelect (creditTouchAll s m) m with
    | (s, none) => .next s
    | (s, some (q, h, l)) =>
      let s := wireOut s (0x1700 + 0x100 * m) ((framed l).map (·.setWidth 64))
      .next (creditSpend (txqPop s m q h false) m q l)

/-- Head frames that no window of the cycle can take are dropped as it ends (R513). -/
def gateOversize (s : State) (m : Nat) : State :=
  (List.range 4).foldl (fun s q =>
    let (s, h) := txHead s m q
    let drop (l : List Byte) : State :=
      if gateLongest s m q < wireNs s m l then
        ethSticky (rcount (txqPop s m q h true) (ethR m (R.ETHA_GATEDROP q)) 1) m 12 (some Code.ETH_GATE_OVERSIZE)
      else s
    match h with
    | .rtp l => drop l
    | .ring (some l) _ => drop l
    | _ => s) s

/-- GATE_CYCLE_START (R494, R495, R513). -/
def execGateCycleStart (m : Fin 2) (s : State) : Out :=
  if !(ethOn s m) ∨ !(gateOn s m) then .next s
  else
    let s := if (eth s m).entry.isSome then gateOversize s m else s
    let now := refNs s
    let g := ethR m R.ETHA_GCTL
    let o := 1 - gateActive s m
    let s := if rbit s g 2 ∧ gateBase s m o ≤ now then rputb (rput s g 1 1 o) g 2 false else s
    let k := gateActive s m
    let c := gateCycle s m k
    if now < gateBase s m k ∨ c = 0 then .next s
    else
      let start : Int := (s.dtb.toNat / 2 ^ 32 : Nat) - ((now - gateBase s m k) % c : Nat)
      .next (setEth s m { eth s m with entry := some 0, cycle := start })

/-- GATE_ENTRY_END (R494): the last entry holds until the cycle ends. -/
def execGateEntryEnd (m : Fin 2) (s : State) : Out :=
  match (eth s m).entry with
  | some e =>
    if ethOn s m ∧ gateOn s m ∧ e + 1 < (gateList s m (gateActive s m)).length then
      .next (setEth s m { eth s m with entry := some (e + 1) })
    else .next s
  | none => .next s

/-! RTP transmit flows (R496 to R498) -/

/-- A register of TX flow f's block, and of RX flow f's. -/
def txf (m f o : Nat) : Nat := 0x40170400 + 0x10000 * m + 0x80 * f + o
def rxf (m f o : Nat) : Nat := 0x40170600 + 0x10000 * m + 0x40 * f + o
def txfEnd (m f : Nat) : Nat := 0xC8 + 8 * m + f
def rxfEnd (m f : Nat) : Nat := 0xCC + 8 * m + f
def flow (s : State) (m i : Nat) : Flow := mget (eth s m).flows i {}
def setFlow (s : State) (m i : Nat) (x : Flow) : State :=
  setEth s m { eth s m with flows := mset (eth s m).flows i x }

def flowProfile (cfg : Word) : Nat := bits cfg 3 1
def flowChans (cfg : Word) : Nat := bits cfg 20 16 + 1
/-- Entries that one packet takes, for profiles 1 to 4. -/
def flowNeed (s : State) (m f : Nat) (cfg : Word) : Nat :=
  if flowProfile cfg = 4 then rbits s (txf m f 0x20) 15 0 / 2
  else rbits s (txf m f 0x14) 31 0 * ((flowChans cfg + 1) / 2)

/-- Even parity over bits 4 to 31 of a subframe: audio, V, U and C. -/
def subParity (v : Word) : Bool :=
  (List.range 32).foldl (fun b k => b != ((8 ≤ k || (1 ≤ k && k ≤ 3)) && bit v k)) false

/-- The four octets of a subframe of ST 2110-31: block start, first subframe, P, C, U, V, then 24 bits of audio. -/
def am824 (v : Word) (first : Bool) : List Byte :=
  beBytes 4 (bits v 31 8 + 2 ^ 24 * (32 * b2n (bit v 7) + 16 * b2n first + 8 * b2n (subParity v) + 4 * b2n (bit v 1) +
    2 * b2n (bit v 2) + b2n (bit v 3)))

/-- The payload of one sample frame's channel words (R496). -/
def samplePayload (profile : Nat) (ws : List Word) : List Byte :=
  match profile with
  | 1 => ws.flatMap fun v => beBytes 2 (bits v 31 16)
  | 2 => ws.flatMap fun v => beBytes 3 (bits v 31 8)
  | _ => ws.zipIdx.flatMap fun (v, j) => am824 v (j = 0)

/-- Two pixels of 4:2:2 as a pgroup of five bytes (R496). -/
def pgroup (e : Word) : List Byte :=
  let c (k : Nat) : Nat := (txComp (bits e (16 * k + 15) (16 * k))).1
  beBytes 5 (((c 0 * 1024 + c 1) * 1024 + c 2) * 1024 + c 3)

/-- The payload of a packet from its entries. -/
def rtpPayload (s : State) (m f : Nat) (cfg : Word) (line ext : Nat) (es : List (Option Word)) : List Byte :=
  let p := flowProfile cfg
  if p = 4 then
    let w := rbits s (txf m f 0x20) 15 0
    let body := es.flatMap fun e => pgroup (e.getD 0x8000100080008000)
    beBytes 2 ext ++ beBytes 2 (w / 2 * 5) ++ beBytes 2 line ++ beBytes 2 0 ++ body
  else
    let c := flowChans cfg
    let n := (c + 1) / 2
    (List.range (es.length / n)).flatMap fun i => samplePayload p ((unpair ((es.drop (i * n)).take n)).take c)

/-- Ones' complement sum of 16-bit words. -/
def ocSum (l : List Byte) : Nat :=
  let rec go : List Byte → Nat → Nat
    | a :: b :: r, t => go r (t + a.toNat * 256 + b.toNat)
    | [a], t => t + a.toNat * 256
    | [], t => t
  let t := go l 0
  let t := t % 65536 + t / 65536
  65535 - (t % 65536 + t / 65536)

/-- Bytes put into a list at offset o. -/
def putAt (l : List Byte) (o : Nat) (v : List Byte) : List Byte := l.take o ++ v ++ l.drop (o + v.length)

/-- A packet behind its template: IPv4 total length and header checksum, UDP length and checksum written (R497). -/
def rtpFrame (tmpl body : List Byte) : List Byte :=
  let l := tmpl ++ body
  let (o, _) := etherType l
  let u := o + 4 * ((l.getD o 0).toNat % 16)
  if l.length < u + 8 then l
  else
    let l := putAt (putAt l (o + 2) (beBytes 2 (l.length - o))) (o + 10) [0, 0]
    let l := putAt l (o + 10) (beBytes 2 (ocSum ((l.drop o).take (u - o))))
    let n := l.length - u
    let l := putAt (putAt l (u + 4) (beBytes 2 n)) (u + 6) [0, 0]
    let pseudo := sub l (o + 12) 8 ++ [0, 17] ++ beBytes 2 n
    let k := ocSum (pseudo ++ l.drop u)
    putAt l (u + 6) (beBytes 2 (if k = 0 then 0xFFFF else k))

/-- The template's first TLEN bytes. -/
def rtpTemplate (s : State) (m f n : Nat) : List Byte :=
  (((List.range 8).flatMap fun i => leBytes 8 (rget s (txf m f (0x40 + 8 * i))).toNat)).take n

/-- The reference time of a stamp, in whole ns (R491). -/
def refOf (s : State) (stamp : Word) : Nat := ((stamp.toNat * 2 ^ 32 + epoch s) / 2 ^ 32) % 2 ^ 64

/-- The stamp of the entry that a flow pops next, the DTB where it has none. -/
def nextStamp (s : State) (c : Nat) : Word :=
  match grantBound s c false with
  | some n => match (grantOf s n).q with | e :: _ => e.side | [] => dtbNs s
  | none => dtbNs s

/-- A flow builds a packet (R497, R498). -/
def rtpBuild (s : State) (m f : Nat) (cfg : Word) (stamp : Word) (payload : List Byte) : State :=
  let x := flow s m f
  let p := flowProfile cfg
  let video : Bool := p = 4
  let h := rbits s (txf m f 0x20) 31 16
  let first := if video ∧ x.line ≠ 0 then x.first else stamp
  let ref := refOf s first
  let rate := (rget s (txf m f 0x10)).toNat
  let ts := ((rget s (txf m f 0x0C)).toNat + ref * rate / 1000000000) % 2 ^ 32
  let marker : Bool := video && decide (h ≤ x.line + 1)
  let seq := rbits s (txf m f 0x28) 15 0
  let hdr := [0x80, BitVec.ofNat 8 (128 * b2n marker + rbits s (txf m f 0x04) 6 0)] ++ beBytes 2 seq ++ beBytes 4 ts ++
    beBytes 4 (rget s (txf m f 0x08)).toNat
  let npkt := max 1 (rget s (txf m f 0x1C)).toNat
  let gap : Int := if video ∧ bit cfg 6 then (rget s (txf m f 0x24)).toNat * x.line / npkt else 0
  let due : Int := (ref : Int) + sint 32 (rget s (txf m f 0x18)).toNat + gap
  let l := rtpFrame (rtpTemplate s m f (bits cfg 13 8)) (hdr ++ payload)
  let s := rput s (txf m f 0x28) 15 0 (seq + 1)
  setFlow s m f { x with built := x.built ++ [⟨l, due⟩], line := if marker then 0 else if video then x.line + 1 else 0,
                         first := first, ts := x.ts + 1 }

/-- RTP_TX_PACKET (R497, R498). -/
def execRtpTxPacket (m : Fin 2) (f : Fin 4) (ecc : List Ecc) (s : State) : Out :=
  let cfg := rget s (txf m f 0)
  let c := txfEnd m f
  if !(ethOn s m) ∨ !(bit cfg 0) ∨ (grantBound s c false).isNone then .next s
  else
    let streamed := (sinkStream s c).isSome
    let stamp := nextStamp s c
    if flowProfile cfg = 5 then
      if portLevel s c = 0 then .next s
      else
        let len := match grantBound s c false with
          | some n => (match (grantOf s n).q with | e :: _ => bits e.val 15 0 | [] => 0)
          | none => 0
        if !streamed ∧ portLevel s c < 1 + (len + 7) / 8 then .next s
        else
          let (s, es) := sinkTakeN s c (1 + (len + 7) / 8) ecc
          let body := ((es.drop 1).flatMap fun e => leBytes 8 (e.getD 0).toNat).take len
          .next (rtpBuild s m f cfg stamp body)
    else
      let need := flowNeed s m f cfg
      if need = 0 ∨ (!streamed ∧ portLevel s c < need) then .next s
      else
        let (s, es) := sinkTakeN s c need ecc
        let x := flow s m f
        .next (rtpBuild s m f cfg stamp (rtpPayload s m f cfg x.line (x.ts / 65536 % 65536) es))

/-- RTP_LAUNCH (R498): the flow's oldest packet has reached its launch time; it goes to its TXQ. -/
def execRtpLaunch (m : Fin 2) (f : Fin 4) (s : State) : Out :=
  let x := flow s m f
  match x.built with
  | [] => .next s
  | p :: rest =>
    if !(ethOn s m) then .next s
    else
      let q := rbits s (txf m f 0) 5 4
      let s := creditTouch (setFlow s m f { x with built := rest }) m q
      let e := eth s m
      .next (setEth s m { e with ready := mset e.ready q (mget e.ready q [] ++ [p.bytes]) })

/-! RTP receive flows (R499, R500) -/

/-- The flow that takes a frame (R488, R499). -/
def rtpMatch (s : State) (m f : Nat) (l : List Byte) : Bool :=
  let cfg := rget s (rxf m f 0)
  match udpAt l with
  | none => false
  | some (o, u) =>
    bit cfg 0 && beAt l (o + 16) 4 = (rget s (rxf m f 0x04)).toNat % 2 ^ 32 &&
    beAt l (u + 2) 2 = rbits s (rxf m f 0x08) 15 0 &&
    (!(bit cfg 8) || beAt l (u + 16) 4 = (rget s (rxf m f 0x0C)).toNat % 2 ^ 32)

/-- Bytes of one sample frame on the wire, for profiles 1 to 3. -/
def rtpSampleLen (cfg : Word) : Nat :=
  flowChans cfg * (match flowProfile cfg with | 1 => 2 | 2 => 3 | _ => 4)

/-- The channel words of one sample frame of a payload. -/
def rtpWords (cfg : Word) (l : List Byte) : List Word :=
  (List.range (flowChans cfg)).map fun j =>
    match flowProfile cfg with
    | 1 => word (beAt l (2 * j) 2 * 65536)
    | 2 => word (beAt l (3 * j) 3 * 256)
    | _ =>
      let h := (l.getD (4 * j) 0).toNat
      chanWord (BitVec.ofNat 24 (beAt l (4 * j + 1) 3)) (h.testBit 5) false false (h.testBit 0) (h.testBit 1) (h.testBit 2)

/-- The stamp of sample i of a packet whose extended timestamp is U (R500). -/
def rtpStamp (s : State) (m f : Nat) (u : Int) (i : Nat) : Word :=
  let rate := max 1 (rget s (rxf m f 0x14)).toNat
  word (uint 64 (u * 1000000000 / rate - (epoch s / 2 ^ 32 : Nat) + (i * 1000000000 / rate : Nat)))

/-- The integer congruent to a timestamp that lies nearest to now (R500). -/
def rtpUnwrap (s : State) (m f ts : Nat) : Int :=
  let rate := (rget s (rxf m f 0x14)).toNat
  let now : Int := (refNs s * rate / 1000000000 : Nat)
  let d : Int := ((ts : Int) - (rget s (rxf m f 0x10)).toNat - now + 2 ^ 31) % 2 ^ 32 - 2 ^ 31
  now + d

/-- A packet that leaves the window is pushed (R499, R500). -/
def rtpPush (s : State) (m f : Nat) (p : RtpIn) : State :=
  let cfg := rget s (rxf m f 0)
  let c := rxfEnd m f
  let u := p.ts
  if 4 ≤ flowProfile cfg then
    portPushAll s c (word p.data.length :: (List.range ((p.data.length + 7) / 8)).map fun i => word (fieldAt p.data (8 * i) 8))
      (some (rtpStamp s m f u 0))
  else
    let n := max 1 (rtpSampleLen cfg)
    (List.range (p.data.length / n)).foldl (fun s i =>
      portPushAll s c (pairUp (rtpWords cfg (sub p.data (n * i) n))) (some (rtpStamp s m f u i))) s

/-- `k` packets are missing before packet p: their samples are pushed as zero with ERR (R499). -/
def rtpMissing (s : State) (m f k : Nat) (p : RtpIn) : State :=
  let cfg := rget s (rxf m f 0)
  let s := rcount s (rxf m f 0x18) k
  let s := logUnit s (unitSecure s (ethUnit m)) Code.RTP_SEQ (word f) 0
  if 4 ≤ flowProfile cfg then s
  else
    let n := p.data.length / max 1 (rtpSampleLen cfg)
    let z : List Word := List.replicate (flowChans cfg) (chanWord 0 false true false false false false)
    (List.range (k * n)).foldl (fun s i =>
      portPushAll s (rxfEnd m f) (pairUp z) (some (rtpStamp s m f (p.ts - (k * n : Nat)) i))) s

/-- Packets that leave the window: in sequence at once, and over a gap once more than four are held. -/
def rtpDrain : Nat → State → Nat → Nat → State
  | 0, s, _, _ => s
  | fuel + 1, s, m, f =>
    let x := flow s m (4 + f)
    match x.window, x.next with
    | p :: rest, some n =>
      let gap := (p.seq + 65536 - n) % 65536
      if gap = 0 then
        rtpDrain fuel (rtpPush (setFlow s m (4 + f) { x with window := rest, next := some ((n + 1) % 65536) }) m f p) m f
      else if 4 < x.window.length then
        rtpDrain fuel (rtpMissing (setFlow s m (4 + f) { x with next := some p.seq }) m f gap p) m f
      else s
    | _, _ => s

/-- A packet put into the window in order of sequence number counted from `n`; one already held is dropped. -/
def rtpInsert (n : Nat) (p : RtpIn) : List RtpIn → List RtpIn
  | [] => [p]
  | q :: r =>
    let d (x : RtpIn) : Nat := (x.seq + 65536 - n) % 65536
    if d p < d q then p :: q :: r else if d p = d q then q :: r else q :: rtpInsert n p r

/-- A frame that a receive flow takes (R499). -/
def rtpReceive (s : State) (m f : Nat) (l : List Byte) : State :=
  let cfg := rget s (rxf m f 0)
  let bad (s : State) : State :=
    logUnit (rcount s (rxf m f 0x20) 1) (unitSecure s (ethUnit m)) Code.RTP_FORMAT (word f) 0
  match udpAt l with
  | none => s
  | some (_, u) =>
    let n := beAt l (u + 4) 2
    let r := (l.drop (u + 8)).take (n - 8)
    let b0 := (r.getD 0 0).toNat
    let ext := 12 + 4 * (b0 % 16)
    let hdr := if b0 / 16 % 2 = 1 then ext + 4 + 4 * beAt r (ext + 2) 2 else ext
    let pad := if b0 / 32 % 2 = 1 then (r.getLast?.getD 0).toNat else 0
    let data := (r.drop hdr).take (r.length - hdr - pad)
    if b0 / 64 ≠ 2 ∨ n < 20 ∨ r.length ≠ n - 8 ∨ r.length < hdr + pad ∨
        (flowProfile cfg ≤ 3 ∧ (data = [] ∨ data.length % max 1 (rtpSampleLen cfg) ≠ 0)) then bad s
    else
      let seq := beAt r 2 2
      let x := flow s m (4 + f)
      let next := x.next.getD seq
      if 32768 ≤ (seq + 65536 - next) % 65536 then
        logUnit (rcount s (rxf m f 0x1C) 1) (unitSecure s (ethUnit m)) Code.RTP_LATE (word f) 0
      else
        let p : RtpIn := ⟨seq, rtpUnwrap s m f (beAt r 4 4), data, (dtbNs s).toNat⟩
        rtpDrain 16 (setFlow s m (4 + f) { x with next := some next, window := rtpInsert next p x.window }) m f

/-- RTP_RX_PACKET (R499, R500). -/
def execRtpRxPacket (m : Fin 2) (f : Fin 4) (l : List Byte) (s : State) : Out :=
  if ethUp s m ∧ rtpMatch s m f l then .next (rtpReceive s m f l) else .next s

/-! Reception (R485, R487 to R490) -/

/-- A PAUSE frame: address 01-80-C2-00-00-01, EtherType 0x8808, opcode 1; its quanta. -/
def pauseOf (l : List Byte) : Option Nat :=
  if beAt l 0 6 = 0x0180C2000001 ∧ beAt l 12 2 = 0x8808 ∧ beAt l 14 2 = 1 then some (beAt l 16 2) else none

/-- A frame for the receive ring; `l` holds it with its FCS. -/
def ringReceive (s : State) (m : Nat) (l : List Byte) (stamp : Word) : State :=
  let b := ethR m R.ETHA_RX_BASE
  let r := unitReq s (ethUnit m)
  let drop (s : State) : State :=
    ethSticky (rcount s (ethR m R.ETHA_RXDROP) 1) m 11 (some Code.ETH_RX_DROP)
  if !(ringHas s b) then drop s
  else match ringDesc s r b with
    | (s, none) => drop s
    | (s, some d) =>
      if fieldAt d 8 2 < l.length then drop s
      else
        match memWrite s r (fieldAt d 0 5) l with
        | (s, some _) => drop s
        | (s, none) =>
          let status := l.length + 2 ^ 16 * b2n (isPtp l) + 2 ^ 17 * b2n (beAt l 12 2 = 0x8100) +
            2 ^ 18 * b2n ((l.getD 0 0).getLsbD 0)
          ringBack s r b status (some stamp)

/-- ETH_RX_FRAME (R485, R487 to R490): `l` is the frame with its FCS; `bad` a code or length error that the PHY side reports. -/
def execEthRxFrame (m : Fin 2) (l : List Byte) (bad : Bool) (age : BitVec 64) (s : State) : Out :=
  if !(ethUp s m) then .next s
  else
    let body := l.take (l.length - 4)
    if bad ∨ l.length < 64 ∨ 9216 < l.length ∨ fieldAt l (l.length - 4) 4 ≠ crc32 body then
      .next (ethSticky (rcount s (ethR m R.ETHA_RXERR) 1) m 10 (some Code.ETH_RX_ERROR))
    else match (if rbit s (ethR m R.ETHA_CFG) 7 then pauseOf l else none) with
      | some q =>
        let ns := q * 512 * 1000 / ethMbps s m
        .next (setEth s m { eth s m with pause := s.dtb.toNat + ns * 2 ^ 32 })
      | none =>
        if !(ethFilter s m l) then .next s
        else match (List.range 4).find? fun f => rtpMatch s m f body with
          | some f => .next (rtpReceive s m f body)
          | none => .next (ringReceive s m l (stampAgo s age - word (rbits s (ethR m R.ETHA_TSLAT) 15 0)))

/-! Registers -/

/-- A write of ETH_CFG (R484). -/
def ethCfgWrite (s : State) (r : Req) (m : Nat) (w : Wr) : State :=
  let a := ethR m R.ETHA_CFG
  let t := genericWrite s r a w
  let mode := rbits t a 2 1
  if rbit t a 0 ∧ (mode = 3 ∨ (mode = 2 ∧ s.variant ≠ .zm8640)) then
    ethSticky (rputb t a 0 false) m 8 (some Code.ETH_CFG_BAD) (some r)
  else if rbit s a 0 ∧ !(rbit t a 0) then
    rputb (setEth t m { eth t m with pause := 0, entry := none }) (ethR m R.ETHA_STAT) 0 false
  else t

/-- A write of ETH_MDIO (R486). -/
def mdioWrite (s : State) (m : Nat) (w : Wr) : State :=
  let a := ethR m R.ETHA_MDIO
  if rbit s a 31 then s else rset s a (((rget s a &&& ~~~ w.m) ||| (w.v &&& w.m)) &&& 0x7FFFFFFF ||| 0x80000000)

/-- A write of ETH_GCTL (R495). -/
def gctlWrite (s : State) (r : Req) (m : Nat) (w : Wr) : State :=
  let a := ethR m R.ETHA_GCTL
  let t := genericWrite s r a w
  if rbit t a 0 then t else setEth t m { eth t m with entry := none }

/-- A write of a flow's FLOW_CFG (R496): profiles 1 to 5; enabling starts afresh. -/
def flowCfgWrite (s : State) (r : Req) (m i a : Nat) (w : Wr) : State :=
  let t := boundWrite s r a w (~~~ (0x80 : Word)) [if i < 4 then txfEnd m i else rxfEnd m (i - 4)]
  let p := rbits t a 3 1
  if !(rbit t a 0) then t
  else if p = 0 ∨ 5 < p then rputb (rputb t a 0 false) a 7 true
  else if rbit s a 0 then t else setFlow t m i {}

def ethWrite (s : State) (r : Req) (a : Nat) (w : Wr) : State :=
  let m := (a - 0x40170000) / 0x10000
  let o := a % 0x10000
  let act := gateActive s m
  if o = 0 then ethCfgWrite s r m w
  else if o = 0x20 then mdioWrite s m w
  else if o = 0x100 then gctlWrite s r m w
  else if 0x40 ≤ o ∧ o < 0xC0 then genericWrite (creditTouch s m ((o - 0x40) / 0x20)) r a w
  else if 0x400 ≤ o ∧ o < 0x600 ∧ (o - 0x400) % 0x80 = 0 then flowCfgWrite s r m ((o - 0x400) / 0x80) a w
  else if 0x600 ≤ o ∧ o < 0x700 ∧ (o - 0x600) % 0x40 = 0 then flowCfgWrite s r m (4 + (o - 0x600) / 0x40) a w
  else if (0x1000 ≤ o ∧ o < 0x1100 ∧ act = 0) ∨ (0x1100 ≤ o ∧ o < 0x1200 ∧ act = 1) then s
  else genericWrite s r a w

/-- ETH_ENABLE (R484). -/
def execEthEnable (q : RegAcc) (m : Fin 2) (s : State) : Out :=
  .next (onWrite s q (ethR m R.ETHA_CFG) fun r w => ethWrite s r (ethR m R.ETHA_CFG) w)
/-- ETH_MDIO_START (R486). -/
def execEthMdioStart (q : RegAcc) (m : Fin 2) (s : State) : Out :=
  .next (onWrite s q (ethR m R.ETHA_MDIO) fun r w => ethWrite s r (ethR m R.ETHA_MDIO) w)
/-- GATE_LIST_CHANGE (R495). -/
def execGateListChange (q : RegAcc) (m : Fin 2) (s : State) : Out :=
  .next (onWrite s q (ethR m R.ETHA_GCTL) fun r w => ethWrite s r (ethR m R.ETHA_GCTL) w)
/-- ETH_MDIO_DONE (R486): `v` is what the PHY returned for a read. -/
def execEthMdioDone (m : Fin 2) (v : BitVec 16) (s : State) : Out :=
  let a := ethR m R.ETHA_MDIO
  if unitRuns s (ethUnit m) ∧ rbit s a 31 then
    let s := rputb s a 31 false
    .next (if rbit s a 29 then rput s a 15 0 v.toNat else s)
  else .next s
/-- ETH_LINK_CHANGE (R516). -/
def execEthLinkChange (m : Fin 2) (up : Bool) (rate : BitVec 2) (s : State) : Out :=
  let a := ethR m R.ETHA_STAT
  if !(ethOn s m) ∨ rbit s a 0 = up then .next s
  else .next (ethSticky (rput (rputb s a 0 up) a 2 1 rate.toNat) m 9 (some Code.ETH_LINK))

end Sys2Proof.Machine
end

