-- ==== Sys2Proof/Machine/Usb.lean ====
section
/-! DEFINITION. USB (R501 to R506, R514, R516, R655, R683). -/
namespace Sys2Proof.Machine

def setUsb (s : State) (x : Usb) : State := { s with io := { s.io with usb := x } }

/-- The sticky bits of USB_STAT; USB has no IRQ field, so each pends source 204. -/
def usbSticky (s : State) (i : Nat) (code : Option Nat) : State := unitSticky s 0x19 R.USB_STAT i code 0 true 204

def usbOn (s : State) : Bool := unitRuns s 0x19 && rbit s R.USB_CFG 0

/-- Host in effect (R501): ROLE 2, or ROLE 0 with USB_ID low. -/
def usbHost (s : State) : Bool :=
  match rbits s R.USB_CFG 2 1 with | 0 => s.io.usb.idHost | 2 => true | _ => false

/-- Bank F reads 3.3 V (R655). -/
def bankF33 (s : State) : Bool := rbits s R.SYSCON_PADV 11 10 = 2

/-- USB_STAT's RO fields after a change of role, VBUS or EN. SPEED has no stated code: a free value while attached. -/
def usbAttach (s : State) : State :=
  let host := usbHost s
  let on : Bool := usbOn s && bankF33 s && (host || s.io.usb.vbus)
  let was := rbit s R.USB_STAT 0
  let s := rputb (rputb s R.USB_STAT 0 on) R.USB_STAT 1 host
  if !on then setUsb (rput s R.USB_STAT 3 2 0) { s.io.usb with sof := none, got := [] }
  else if was then s
  else
    let (v, s) := freeWord s
    rput s R.USB_STAT 3 2 (bits v 1 0)

/-- Every transfer of a ring ends with DROPPED (R514). -/
def usbDropRing : Nat → State → Nat → State
  | 0, s, _ => s
  | n + 1, s, b => if ringHas s b then usbDropRing n (ringBack s (unitReq s 0x19) b 2 none) b else s

/-- The port detaches and attaches in its new role (R514). -/
def usbRoleChanged (s : State) : State :=
  let s := rputb s R.USB_STAT 0 false
  let s := (List.range 32).foldl (fun s i => usbDropRing 1024 s (R.USB_EP_BASE i)) s
  usbSticky (usbAttach s) 8 none

/-- A write of USB_CFG (R501, R514). -/
def usbCfgWrite (s : State) (r : Req) (w : Wr) : State :=
  let a := R.USB_CFG
  let w : Wr := if s.variant = .zm8640 then w else ⟨w.v, w.m &&& ~~~ (0x10 : Word)⟩
  let t := genericWrite s r a w
  if usbOn s ∧ usbOn t ∧ rbits s a 2 1 ≠ rbits t a 2 1 then usbRoleChanged t else usbAttach t

def usbWrite (s : State) (r : Req) (a : Nat) (w : Wr) : State :=
  let o := a - 0x40190000
  if a = R.USB_CFG then usbCfgWrite s r w
  else if 0x400 ≤ o ∧ o < 0x480 ∧ o % 0x20 = 0 then boundWrite s r a w (~~~ 0#64) [0xD8 + (o - 0x400) / 0x20]
  else if 0x480 ≤ o ∧ o < 0x500 ∧ o % 0x20 = 0 then boundWrite s r a w (~~~ 0#64) [0xDC + (o - 0x480) / 0x20]
  else genericWrite s r a w

/-- Channels, bytes a sample, and entries a sample frame of an isochronous endpoint's configuration (R504). -/
def isoChans (cfg : Word) : Nat := bits cfg 4 1 + 1
def isoSub (cfg : Word) : Nat := min 4 (bits cfg 6 5 + 2)
def isoEntries (cfg : Word) : Nat := (isoChans cfg + 1) / 2

/-- Sample frames that an IN endpoint sends (R504): whole ones whose stamp lies at or before `lim`. -/
def isoGather : Nat → State → Nat → Word → Nat → List Ecc → List Byte → State × List Byte
  | 0, s, _, _, _, _, out => (s, out)
  | n + 1, s, e, cfg, lim, ecc, out =>
    let c := 0xD8 + e
    let k := isoEntries cfg
    let here : Bool := decide (k ≤ portLevel s c) && (match sinkStream s c with | some m => decide (0 < (strm s m).data) | none => true)
    if here ∧ (nextStamp s c).toNat ≤ lim then
      let (s, es) := sinkTakeN s c k ecc
      let b := ((unpair es).take (isoChans cfg)).flatMap fun v => leBytes (isoSub cfg) (bits v 31 (32 - 8 * isoSub cfg))
      isoGather n s e cfg lim (ecc.drop k) (out ++ b)
    else (s, out)

/-- A service interval of IN endpoint e: wire 0x1900 + e holds its packet. -/
def isoIn (s : State) (e : Nat) (ecc : List Ecc) : State :=
  let cfg := rget s (R.USB_IN_CFG e)
  if !(bit cfg 0) then s
  else
    let sof := (rget s R.USB_SOFTS).toNat
    let d := (rget s (R.USB_IN_INDELAY e)).toNat
    let (s, l) := if sof < d then (s, [])
      else isoGather (rget s (R.USB_IN_MAXFRAMES e)).toNat s e cfg (sof - d) ecc []
    wireOut s (0x1900 + e) (l.map (·.setWidth 64))

/-- USB_SOF (R503, R504, R516). -/
def execUsbSof (frame : BitVec 14) (age : BitVec 64) (ecc : List Ecc) (s : State) : Out :=
  if !(usbOn s) ∨ !(rbit s R.USB_STAT 0) then .next s
  else
    let had := s.io.usb.sof.isSome
    let miss := (List.range 4).filter fun e =>
      rbit s (R.USB_OUT_CFG e) 0 && (grantBound s (0xDC + e) true).isSome && !(s.io.usb.got.contains e)
    let s := if had then miss.foldl (fun s _ => usbSticky (rcount s R.USB_MISSED 1) 10 (some Code.USB_ISO_MISSED)) s else s
    let now := (s.dtb - age.setWidth 96).toNat
    let s := rset (rset s R.USB_SOFTS (stampAgo s age)) R.USB_FRNUM (frame.setWidth 64)
    let u := s.io.usb
    let count := (List.range 4).foldl (fun m e => mset m e (if had then mget m e 0 + 1 else 0)) u.count
    let start := if had then u.start else (List.range 4).foldl (fun m e => mset m e now) u.start
    let s := setUsb s { u with sof := some now, count := count, start := start, got := [] }
    .next ((List.range 4).foldl (fun s e => isoIn s e (if e = 0 then ecc else [])) s)

/-- USB_ISO_OUT_PACKET (R504, R516): `ok` false is a CRC or PID error. -/
def execUsbIsoOutPacket (e : Fin 4) (l : List Byte) (ok : Bool) (s : State) : Out :=
  let cfg := rget s (R.USB_OUT_CFG e)
  if !(usbOn s) ∨ !(rbit s R.USB_STAT 0) ∨ !(bit cfg 0) then .next s
  else if !ok then .next (usbSticky (rcount s R.USB_CRCERR 1) 9 (some Code.USB_CRC))
  else
    let n := isoChans cfg * isoSub cfg
    let fs := max 1 (rget s (R.USB_OUT_FSNOM e)).toNat
    let s := setUsb s { s.io.usb with got := e.val :: s.io.usb.got }
    .next ((List.range (l.length / n)).foldl (fun s i =>
      let ws := (List.range (isoChans cfg)).map fun c =>
        word (fieldAt l (n * i + isoSub cfg * c) (isoSub cfg) * 2 ^ (32 - 8 * isoSub cfg))
      portPushAll s (0xDC + e) (pairUp ws) (some (rget s R.USB_SOFTS + word (i * 1000000000 / fs)))) s)

/-- USB_FEEDBACK_WINDOW (R505): FB over the window that ends with the latest SOF. -/
def execUsbFeedbackWindow (e : Fin 4) (s : State) : Out :=
  let u := s.io.usb
  let k := 2 ^ rbits s (R.USB_OUT_FBCFG e) 3 0
  match u.sof with
  | none => .next s
  | some now =>
    if !(usbOn s) ∨ !(rbit s (R.USB_OUT_FBCFG e) 4) ∨ mget u.count e 0 < k then .next s
    else
      let n := mget u.count e 0
      let span := now - mget u.start e now
      let frac := if rbit s R.USB_CFG 3 ∨ rbit s (R.USB_OUT_CFG e) 7 then 16 else 14
      let num := (rget s (R.USB_OUT_FSNOM e)).toNat * span * 2 ^ frac
      let den := n * 2 ^ 32 * 1000000000
      let s := rset s (R.USB_OUT_FB e) (word ((2 * num + den) / (2 * den) % 2 ^ 32))
      .next (setUsb s { s.io.usb with count := mset s.io.usb.count e 0, start := mset s.io.usb.start e now })

/-- USB_TRANSFER (R502, R516): the ring of endpoint e and direction; a transmit form serves IN of a device and OUT of a host.
Wire 0x1910 + 2e + d holds what was sent. -/
def execUsbTransfer (e : Fin 16) (out : Bool) (x : UsbXfer) (s : State) : Out :=
  let i := 2 * e.val + b2n out
  let b := R.USB_EP_BASE i
  let r := unitReq s 0x19
  let tx : Bool := rbit s R.USB_STAT 1 == out
  if !(usbOn s) ∨ !(rbit s R.USB_STAT 0) then .next s
  else match x with
  | .bad => .next (usbSticky (rcount s R.USB_CRCERR 1) 9 (some Code.USB_CRC))
  | .sent =>
    if !tx ∨ !(ringHas s b) then .next s
    else match ringDesc s r b with
      | (s, none) => .next s
      | (s, some d) => match memRead s r (fieldAt d 0 5) (fieldAt d 8 2) .read with
        | (s, .inl _) => .next (ringBack s r b 2 none)
        | (s, .inr l) =>
          let s := wireOut s (0x1910 + i) (l.map (·.setWidth 64))
          .next (ringBack s r b 1 (if fieldAt d 0xA 2 % 2 = 1 then some (dtbNs s) else none))
  | .data l =>
    if tx ∨ !(ringHas s b) then .next s
    else match ringDesc s r b with
      | (s, none) => .next s
      | (s, some d) =>
        if fieldAt d 8 2 < l.length then .next s
        else match memWrite s r (fieldAt d 0 5) l with
          | (s, some _) => .next s
          | (s, none) => .next (ringBack s r b l.length (some (dtbNs s)))

/-- USB_ROLE_CHANGE (R501, R514). -/
def execUsbRoleChange (r : UsbRole) (s : State) : Out :=
  match r with
  | .ball host =>
    let t := setUsb s { s.io.usb with idHost := host }
    if s.io.usb.idHost = host then .next s
    else .next (if usbOn s ∧ rbits s R.USB_CFG 2 1 = 0 then usbRoleChanged t else t)
  | .write q => .next (onWrite s q R.USB_CFG fun r w => usbWrite s r R.USB_CFG w)

/-- USB_VBUS_CHANGE (R655, R683). -/
def execUsbVbusChange (valid : Bool) (s : State) : Out :=
  let t := setUsb s { s.io.usb with vbus := valid }
  .next (if usbOn s then usbAttach t else t)

end Sys2Proof.Machine
end

