-- ==== Sys2Proof/Machine/Taps.lean ====
section
/-! DEFINITION. Taps and GPIO (R555 to R574), and the pushes and pops of ports and taps as commands of their own. Engine
e = 4b + j is engine j of block b. -/
namespace Sys2Proof.Machine

/-- A register of engine e's block at offset o, and one of its TAP block. -/
def tapR (e o : Nat) : Nat := 0x400D0100 + 0x10000 * (e / 4) + 0x40 * (e % 4) + o
def tapB (b o : Nat) : Nat := 0x400D0000 + 0x10000 * b + o
def tap (s : State) (e : Nat) : Tap := mget s.io.taps e {}
def setTap (s : State) (e : Nat) (x : Tap) : State := { s with io := { s.io with taps := mset s.io.taps e x } }

def tapEn (s : State) (e : Nat) : Bool := rbit s (tapR e 0) 0
def tapFlow (s : State) (e : Nat) : Bool := rbit s (tapR e 0) 3
def tapPack (s : State) (e : Nat) : Bool := rbit s (tapR e 0) 4
def tapHalted (s : State) (e : Nat) : Bool := rbit s (tapR e 0x14) 9
def tapPc (s : State) (e : Nat) : Nat := rbits s (tapR e 0x14) 5 0
def tapBottom (s : State) (e : Nat) : Nat := rbits s (tapR e 4) 5 0
def tapTop (s : State) (e : Nat) : Nat := rbits s (tapR e 4) 13 8
def tapStart (s : State) (e : Nat) : Nat := rbits s (tapR e 4) 21 16
def tapIbase (s : State) (e : Nat) : Nat := rbits s (tapR e 8) 5 0
def tapIwid (s : State) (e : Nat) : Nat := rbits s (tapR e 8) 12 8 + 1
def tapObase (s : State) (e : Nat) : Nat := rbits s (tapR e 8) 21 16
def tapOwid (s : State) (e : Nat) : Nat := rbits s (tapR e 8) 28 24 + 1
def tapInstr (s : State) (e : Nat) : Word := rget s (tapB (e / 4) (0x400 + 4 * tapPc s e))
def tapSecure (s : State) (e : Nat) : Bool := unitSecure s (0x0D + e / 4)
def tapFlag (s : State) (e f : Nat) : Bool := rbit s (tapB (e / 4) 0xC) (8 + f)
def setTapFlag (s : State) (e f : Nat) (v : Bool) : State := rputb s (tapB (e / 4) 0xC) (8 + f) v
def tapIcnt (s : State) (e : Nat) : Nat := rbits s (tapR e 0x20) 5 0
def tapOcnt (s : State) (e : Nat) : Nat := rbits s (tapR e 0x20) 13 8
def setStalled (s : State) (e : Nat) (v : Bool) : State := rputb s (tapR e 0x14) 10 v

/-- An engine that executes: enabled, its unit running, neither halted nor faulted. -/
def tapRuns (s : State) (e : Nat) : Bool :=
  decide (e < tapEngines s) && unitRuns s (0x0D + e / 4) && tapEn s e && !(tapHalted s e)

/-! FIFOs (R563 to R567) -/

/-- Words of an entry. -/
def tapWords (s : State) (e : Nat) : Nat := if tapPack s e then 2 else 1

/-- The oldest entry of the input FIFO, taken out. -/
def tapEntry (s : State) (e : Nat) : Option (State × Word × Word) :=
  let x := tap s e
  match x.ififo with
  | (a, t) :: rest =>
    if tapPack s e then
      match rest with
      | (b, _) :: rest => some (setTap s e { x with ififo := rest }, a ||| b <<< 32, t)
      | [] => none
    else some (setTap s e { x with ififo := rest }, a, t)
  | [] => none

/-- Completed words enter the grant while it has room (R567). -/
def tapDrain : Nat → State → Nat → State
  | 0, s, _ => s
  | n + 1, s, e =>
    match grantBound s (0x60 + e) true with
    | none => s
    | some g =>
      if grantFull s g then s
      else match tapEntry s e with
        | none => s
        | some (s, v, t) => tapDrain n (portPush s (0x60 + e) v (some t)) e

/-- Whether a word that an engine moves finds room, or FLOW 0 makes it (R564). -/
def tapRoom (s : State) (e : Nat) : Bool := !(tapFlow s e) || decide ((tap (tapDrain 8 s e) e).ififo.length < 8)

/-- A word into the input FIFO; a full one first gives up its oldest entry (R564). -/
def tapPush (s : State) (e : Nat) (v stamp : Word) : State :=
  let s := tapDrain 8 s e
  let s := if (tap s e).ififo.length < 8 then s
    else match tapEntry s e with
      | some (s, v, t) => portPush s (0x60 + e) v (some t)
      | none => s
  let x := tap s e
  tapDrain 8 (setTap s e { x with ififo := x.ififo ++ [(v, stamp)] }) e

/-- The output FIFO takes an entry from its grant when it is empty and the grant shows one. -/
def tapFill (s : State) (e : Nat) : State :=
  let x := tap s e
  if x.ofifo ≠ [] ∨ portLevel s (0x70 + e) = 0 then s
  else match portPop s (0x70 + e) .good with
    | (s, some g) =>
      setTap s e { tap s e with ofifo := if tapPack s e then [g.val &&& 0xFFFFFFFF, g.val >>> 32] else [g.val &&& 0xFFFFFFFF] }
    | (s, none) => s

/-- A word from the output FIFO: `none` stalls; with FLOW 0 an empty one gives zero, an underrun (R564). -/
def tapPull (s : State) (e : Nat) : Option (State × Word) :=
  let s := tapFill s e
  match (tap s e).ofifo with
  | v :: rest => some (setTap s e { tap s e with ofifo := rest }, v)
  | [] => if tapFlow s e then none else some ((portPop s (0x70 + e) .good).1, 0)

/-! Sequence (R559, R561, R574) -/

/-- The fault code of an instruction, 0 where it is legal: 1 OP, 2 FIELD, 3 RANGE, 4 JUMP. -/
def tapBad (s : State) (e : Nat) (i : Word) : Nat :=
  let op := bits i 23 20
  let par := bit i 7
  let n := bits i 13 8
  let iw := tapIwid s e
  let ow := tapOwid s e
  match op with
  | 0 => if bits i 13 0 ≠ 0 then 2 else 0
  | 1 => if n = 0 ∨ 32 < n ∨ (par ∧ n % iw ≠ 0) ∨ (!par ∧ iw ≤ bits i 4 0) then 3 else 0
  | 2 => if bit i 5 then 2 else if n = 0 ∨ 32 < n ∨ (par ∧ n % ow ≠ 0) ∨ (!par ∧ ow ≤ bits i 4 0) then 3 else 0
  | 3 => if bits i 11 6 ≠ 0 then 2 else if 47 < bits i 5 0 then 3 else 0
  | 4 => if bits i 10 3 ≠ 0 then 2 else if bits i 13 12 = 3 then 3 else 0
  | 5 => if 4 < bits i 7 5 ∨ ow ≤ bits i 12 8 then 3 else 0
  | 6 =>
    let c := bits i 13 11
    let a := bits i 10 6
    let t := bits i 5 0
    if (c = 1 ∨ c = 2) ∧ iw ≤ a then 3
    else if (c = 6 ∧ 8 ≤ a) ∨ (c ∉ [1, 2, 6] ∧ a ≠ 0) then 2
    else if t < tapBottom s e ∨ tapTop s e < t then 4 else 0
  | 7 => 0
  | 8 => if bits i 10 3 ≠ 0 then 2 else 0
  | _ => 1

/-- An engine faults before the instruction at its PC. -/
def tapFault (s : State) (e code : Nat) : State :=
  let a := tapR e 0x14
  let s := rput (rputb (rputb (rputb s a 16 true) a 9 true) a 8 false) a 23 20 code
  logUnit (setStalled s e false) (tapSecure s e) Code.TAP_FAULT (word e) (word code)

/-- The address after an instruction that does not jump. -/
def tapNext (s : State) (e : Nat) : Nat := if tapPc s e = tapTop s e then tapBottom s e else (tapPc s e + 1) % 64

/-- The instruction at PC has done its work; its DELAY runs, or the next starts. -/
def tapDone (s : State) (e next : Nat) : State :=
  let d := bits (tapInstr s e) 19 14
  let s := setStalled s e false
  if d = 0 then setTap (rput s (tapR e 0x14) 5 0 next) e { tap s e with prog := .start }
  else setTap s e { tap s e with prog := .delay next }

/-- An engine that is about to start, or goes on with, an instruction of operation `op`: a bad one faults it. -/
def tapAt (s : State) (e op : Nat) (f : State → State) : State :=
  let i := tapInstr s e
  if !(tapRuns s e) then s
  else match (tap s e).prog with
    | .start =>
      if tapBad s e i = 1 then tapFault s e 1
      else if bits i 23 20 ≠ op then s
      else if tapBad s e i ≠ 0 then tapFault s e (tapBad s e i)
      else f s
    | .shift _ => if bits i 23 20 = op then f s else s
    | _ => s

/-! Instructions (R560, R562, R563) -/

/-- The input window of a sample of the pins, pin i in bit i. -/
def tapWindow (s : State) (e : Nat) (pins : BitVec 48) : Nat := pins.toNat / 2 ^ tapIbase s e % 2 ^ tapIwid s e

/-- ISR moves to the input FIFO. -/
def tapIsrPush (s : State) (e : Nat) : State :=
  let s := tapPush s e (rget s (tapR e 0x18)) (tap s e).first
  rput (rset s (tapR e 0x18) 0) (tapR e 0x20) 5 0 0

/-- One step of SHIFT-IN; `none` stalls. -/
def shiftInStep (s : State) (e : Nat) (pins : BitVec 48) : Option State :=
  let i := tapInstr s e
  let par := bit i 7
  let k := if par then tapIwid s e else 1
  let full := rbits s (tapR e 0x10) 4 0 + 1
  let c := tapIcnt s e
  if full ≤ c + k ∧ !(tapRoom s e) then none
  else
    let isr := (rget s (tapR e 0x18)).toNat
    let w := if par then tapWindow s e pins else tapWindow s e pins / 2 ^ bits i 4 0 % 2
    let v := if bit i 6 then isr / 2 ^ k + w * 2 ^ (32 - k) else (isr * 2 ^ k + w) % 2 ^ 32
    let s := if c = 0 then setTap s e { tap s e with first := dtbNs s } else s
    let s := rput (rset s (tapR e 0x18) (word (v % 2 ^ 32))) (tapR e 0x20) 5 0 (c + k)
    some (if full ≤ c + k then tapIsrPush s e else s)

/-- SHIFT-IN with all its steps done: PUSH moves what ISR holds. -/
def shiftInEnd (s : State) (e : Nat) : State :=
  if bit (tapInstr s e) 5 ∧ tapIcnt s e ≠ 0 then
    if tapRoom s e then tapDone (tapIsrPush s e) e (tapNext s e)
    else setStalled (setTap s e { tap s e with prog := .shift 0 }) e true
  else tapDone s e (tapNext s e)

/-- Steps still to do of the shift at PC. -/
def shiftLeft (s : State) (e wid : Nat) : Nat :=
  match (tap s e).prog with
  | .shift n => n
  | _ => let i := tapInstr s e; if bit i 7 then bits i 13 8 / wid else bits i 13 8

/-- SHIFT-IN samples the pins, one step each. -/
def shiftIn (s : State) (e : Nat) : List (BitVec 48) → State
  | [] => s
  | p :: rest =>
    let n := shiftLeft s e (tapIwid s e)
    if n = 0 then shiftInEnd s e
    else match shiftInStep s e p with
      | none => setStalled (setTap s e { tap s e with prog := .shift n }) e true
      | some t =>
        let t := setStalled (setTap t e { tap t e with prog := .shift (n - 1) }) e false
        if n = 1 then shiftInEnd t e else shiftIn t e rest

/-- A level or an output enable of output-window pin `o` of engine e. -/
def setPin (s : State) (e o : Nat) (dirs v : Bool) : State :=
  if tapOwid s e ≤ o then s
  else
    let x := tap s e
    let m : BitVec 48 := 1#48 <<< (tapObase s e + o)
    let put (w : BitVec 48) : BitVec 48 := if v then w ||| m else w &&& ~~~ m
    setTap s e (if dirs then { x with oe := put x.oe } else { x with level := put x.level })

/-- One step of SHIFT-OUT; `none` stalls. -/
def shiftOutStep (s : State) (e : Nat) : Option State :=
  let i := tapInstr s e
  let load : Option State := if tapOcnt s e ≠ 0 then some s
    else (tapPull s e).map fun (s, v) =>
      rput (rset s (tapR e 0x1C) v) (tapR e 0x20) 13 8 (rbits s (tapR e 0x10) 12 8 + 1)
  load.map fun s =>
    let osr := (rget s (tapR e 0x1C)).toNat
    let par := bit i 7
    let k := if par then tapOwid s e else 1
    let dir := bit i 6
    let s := if par then
        (List.range k).foldl (fun s j => setPin s e j false (osr.testBit (if dir then j else 32 - k + j))) s
      else setPin s e (bits i 4 0) false (osr.testBit (if dir then 0 else 31))
    let v := if dir then osr / 2 ^ k else osr * 2 ^ k % 2 ^ 32
    rput (rset s (tapR e 0x1C) (word v)) (tapR e 0x20) 13 8 (tapOcnt s e - k)

/-- `k` steps of SHIFT-OUT. -/
def shiftOut : Nat → State → Nat → State
  | 0, s, _ => s
  | k + 1, s, e =>
    let n := shiftLeft s e (tapOwid s e)
    match shiftOutStep s e with
    | none => setStalled (setTap s e { tap s e with prog := .shift n }) e true
    | some t =>
      let t := setStalled (setTap t e { tap t e with prog := .shift (n - 1) }) e false
      if n = 1 then tapDone t e (tapNext t e) else shiftOut k t e

/-- COUNT. -/
def tapCount (s : State) (e : Nat) : State :=
  let i := tapInstr s e
  let a := tapR e (if bit i 13 then 0x28 else 0x24)
  if bit i 12 then
    match tapPull s e with
    | none => setStalled s e true
    | some (s, v) => tapDone (rset s a v) e (tapNext s e)
  else tapDone (rset s a (word (bits i 11 0))) e (tapNext s e)

/-- EMIT. -/
def tapEmit (s : State) (e : Nat) : State :=
  let i := tapInstr s e
  if bit i 11 ∧ !(tapRoom s e) then setStalled s e true
  else
    let s := if bit i 11 then tapPush s e (rget s (tapR e 0x24)) (dtbNs s) else s
    let s := if bit i 12 then setTapFlag s e (bits i 2 0) true else s
    let s := if bit i 13 then edge s (152 + e) else s
    tapDone s e (tapNext s e)

/-- JUMPIF with the pins as the engine sees them. -/
def tapJumpif (s : State) (e : Nat) (pins : BitVec 48) : State :=
  let i := tapInstr s e
  let a := bits i 10 6
  let t := bits i 5 0
  let go (s : State) (c : Bool) : State := tapDone s e (if c then t else tapNext s e)
  let w := tapWindow s e pins
  let countdown (r : Nat) : State :=
    let v := rget s r
    if v = 0 then go s false else go (rset s r (v - 1)) true
  match bits i 13 11 with
  | 0 => go s true
  | 1 => go s (w.testBit a)
  | 2 => go s (!(w.testBit a))
  | 3 => countdown (tapR e 0x24)
  | 4 => countdown (tapR e 0x28)
  | 5 => let s := tapFill s e; go s ((tap s e).ofifo = [])
  | 6 => go s (tapFlag s e a)
  | _ => let s := tapDrain 8 s e; go s (decide (8 ≤ (tap s e).ififo.length))

/-- SETPIN. -/
def tapSetpin (s : State) (e : Nat) : State :=
  let i := tapInstr s e
  let s := (List.range (bits i 7 5 + 1)).foldl (fun s j => setPin s e (bits i 12 8 + j) (bit i 13) (bit i j)) s
  tapDone s e (tapNext s e)

/-- An engine that waits in WAITEVT FLAG f with CLR 1. -/
def waitsClr (s : State) (e f : Nat) : Bool :=
  let i := tapInstr s e
  tapRuns s e && (tap s e).prog == .wait && bits i 23 20 = 4 && bits i 13 12 = 0 && bit i 11 && bits i 2 0 = f

/-- The condition of a waiting engine holds: it goes on (R560, R573). -/
def tapWaitMet (s : State) (e : Nat) : State :=
  let i := tapInstr s e
  if !(tapRuns s e) ∨ (tap s e).prog ≠ .wait then s
  else if bits i 23 20 = 3 then tapDone s e (tapNext s e)
  else match bits i 13 12 with
    | 0 =>
      let f := bits i 2 0
      if !(tapFlag s e f) then s
      else if !(bit i 11) then tapDone s e (tapNext s e)
      else
        let all := (List.range 4).filter fun j => waitsClr s (e / 4 * 4 + j) f
        setTapFlag (all.foldl (fun s j => tapDone s (e / 4 * 4 + j) (tapNext s (e / 4 * 4 + j))) s) e f false
    | 1 => let s := tapFill s e; if (tap s e).ofifo = [] then s else tapDone s e (tapNext s e)
    | _ =>
      let t := rget s (tapR e 0x30)
      if dtbNs s < t then s
      else tapDone (rset s (tapR e 0x30) (t + rget s (tapR e 0x38))) e (tapNext s e)

/-- A stall ends: room or a word has appeared (R564). -/
def tapStallEnd (s : State) (e : Nat) : State :=
  if !(tapRuns s e) ∨ !(rbit s (tapR e 0x14) 10) then s
  else match bits (tapInstr s e) 23 20 with
    | 1 =>
      if !(tapRoom s e) then s
      else if shiftLeft s e (tapIwid s e) = 0 then shiftInEnd s e else setStalled s e false
    | 2 => let s := tapFill s e; if (tap s e).ofifo = [] then s else setStalled s e false
    | 7 => tapCount s e
    | 8 => tapEmit s e
    | _ => s

/-! Control (R569 to R572) -/

/-- REWIND: the engine returns to START with its registers cleared; a faulted one goes on unless HALT holds it. -/
def tapRewind (s : State) (e : Nat) : State :=
  let s := [0x18, 0x1C, 0x20, 0x24, 0x28].foldl (fun s o => rset s (tapR e o) 0) s
  let a := tapR e 0x14
  let hold := rbit s (tapR e 0) 1
  let s := rput (rput (rputb (rputb s a 9 hold) a 8 (tapEn s e && !hold)) a 5 0 (tapStart s e)) a 23 20 0
  setStalled (setTap s e { tap s e with prog := .start, rewritten := false }) e false

/-- Source frequency of a tap clock in Hz. -/
def tapSrcHz (src : Nat) : Nat := match src with | 0 => 45158400 | 1 => 49152000 | 2 => 800000000 | _ => 25000000

/-- A refusal of R569. -/
def tapCfgBad (s : State) (e : Nat) : Bool :=
  let c := rget s (tapR e 0xC)
  decide (48 < tapIbase s e + tapIwid s e) || decide (48 < tapObase s e + tapOwid s e) ||
  !(decide (tapBottom s e ≤ tapStart s e ∧ tapStart s e ≤ tapTop s e)) ||
  bits c 31 16 = 0 || decide (200000000 * (bits c 31 16 * 256 + bits c 15 8) < 256 * tapSrcHz (bits c 1 0))

def tapEnds (e : Nat) : List Nat := [0x60 + e, 0x70 + e]

/-- A write of TAP_CTRLj. -/
def tapCtrlWrite (s : State) (r : Req) (e : Nat) (w : Wr) : State :=
  let a := tapR e 0
  let st := tapR e 0x14
  let plain : Wr := ⟨w.v, w.m &&& ~~~ (4 : Word)⟩
  if !(rbit s a 0) then
    let t := boundWrite s r a plain 0x19 (tapEnds e)
    if !(rbit t a 0) then t
    else if tapCfgBad t e then
      logBy (rputb (rputb t a 0 false) st 17 true) (some r) (tapSecure s e) Code.TAP_CFG_BAD (word e) 0
    else tapRewind (setTap t e {}) e
  else if !(bit w.v 0) then
    match endpointLive s (tapEnds e) with
    | some n => liveWrite s r n
    | none =>
      let t := tapRewind (setTap (genericWrite s r a plain) e {}) e
      rputb (rputb t st 8 false) st 9 false
  else
    let was := tapHalted s e
    let t := genericWrite s r a ⟨w.v, w.m &&& 2⟩
    let t := if w.one 2 ∧ was then tapRewind t e else t
    let faulted : Bool := rbits t st 23 20 ≠ 0
    if rbit t a 1 then rputb (rputb t st 9 true) st 8 false
    else if tapHalted t e ∧ !faulted then
      let x := tap t e
      let t := if x.rewritten then setStalled (setTap t e { x with prog := .start, rewritten := false }) e false else t
      rputb (rputb t st 9 false) st 8 true
    else if !(tapHalted t e) then setTap t e { tap t e with rewritten := false }
    else t

/-- A write of TAP_PMEMw of block b (R570). -/
def tapPmemWrite (s : State) (r : Req) (b w : Nat) (x : Wr) : State :=
  let a := tapB b (0x400 + 4 * w)
  let busy := (List.range 4).any fun j =>
    let e := 4 * b + j
    tapEn s e && !(tapHalted s e) && decide (tapBottom s e ≤ w ∧ w ≤ tapTop s e)
  if busy then logBy (rputb s (tapB b 0xC) 0 true) (some r) (tapSecure s (4 * b)) Code.TAP_PMEM_BUSY (word b) 0
  else
    let t := genericWrite s r a x
    if rget t a = rget s a then t
    else (List.range 4).foldl (fun t j =>
      let e := 4 * b + j
      if tapEn t e && tapHalted t e && tapPc t e = w then setTap t e { tap t e with rewritten := true } else t) t

def tapWrite (s : State) (r : Req) (a : Nat) (w : Wr) : State :=
  let b := (a - 0x400D0000) / 0x10000
  let o := a % 0x10000
  if o = 0x008 then
    let l := [bits w.v 1 0, bits w.v 3 2, bits w.v 5 4, bits w.v 7 6]
    if l.Nodup then genericWrite s r a w else s
  else if 0x400 ≤ o then tapPmemWrite s r b ((o - 0x400) / 4) w
  else if 0x100 ≤ o ∧ o < 0x200 then
    let e := 4 * b + (o - 0x100) / 0x40
    match (o - 0x100) % 0x40 with
    | 0x00 => tapCtrlWrite s r e w
    | 0x04 | 0x08 | 0x0C | 0x10 =>
      if tapEn s e then (match endpointLive s (tapEnds e) with | some n => liveWrite s r n | none => s)
      else boundWrite s r a w (~~~ 0#64) (tapEnds e)
    | _ => genericWrite s r a w
  else genericWrite s r a w

/-! Pins (R555 to R557, R568) -/

/-- What the device drives on tap pin n: a level, or nothing. -/
def pinDrive (s : State) (n : Nat) : Option Bool :=
  if !(gateIsOpen s) then none
  else
    let f := rbits s (R.GPIO_FUNC n) 2 0
    if f = 0 then (if rbit s R.GPIO_OE n then some (rbit s R.GPIO_OUT n) else none)
    else
      let b := f - 1
      let on (j : Nat) : Bool := tapEn s (4 * b + j) && (tap s (4 * b + j)).oe.getLsbD n
      let lvl (j : Nat) : Bool := (tap s (4 * b + j)).level.getLsbD n
      if rbit s (tapB b 0) n then
        (if (List.range 4).any fun j => on j && !(lvl j) then some false else none)
      else
        let order := (List.range 4).map fun k => rbits s (tapB b 8) (2 * k + 1) (2 * k)
        (order.find? on).map lvl

/-- The level of ball TPn. -/
def ballLevel (s : State) (n : Nat) : Bool := (pinDrive s n).getD (s.balls.getLsbD n)

/-- A write of GPIO_FUNCn (R555). -/
def gpioFuncWrite (s : State) (r : Req) (n : Nat) (w : Wr) : State :=
  let f := w.bits 2 0
  let old := rbits s (R.GPIO_FUNC n) 2 0
  let secure (k : Nat) : Bool := k ≠ 0 && unitSecure s (0x0D + (k - 1))
  if 5 ≤ f ∨ (f ≠ 0 ∧ !(unitPresent s (0x0D + (f - 1)))) then s
  else if r.world = .normal ∧ f ≠ old ∧ (secure f || secure old) then
    logReq s (if unitSecure s 0x11 then 1 else 0) Code.TAP_PIN_DENIED r (word (R.GPIO_FUNC n)) 0
  else genericWrite s r (R.GPIO_FUNC n) w

def gpioWrite (s : State) (r : Req) (a : Nat) (w : Wr) : State :=
  if a < R.GPIO_FUNC 48 then gpioFuncWrite s r ((a - 0x40110000) / 4) w else genericWrite s r a w

def gpioRead (s : State) (r : Req) (a : Nat) (m : Word) : State × Word :=
  if a = R.GPIO_IN then
    (s, (List.range 48).foldl (fun v n => setBit v n (ballLevel s n)) 0)
  else genericRead s r a m

/-! Commands -/

/-- TAP_ENABLE (R569). -/
def execTapEnable (q : RegAcc) (e : Fin 16) (s : State) : Out :=
  .next (onWrite s q (tapR e 0) fun r w => tapWrite s r (tapR e 0) w)
/-- TAP_DISABLE (R569, R572). -/
def execTapDisable (q : RegAcc) (e : Fin 16) (s : State) : Out :=
  .next (onWrite s q (tapR e 0) fun r w => tapWrite s r (tapR e 0) w)
/-- TAP_HALT (R571). -/
def execTapHalt (q : RegAcc) (e : Fin 16) (s : State) : Out :=
  .next (onWrite s q (tapR e 0) fun r w => tapWrite s r (tapR e 0) w)
/-- TAP_RESUME (R571). -/
def execTapResume (q : RegAcc) (e : Fin 16) (s : State) : Out :=
  .next (onWrite s q (tapR e 0) fun r w => tapWrite s r (tapR e 0) w)
/-- TAP_REWIND (R572). -/
def execTapRewind (q : RegAcc) (e : Fin 16) (s : State) : Out :=
  .next (onWrite s q (tapR e 0) fun r w => tapWrite s r (tapR e 0) w)
/-- TAP_PMEM_WRITE (R570). -/
def execTapPmemWrite (q : RegAcc) (b : Fin 4) (w : Fin 64) (s : State) : Out :=
  .next (onWrite s q (tapB b (0x400 + 4 * w)) fun r x => tapWrite s r (tapB b (0x400 + 4 * w)) x)
/-- TAP_NOP (R559). -/
def execTapNop (e : Fin 16) (s : State) : Out := .next (tapAt s e 0 fun s => tapDone s e (tapNext s e))
/-- TAP_SHIFT_IN (R562, R563): one step for each sample of the pins. -/
def execTapShiftIn (e : Fin 16) (pins : List (BitVec 48)) (s : State) : Out :=
  .next (tapAt s e 1 fun s => shiftIn s e pins)
/-- TAP_SHIFT_OUT (R562, R563): `k` steps. -/
def execTapShiftOut (e : Fin 16) (k : Fin 33) (s : State) : Out := .next (tapAt s e 2 fun s => shiftOut k s e)
/-- TAP_WAITPIN (R560). -/
def execTapWaitpin (e : Fin 16) (s : State) : Out :=
  .next (tapAt s e 3 fun s => setTap s e { tap s e with prog := .wait })
/-- TAP_WAITEVT (R560). -/
def execTapWaitevt (e : Fin 16) (s : State) : Out :=
  .next (tapAt s e 4 fun s => setTap s e { tap s e with prog := .wait })
/-- TAP_WAIT_MET (R560, R573). -/
def execTapWaitMet (e : Fin 16) (s : State) : Out := .next (tapWaitMet s e)
/-- TAP_SETPIN (R560). -/
def execTapSetpin (e : Fin 16) (s : State) : Out := .next (tapAt s e 5 fun s => tapSetpin s e)
/-- TAP_JUMPIF (R560, R561). -/
def execTapJumpif (e : Fin 16) (pins : BitVec 48) (s : State) : Out := .next (tapAt s e 6 fun s => tapJumpif s e pins)
/-- TAP_COUNT (R560). -/
def execTapCount (e : Fin 16) (s : State) : Out := .next (tapAt s e 7 fun s => tapCount s e)
/-- TAP_EMIT (R560). -/
def execTapEmit (e : Fin 16) (s : State) : Out := .next (tapAt s e 8 fun s => tapEmit s e)
/-- TAP_DELAY_EXPIRY (R559). -/
def execTapDelayExpiry (e : Fin 16) (s : State) : Out :=
  match (tap s e).prog with
  | .delay next =>
    if tapRuns s e then .next (setTap (rput s (tapR e 0x14) 5 0 next) e { tap s e with prog := .start }) else .next s
  | _ => .next s
/-- TAP_STALL_END (R564). -/
def execTapStallEnd (e : Fin 16) (s : State) : Out := .next (tapStallEnd s e)

/-- GPIO_FUNC_WRITE (R555). -/
def execGpioFuncWrite (q : RegAcc) (n : Fin 48) (s : State) : Out :=
  .next (onWrite s q (R.GPIO_FUNC n) fun r w => gpioWrite s r (R.GPIO_FUNC n) w)

/-- GPIO_EDGE (R313): ball TPn changes to a level. -/
def execGpioEdge (n : Fin 48) (high : Bool) (s : State) : Out :=
  let was := s.balls.getLsbD n
  let m : BitVec 48 := 1#48 <<< n.val
  let t := { s with balls := if high then s.balls ||| m else s.balls &&& ~~~ m }
  let mode := rbits s (R.GPIO_EDGE n) 1 0
  if was = high ∨ !(unitRuns s 0x11) ∨ !(mode.testBit (if high then 0 else 1)) then .next t
  else .next (edge (rputb t R.GPIO_EVT n true) (168 + n / 3))

/-- PORT_GRANT_PUSH (R379, R395): the port or tap endpoint that writes grant n pushes an entry: a tap the oldest of its
FIFO, a port the oldest that waits in it, or the value the command brings. -/
def execPortGrantPush (n : Fin 64) (v : Word) (side : Option Word) (s : State) : Out :=
  let c := grantWriter s n
  if !(grantOn s n) ∨ !(endpointPort c) then .next s
  else if 0x60 ≤ c ∧ c < 0x70 then
    match tapEntry s (c - 0x60) with
    | some (s, v, t) => .next (portPush s c v (some t))
    | none => .next s
  else match mget s.io.outq c [] with
    | (v, side) :: rest => .next (portPush { s with io := { s.io with outq := mset s.io.outq c rest } } c v side)
    | [] => .next (portPush s c v side)

/-- PORT_GRANT_POP (R395, R396): the port or tap endpoint that reads grant n pops at its deadline, ahead of use. -/
def execPortGrantPop (n : Fin 64) (ecc : Ecc) (s : State) : Out :=
  let c := grantReader s n
  if !(grantOn s n) ∨ !(endpointPort c) then .next s
  else if 0x70 ≤ c ∧ c < 0x80 then
    let e := c - 0x70
    if 8 < (tap s e).ofifo.length + tapWords s e then .next s
    else match portPop s c ecc with
    | (t, some g) =>
      let ws := if tapPack s e then [g.val &&& 0xFFFFFFFF, g.val >>> 32] else [g.val &&& 0xFFFFFFFF]
      .next (setTap t e { tap t e with ofifo := (tap t e).ofifo ++ ws })
    | (t, none) => .next t
  else
    let (t, v) := sinkPop s c ecc
    .next { t with io := { t.io with held := mset t.io.held c (mget t.io.held c [] ++ [v]) } }

end Sys2Proof.Machine
end

