-- ==== Sys2Proof/Machine/Bus.lean ====
section
/-! DEFINITION. Accesses by address (R1 to R8, R28 to R44, R693): the dispatch of a register access to its unit, the
requests of the remote windows (R510, R539 to R541), the units whose registers stand nowhere else (PCIE, SUNDIK, HCP), and
REGISTER_WRITE. -/
namespace Sys2Proof.Machine

/-! PCIE registers (R512) -/

/-- The message of vector v leaves (R512; log entry 9). -/
def msixSend (s : State) (v : Nat) : State :=
  { s with wire := mset s.wire 0x1A [rget s (R.PCIE_MSIX (2 * v)), rget s (R.PCIE_MSIX (2 * v + 1)) &&& 0xFFFFFFFF] }

/-- A sticky bit of PCIE_STAT: its code once until it is cleared, and source 205 (R516). -/
def pcieSticky (s : State) (bitNo : Nat) (code : Option Nat) (arg : Word) : State :=
  if rbit s R.PCIE_STAT bitNo then s
  else
    let s := edge (rputb s R.PCIE_STAT bitNo true) 205
    match code with
    | some c => logUnit s (unitSecure s 0x1A) c arg 0
    | none => s

/-- Whether PCIE_VECSRCv may name a source (R512). -/
def vecSourceOk (s : State) (i : Nat) : Bool := eicPresent s i && !(eicSecure s i)

def pcieWrite (s : State) (r : Req) (a : Nat) (w : Wr) : State :=
  if R.PCIE_VECSRC 0 ≤ a ∧ a < R.PCIE_VECSRC 32 then
    if vecSourceOk s (w.bits 7 0) then genericWrite s r a w
    else logBy s (some r) (unitSecure s 0x1A) Code.PCIE_MSIX_SRC (word ((a - R.PCIE_VECSRC 0) / 4)) (word (w.bits 7 0))
  else
    let t := genericWrite s r a w
    if R.PCIE_MSIX 0 ≤ a ∧ a < R.PCIE_MSIX 64 then
      let v := (a - R.PCIE_MSIX 0) / 16
      if rbit s (R.PCIE_MSIX (2 * v + 1)) 32 ∧ !(rbit t (R.PCIE_MSIX (2 * v + 1)) 32) ∧ rbit t R.PCIE_PBA v then
        msixSend (rputb t R.PCIE_PBA v false) v
      else t
    else t

/-! SUNDIK registers (R413, R518, R542, R548) -/

/-- A write of SDK_CFG: EN 0 takes both ports DOWN; MASTER gives number 0 (R518, R526). -/
def sdkCfgWrite (s : State) (r : Req) (w : Wr) : State :=
  let t := genericWrite s r R.SDK_CFG w
  let t := if rbit t R.SDK_CFG 0 then t else portDown (portDown t 0 false false) 1 false false
  if rbit t R.SDK_CFG 1 ∧ !(rbit s R.SDK_CFG 1) then rput t R.SDK_STAT 3 0 8
  else if rbit s R.SDK_CFG 1 ∧ !(rbit t R.SDK_CFG 1) then rput t R.SDK_STAT 3 0 0
  else t

/-- A GO to SDK_OFWD: the doorbell leaves as an ORDER_DOOR cell (R542). -/
def ofwdGo (s : State) (r : Req) (w : Wr) : State :=
  if !(w.one 63) ∨ rbits s R.SDK_OFWDSTAT 1 0 = 1 then s
  else
    let d := w.bits 18 16
    let s := rset s R.SDK_OFWD (w.v &&& 0x7FFFFFFFFFFFFFFF)
    match (if d ≠ myDev s ∧ numbered s then routeOf s d else none) with
    | some n =>
      if portState s n = PS.UP then
        sdkSend (rset s R.SDK_OFWDSTAT 1) n
          (mkCell 0x08 (myDev s) d (remSealed s r.world) true (w.bits 4 0) (leBytes 2 (w.bits 15 8 + 1)))
      else rset s R.SDK_OFWDSTAT 3
    | none => rset s R.SDK_OFWDSTAT 3

def sdkWrite (s : State) (r : Req) (a : Nat) (w : Wr) : State :=
  if a = R.SDK_CFG then sdkCfgWrite s r w
  else if a = R.SDK_MARKPER then (if 100 ≤ w.bits 15 0 ∧ w.bits 15 0 ≤ 10000 then genericWrite s r a w else s)
  else if a = R.SDK_RTIMEOUT then (if 10 ≤ w.bits 15 0 ∧ w.bits 15 0 ≤ 50000 then genericWrite s r a w else s)
  else if a = R.SDK_OFWD then ofwdGo s r w
  else if R.SDK_STR 0 ≤ a ∧ a < R.SDK_STR 8 then
    let c := (a - R.SDK_STR 0) / 16
    boundWrite s r a w (mask 5 0) [0xE0 + c, 0xE8 + c]
  else genericWrite s r a w

/-! HCP registers (R585, R595) -/

def hcpWrite (s : State) (r : Req) (a : Nat) (w : Wr) : State :=
  if a = R.HCP_CFG then
    let w := if w.bits 15 8 = 0 then ⟨w.v, w.m &&& ~~~ mask 15 8⟩ else w
    let t := rputb (genericWrite s r a w) a 1 false
    if w.one 1 ∨ rbit t a 0 then hcpClose t else t
  else genericWrite s r a w

/-! The dispatch of a register access -/

/-- A write that has passed every check, at a register's own address. -/
def unitPut (s : State) (r : Req) (a : Nat) (w : Wr) : State :=
  match (a - 0x40000000) / 0x10000 with
  | 0x00 => sysWrite s r a w
  | 0x01 => pccWrite s r a w
  | 0x02 => partWrite s r a w
  | 0x03 => eicWrite s r a w
  | 0x04 => bungUnitWrite s r a w
  | 0x05 => logWrite s r a w
  | 0x06 => copperWrite s r a w
  | 0x07 => keeveWrite s r a w
  | 0x09 => dtbWrite s r a w
  | 0x0A => orderWrite s r a w
  | 0x0B => grantWrite s r a w
  | 0x0C => spWrite s r a w
  | 0x0D | 0x0E | 0x0F | 0x10 => tapWrite s r a w
  | 0x11 => gpioWrite s r a w
  | 0x12 => sapWrite s r a w
  | 0x13 => aesWrite s r a w
  | 0x14 => madiWrite s r a w
  | 0x15 => pdmWrite s r a w
  | 0x16 => sdiWrite s r a w
  | 0x17 | 0x18 => ethWrite s r a w
  | 0x19 => usbWrite s r a w
  | 0x1A => pcieWrite s r a w
  | 0x1B => sdkWrite s r a w
  | 0x22 => steepWrite s r a w
  | 0x1E => hcpWrite s r a w
  | 0x1F => wdtWrite s r a w
  | 0x20 => monWrite s r a w
  | 0x21 => dbgWrite s r a w
  | 0x23 => aonWrite s r a w
  | _ => genericWrite s r a w

/-- A read that has passed every check, at a register's own address; only a pop can still fail (R396). -/
def unitGet (s : State) (r : Req) (a : Nat) (m : Word) : State × Sum BusErr Word :=
  let ok (x : State × Word) : State × Sum BusErr Word := (x.1, .inr x.2)
  match (a - 0x40000000) / 0x10000 with
  | 0x00 => ok (sysRead s r a m)
  | 0x01 => ok (pccRead s r a m)
  | 0x02 => ok (partRead s r a m)
  | 0x03 => ok (eicRead s r a m)
  | 0x04 => ok (bungUnitRead s r a)
  | 0x05 => ok (logUnitRead s r a m)
  | 0x06 => ok (copperRead s r a m)
  | 0x08 => ok (trngRead s r a m)
  | 0x09 => ok (dtbRead s r a m)
  | 0x0A => ok (orderRead s r a m)
  | 0x0B => grantRead s r a m
  | 0x0C => ok (spRead s r a m)
  | 0x11 => ok (gpioRead s r a m)
  | 0x16 => ok (sdiRead s r a m)
  | 0x21 => ok (dbgRead s r a m)
  | _ => ok (genericRead s r a m)

/-- The register that an address names and whether it names its upper half. -/
def regHalf (a : Nat) : Nat × Bool := match regAt a with | some (_, o) => (o, o ≠ a) | none => (a, false)

/-- A write of `n` bytes in a present unit's window. -/
def unitWrite (s : State) (r : Req) (a n : Nat) (v : Word) : State × Option BusErr :=
  match unitCheck s r a n true with
  | some e => (refuse s r a e, some e)
  | none =>
    if writeIgnored s r a ∨ windowOff s a then (s, none)
    else
      let h := regHalf a
      let w : Wr := if n = 8 then ⟨v, ~~~ 0#64⟩
        else if h.2 then ⟨(v &&& 0xFFFFFFFF) <<< 32, mask 63 32⟩ else ⟨v &&& 0xFFFFFFFF, mask 31 0⟩
      (unitPut s r h.1 w, none)

/-- A read of `n` bytes in a present unit's window. -/
def unitRead (s : State) (r : Req) (a n : Nat) : State × Sum BusErr Word :=
  match unitCheck s r a n false with
  | some e => (refuse s r a e, .inl e)
  | none =>
    if windowOff s a then (s, .inr 0)
    else
      let h := regHalf a
      match unitGet s r h.1 (if n = 8 then ~~~ 0#64 else if h.2 then mask 63 32 else mask 31 0) with
      | (s, .inr v) => (s, .inr (if n = 8 then v else if h.2 then v >>> 32 else v &&& 0xFFFFFFFF))
      | (s, .inl e) => (refuse s r a e, .inl e)

/-- A read of `n` bytes anywhere in the address map. -/
def busRead (s : State) (r : Req) (a n : Nat) : State × Sum BusErr (List Byte) :=
  match regionOf s a with
  | .unit _ _ => match unitRead s r a n with
    | (s, .inr v) => (s, .inr (leBytes n v.toNat))
    | (s, .inl e) => (s, .inl e)
  | _ => memRead s r a n .read

/-- A write anywhere in the address map. -/
def busWrite (s : State) (r : Req) (a : Nat) (l : List Byte) : State × Option BusErr :=
  match regionOf s a with
  | .unit _ _ => unitWrite s r a l.length (word (leNat l))
  | _ => memWrite s r a l

/-! Requests of the remote windows -/

/-- The physical address in the target that an offset of its remote window reaches (R539). -/
def remTarget (off : Nat) : Nat := if off < 0x80000000 then off else 0x100000000 + (off - 0x80000000)

def remFreeTag (s : State) : Nat :=
  ((List.range 256).find? fun i => !(s.remote.any fun q => q.tag = (s.nextTag + i) % 256 && q.answer.isNone)).getD 0

/-- One piece is requested, unless it has been: a MEM_READ or MEM_WRITE cell, or a read over PCIe. What cannot be sent is
answered at once. -/
def remAsk (s : State) (r : Req) (a n : Nat) (data : Option (List Byte)) : State :=
  if s.remote.any fun q => q.is r a n data.isSome then s
  else
    let tag := (s.nextTag + remFreeTag s) % 256
    let q : RemReq := ⟨r.id, r.world, a, n, data, none, tag, none⟩
    let s := { s with nextTag := (tag + 1) % 256 }
    match regionOf s a with
    | .sundik d off =>
      let x := remTarget off
      let no := { s with remote := s.remote ++ [{ q with dev := some d, answer := some (.inl .unmappedAddr) }] }
      match (if d ≠ myDev s ∧ numbered s then routeOf s d else none) with
      | some p =>
        if portState s p ≠ PS.UP then no
        else
          let sealed := remSealed s r.world
          let pay := leBytes 5 x ++ leBytes 1 (Nat.log2 n + 128 * b2n (r.world = .secure)) ++ [0, 0] ++
            (match data with | some l => l | none => [])
          sdkSend { s with remote := s.remote ++ [{ q with dev := some d }] } p
            (mkCell (if data.isSome then 0x10 else 0x11) (myDev s) d sealed true tag pay)
      | none => no
    | _ =>
      if pcieOutOk s then
        { s with
          remote := s.remote ++ [q],
          wire := mset s.wire 0x31A [word ((rget s R.PCIE_OUTXLAT).toNat + (a - 0x800000000)), word n, word tag] }
      else
        { pcieOutRefused s r.id r.world a with remote := s.remote ++ [{ q with answer := some (.inl .unmappedAddr) }] }

/-- The line pieces of an access that go out as remote requests: a write over PCIe is posted and waits for nothing. -/
def remNeeds (s : State) (r : Req) (a n : Nat) (write : Bool) : List (Nat × Nat) :=
  ((linePieces a n).filter fun p => match regionOf s p.1 with
    | .sundik _ _ => true
    | .pcieOut => !write
    | _ => false).flatMap fun p => remPieces s r p.1 p.2

/-- Whether an access still waits for a remote answer. -/
def remWaits (s : State) (r : Req) (a n : Nat) (write : Bool) : Bool :=
  (remNeeds s r a n write).any fun p => !(s.remote.any fun q => q.is r p.1 p.2 write && q.answer.isSome)

/-- Every remote request of an access that passes the checks is made. -/
def remStart (s : State) (r : Req) (a n : Nat) (data : Option (List Byte)) : State :=
  (remNeeds s r a n data.isSome).foldl (fun s p =>
    if (accessCheck s r p.1 (if data.isSome then .write else .read)).isSome then s
    else remAsk s r p.1 p.2 (data.map fun l => sub l (p.1 - a) p.2)) s

/-- Whether an access must wait: it passes the checks and not all of its remote pieces are answered. -/
def busWaits (s : State) (r : Req) (a n : Nat) (write : Bool) : Bool :=
  remWaits s r a n write && (linePieces a n).all fun p => (accessCheck s r p.1 (if write then .write else .read)).isNone

/-! Doorbells served whole -/

/-- Descriptors of queue n's doorbells are accepted until none is left or `fuel` ends. -/
def doorRun : Nat → State → Nat → State
  | 0, s, _ => s
  | f + 1, s, n => if mget s.doors n [] = [] ∨ !(queueOn s n) then s else doorRun f (orderAccept s n) n

/-- A doorbell of k descriptors on queue n, served at once: what was accepted of it, and the gyle of its first order. -/
def doorNow (s : State) (r : Req) (n k : Nat) : State × Nat × Nat :=
  let s := doorRun 4096 s n
  let g := (rget s (R.ORDER_QGYLE n)).toNat
  let s := doorRun 256 (queueDoor s r n k) n
  (s, (rget s (R.ORDER_QGYLE n)).toNat - g, g)

/-! Commands -/

/-- REGISTER_WRITE (R1): a write at any address of the unit windows. -/
def execRegisterWrite (q : RegAcc) (a : BitVec 40) (s : State) : Out :=
  let r := reqOf s q.who
  if reqLive s q.who a.toNat then
    match regionOf s a.toNat with
    | .unit _ _ => .next (unitWrite s r a.toNat (if q.wide then 8 else 4) q.value).1
    | .absent _ => if 0x40000000 ≤ a.toNat ∧ a.toNat < 0x40240000 then .next (refuse s r a.toNat .absentUnit) else .next s
    | _ => .next s
  else .next s

/-- SDK_OFWD (R542). -/
def execSdkOfwd (q : RegAcc) (s : State) : Out := .next (onWrite s q R.SDK_OFWD fun r w => sdkWrite s r R.SDK_OFWD w)

/-- HCP_CFG_CLOSE (R585). -/
def execHcpCfgClose (q : RegAcc) (s : State) : Out := .next (onWrite s q R.HCP_CFG fun r w => hcpWrite s r R.HCP_CFG w)

end Sys2Proof.Machine
end

