-- ==== Sys2Proof/Machine/SpargeMove.lean ====
section
/-! DEFINITION. SPARGE's bursts: what a transfer reads, writes, pops and pushes, and how it ends (R271, R272, R274, R277, R281
to R283, R400, R700). -/
namespace Sys2Proof.Machine

/-- Row length, row and offset in the row at which a transfer stands. -/
def spRow (e : SpEntry) : Nat := e.desc.rowLen.toNat % 2 ^ 24
def spSrc (e : SpEntry) : Nat :=
  uint 40 ((e.desc.src.toNat : Int) + (e.moved / spRow e : Nat) * e.desc.srcStride.toInt + (e.moved % spRow e : Nat))
def spDst (e : SpEntry) : Nat :=
  uint 40 ((e.desc.dst.toNat : Int) + (e.moved / spRow e : Nat) * e.desc.dstStride.toInt + (e.moved % spRow e : Nat))

/-- The source and the destination grant of the descriptor in progress. -/
def spSrcGrant (e : SpEntry) : Option Nat := if e.desc.srcGt then some (bits e.desc.src 5 0) else none
def spDstGrant (e : SpEntry) : Option Nat := if e.desc.dstGt then some (bits e.desc.dst 5 0) else none

/-- An earlier descriptor of the channel still pops, or pushes, the same grant (R274). -/
def spHeld (q : List SpEntry) (i : Nat) (e : SpEntry) : Bool :=
  (q.take i).any fun x => x.phase ≠ .ended &&
    ((x.desc.srcGt && spSrcGrant x == spSrcGrant e) || (x.desc.dstGt && spDstGrant x == spDstGrant e))

/-- Entry i of channel c waits on a grant (R274); a grant that fails its check is not waited for. -/
def spWaits (s : State) (c i : Nat) (e : SpEntry) : Bool :=
  spHeld (spQueue s c) i e || (spDataGrantsOk s c e.desc &&
    ((match spSrcGrant e with | some g => grantEmpty s g | none => false) ||
     (match spDstGrant e with | some g => grantFull s g | none => false)))

/-- Entry i is the one that its engine serves: it runs, and every earlier one that runs waits on a grant. -/
def spServes (s : State) (c i : Nat) : Bool :=
  let q := spQueue s c
  (match q[i]? with | some e => e.phase = .running && !(spWaits s c i e) | none => false) &&
  (q.take i).zipIdx.all fun (x, k) => x.phase ≠ .running || spWaits s c k x

/-- The transfer ends with a status. -/
def spEnd (s : State) (c i : Nat) (st : Byte) : State := spModify s c i fun e => e.finish st false

/-- A refused access ends the transfer (R276, R700). -/
def spRefused (s : State) (c i : Nat) (e : BusErr) : State := spEnd (spCause s c e) c i (spStatus e)

/-- An uncorrectable error in a bank or a grant ends an attempt that used it (R283, R350): in a tun's local memory, that tun's;
elsewhere, the poster's. -/
def spFault (s : State) (e : SpEntry) (part : Option Nat) : State :=
  match part with
  | some k =>
    if 0x20 ≤ k ∧ k < 0x80 then
      let p := (k - 0x20) / 8 + 2
      if (coreOf s p).order.isSome then tunEvent s p 2 true 0 .partReset else s
    else match e.tun with
      | some t => if (coreOf s (t.val + 2)).order.isSome ∧ (coreOf s (t.val + 2)).order = e.order then
          tunEvent s (t.val + 2) 2 true 0 .stays else s
      | none => s
  | none => s

/-- The size of the register access at a unit-window address: `none` inside a 64-bit register or at an address that is not
aligned (R700). -/
def spRegSize (a : Nat) : Option Nat :=
  match regAt a with
  | some (row, o) => if o = a then some (if row.wide then 8 else 4) else none
  | none => if a % 4 = 0 then some 4 else none

def isUnit (s : State) (a : Nat) : Bool := match regionOf s a with | .unit _ _ => true | _ => false

/-- Registers that a span of n bytes covers whole, in address order; the fuel bounds their number. -/
def spRegs : Nat → Nat → Nat → Option (List (Nat × Nat))
  | 0, _, n => if n = 0 then some [] else none
  | f + 1, a, n =>
    if n = 0 then some []
    else match spRegSize a with
      | some z => if z ≤ n then (spRegs f (a + z) (n - z)).map ((a, z) :: ·) else none
      | none => none

/-- Bytes of the next burst: 64 at most, to the row's end; a register's size where either side is a unit window; an entry
where either is a grant. -/
def spBurstLen (s : State) (e : SpEntry) : Nat :=
  let rem := spRow e - e.moved % spRow e
  let su := !e.desc.srcGt && !e.desc.fill && isUnit s (spSrc e)
  let du := !e.desc.dstGt && isUnit s (spDst e)
  if e.desc.srcGt || e.desc.dstGt then 8
  else if su || du then
    max (if su then (spRegSize (spSrc e)).getD 4 else 4) (if du then (spRegSize (spDst e)).getD 4 else 4)
  else min 64 rem

/-- The source bytes of a burst from memory or registers. -/
def spFetch (s : State) (r : Req) (a n : Nat) : State × Sum BusErr (List Byte) :=
  if isUnit s a then
    match spRegs 16 a n with
    | none => (s, .inl .regWidth)
    | some l => l.foldl (fun (st : State × Sum BusErr (List Byte)) p =>
        match st.2 with
        | .inl e => (st.1, .inl e)
        | .inr got => match busRead st.1 r p.1 p.2 with
          | (s, .inr b) => (s, .inr (got ++ b))
          | (s, .inl e) => (s, .inl e)) (s, .inr [])
  else memRead s r a n .read

/-- The bytes of a burst written to memory or registers. -/
def spStore (s : State) (r : Req) (a : Nat) (b : List Byte) : State × Option BusErr :=
  if isUnit s a then
    match spRegs 16 a b.length with
    | none => (s, some .regWidth)
    | some l => l.foldl (fun (st : State × Option BusErr) p =>
        match st.2 with
        | some e => (st.1, some e)
        | none => busWrite st.1 r p.1 (sub b (p.1 - a) p.2)) (s, none)
  else memWrite s r a b

/-- Where a rackable order's transfer may write: the tun's own local memory, or the order's staging slot (R277). -/
def spMayWrite (s : State) (e : SpEntry) (a n : Nat) : Bool :=
  let win := match e.tun with | some t => decide (0x20000000 + t.val * 0x100000 ≤ a ∧ a + n ≤ 0x20000000 + t.val * 0x100000 + 0x40000) | none => false
  let stg := match e.order.bind (jentry s) with
    | some j => let x := stagingSlot s j.queue j.gyle; decide (x.1 ≤ a ∧ a + n ≤ x.1 + x.2)
    | none => false
  !e.rackable || win || stg

/-- The bytes have been moved; the last ends the transfer OK. -/
def spMoved (s : State) (c i n : Nat) : State :=
  spModify s c i fun e =>
    let e := { e with moved := e.moved + n }
    if e.desc.total ≤ e.moved then e.finish St.OK false else e

/-- The capture instant of a stream's block: the stamp of its first entry (R400). -/
def spCapture (s : State) (e : SpEntry) (x : GEntry) : State :=
  match e.stream with
  | some (n, false, k) =>
    if e.moved = 0 ∧ !(mhas (strm s n).cap k) then
      modStrm s n fun y => { y with cap := mset y.cap k (x.side.toNat * 2 ^ 32) }
    else s
  | _ => s

/-- The destination half of a burst. -/
def spPut (s : State) (c i : Nat) (e : SpEntry) (b : List Byte) (ecc : Ecc) (inDst : Bool) : State :=
  match spDstGrant e with
  | some g => spMoved (grantPush s g (word (leNat b)) none) c i b.length
  | none =>
    let a := spDst e
    let partial' : Bool := a % 8 ≠ 0 || b.length % 8 ≠ 0
    if !(spMayWrite s e a b.length) then spEnd (spRefuseRack s e a) c i St.STAGING_ONLY
    else if inDst ∧ partial' ∧ ecc = .uncorrected ∧ (eccPart s a).isSome then
      spFault (spEnd (eccFatal s a e.req.id e.req.world) c i St.ECC_ERROR) e (eccPart s a)
    else
      let s := if inDst ∧ partial' ∧ ecc = .corrected then eccCorrected s a else s
      match spStore s e.req a b with
      | (s, some x) => spRefused s c i x
      | (s, none) => spMoved s c i b.length

/-- The source half of a burst, from memory: what SECDED finds there, and the read. -/
def spGet (s : State) (c i : Nat) (e : SpEntry) (n : Nat) (ecc : Ecc) : State × Option (List Byte) :=
  let a := spSrc e
  match regionOf s a with
  | .keeve off =>
    match accessCheck s e.req a .read with
    | some x => (spRefused (refuse s e.req a x) c i x, none)
    | none => match keeveEcc s e.req off ecc with
      | (s, some x) => (spRefused s c i x, none)
      | (s, none) => match memRead s e.req a n .read with
        | (s, .inr l) => (s, some l)
        | (s, .inl x) => (spRefused s c i x, none)
  | _ =>
    match spFetch s e.req a n with
    | (s, .inl x) => (spRefused s c i x, none)
    | (s, .inr l) =>
      if (eccPart s a).isNone then (s, some l)
      else match ecc with
        | .good => (s, some l)
        | .corrected => (eccCorrected s a, some l)
        | .uncorrected => (spFault (spEnd (eccFatal s a e.req.id e.req.world) c i St.ECC_ERROR) e (eccPart s a), none)

/-- A burst of entry i of channel c (R272); `ecc` is what SECDED finds in the source, or in the old destination granule. -/
def spBurst (s : State) (c i : Nat) (ecc : Ecc) (inDst : Bool) : State :=
  match (spQueue s c)[i]? with
  | none => s
  | some e =>
    if !(spServes s c i) then s
    else if !(spDataGrantsOk s c e.desc) then spEnd (spLogBad s c e.post) c i St.DESC_BAD
    else
      let n := spBurstLen s e
      if spRow e - e.moved % spRow e < n then spRefused s c i .regWidth
      else if e.desc.fill then
        let a := spDst e
        spPut s c i e ((List.range n).map fun k => BitVec.ofNat 8 (e.desc.src.toNat / 2 ^ (8 * ((a + k) % 8)) % 256)) ecc inDst
      else match spSrcGrant e with
      | some g =>
        let (t, x) := grantPop s g
        if !inDst ∧ ecc = .uncorrected then spFault (spEnd (grantEccBad t g) c i St.ECC_ERROR) e (some (0x80 + g))
        else spPut (spCapture t e x) c i e (leBytes 8 x.val.toNat) ecc inDst
      | none =>
        let s := remStart s e.req (spSrc e) n none
        if busWaits s e.req (spSrc e) n false then s
        else
          match spGet s c i e n (if inDst then .good else ecc) with
          | (s, none) => s
          | (s, some b) => spPut s c i e b ecc inDst

/-- A destination in a remote window is written once its requests are answered (R541): a burst that must wait for them. -/
def spRemote (s : State) (c i : Nat) : State × Bool :=
  match (spQueue s c)[i]? with
  | none => (s, false)
  | some e =>
    let n := spBurstLen s e
    let a := spDst e
    match (if e.desc.dstGt then Region.unmapped else regionOf s a) with
    | .sundik _ _ =>
      if (!e.desc.fill ∧ (e.desc.srcGt ∨ remWaits s e.req (spSrc e) n false)) ∨ !(spServes s c i) then (s, false)
      else
        let b : Option (List Byte) := if e.desc.fill then
            some ((List.range n).map fun k => BitVec.ofNat 8 (e.desc.src.toNat / 2 ^ (8 * ((a + k) % 8)) % 256))
          else match (memRead s e.req (spSrc e) n .read).2 with | .inr l => some l | .inl _ => none
        match b with
        | none => (s, false)
        | some b => let t := remStart s e.req a n (some b); (t, busWaits t e.req a n true)
    | _ => (s, false)

/-- SPARGE_BURST (R272, R274, R277, R281 to R283, R700). -/
def execSpargeBurst (c : Fin 32) (i : Fin 8) (ecc : Ecc) (inDst : Bool) (s : State) : Out :=
  let x := spRemote s c i
  .next (if x.2 then x.1 else spBurst x.1 c i ecc inDst)

/-- SPARGE_GRANT_WAIT_END (R274): entries or room have appeared, and the engine returns to the descriptor. -/
def execSpargeGrantWaitEnd (c : Fin 32) (i : Fin 8) (s : State) : Out := .next (spBurst s c i .good false)

end Sys2Proof.Machine
end

