-- ==== Sys2Proof/Machine/Pipe.lean ====
section
/-! DEFINITION. The core pipeline's shared parts: landing of results (R163 to R166, R235, R259), SETTLE (R173 to R175),
control registers (R190, R206), region guards (R301), the data cache and the accesses that a core makes, instruction
fetch (R182 to R184, R695). -/
namespace Sys2Proof.Machine

def isTun (p : Nat) : Bool := 2 ≤ p
def whoOf (p : Nat) : Requester := if p < 2 then .cc (Fin.ofNat 2 p) else .tun (Fin.ofNat 12 (p - 2))
def coreReq (s : State) (p : Nat) : Req := reqOf s (whoOf p)

/-- A core that can do something: present, out of reset, running. -/
def coreLive (s : State) (p : Nat) : Bool := procPresent s p && outOfReset s && (coreOf s p).phase = .running

/-! Landing -/

/-- An accumulation or XCLR as it bears on the accumulator itself: R219 counts the bundles issued since, so a drain does
not hasten it. -/
def InFlight.acc (f : InFlight) : Bool := match f.dest with | .xclr _ | .xadd _ _ => true | _ => false

/-- The order of landing: by cycle; within one by slot, flags after a move (R235), record bits after a move that clears
them and after XCLR (R219, R259). -/
def InFlight.key (f : InFlight) : Nat :=
  f.due * 32 + (match f.dest with
    | .flags | .xrec _ _ | .xadd _ _ => 16 + f.slot
    | .xrecClr _ | .xclr _ => 8
    | _ => f.slot)

def insertFlight (f : InFlight) : List InFlight → List InFlight
  | [] => [f]
  | g :: r => if f.key < g.key then f :: g :: r else g :: insertFlight f r

def sortFlights (l : List InFlight) : List InFlight := l.foldl (fun a f => insertFlight f a) []

/-- XASTAT with bits of accumulator n's record set, or the record cleared. -/
def xastatOr (p : Nat) (c : Core) (n : Nat) (r : BitVec 5) : Core :=
  setCreg c 48 (creg p c 48 ||| (r.setWidth 64 <<< (8 * n)))
def xastatClr (p : Nat) (c : Core) (n : Nat) : Core := setCreg c 48 (creg p c 48 &&& ~~~ mask (8 * n + 7) (8 * n))

/-- An MTC to a control register that needs no SETTLE lands (R190 and its field tables); FSTAT's and PPACK's have
destinations of their own. -/
def mtcLand (p : Nat) (c : Core) (n : Nat) (v : Word) : Core :=
  match n with
  | 1 => setCreg c 1 (setBits (creg p c 1) 5 4 (bits v 5 4))
  | 2 => setCreg c 2 (v &&& mask 39 2)
  | 3 => setCreg c 3 v
  | 6 => setCreg c 6 (v &&& mask 39 0)
  | 48 => setCreg c 48 (creg p c 48 &&& ~~~ v)
  | _ => c

/-- One result lands. -/
def landOne (p : Nat) (c : Core) (f : InFlight) : Core :=
  match f.dest with
  | .g r => setGreg p c r.toNat f.val
  | .p r => setPred p c r.toNat (f.val ≠ 0)
  | .flags => setCreg c 5 (creg p c 5 ||| f.val)
  | .fstat => setCreg c 5 (f.val &&& mask 5 0)
  | .creg n => mtcLand p c n f.val
  | .xrecClr n => xastatClr p c n.toNat
  | .xrec n r => xastatOr p c n.toNat r
  | .xclr n => { c with xa := mset c.xa n.toNat 0 }
  | .xadd n x =>
    let a := xacc (mget c.xa n.toNat 0) x
    xastatOr p { c with xa := mset c.xa n.toNat a.1 } n.toNat a.2

/-- The results that a condition selects land, in order. -/
def landWhere (p : Nat) (c : Core) (sel : InFlight → Bool) : Core :=
  (sortFlights (c.inflight.filter sel)).foldl (landOne p) { c with inflight := c.inflight.filter fun f => !(sel f) }

/-- Every result whose cycle has ended lands (R164). -/
def land (p : Nat) (c : Core) : Core := landWhere p c fun f => f.due < c.cycle

/-- Every result in flight lands (R169, R174). -/
def drain (p : Nat) (c : Core) : Core := landWhere p c fun f => !f.acc || f.due < c.cycle

/-! SETTLE -/

/-- A pending write takes effect: RM, CMODE keep their value at an illegal one; ICINV invalidates the instruction cache; an
EDTB write or ICINV empties the EDT buffer (R173, R245, R289). -/
def settleOne (p : Nat) (c : Core) (n : Nat) (v : Word) : Core :=
  if n = 4 then setCreg c 4 (if 5 ≤ bits v 2 0 then setBits (v &&& mask 4 0) 2 0 (bits (creg p c 4) 2 0) else v &&& mask 4 0)
  else if n = 8 then (if bits v 1 0 = 3 then c else setCreg c 8 (v &&& mask 1 0))
  else if 12 ≤ n ∧ n ≤ 23 then setCreg c n (v &&& (if n % 3 = 2 then mask 31 0 else mask 39 2))
  else if 24 ≤ n ∧ n ≤ 27 then { setCreg c n (v &&& mask 39 11) with edt := [] }
  else if n = 28 then
    let c := setCreg c 28 (v &&& mask 0 0)
    if bit v 1 then { c with icache := [], fetchErr := [], edt := [] } else c
  else if n = 29 then (if p < 2 then setCreg c 29 (v &&& mask 0 0) else c)
  else c

def applySettle (p : Nat) (c : Core) : Core :=
  c.settle.foldl (fun c e => settleOne p c e.1 e.2) { c with settle := [] }

/-- What SETTLE does, and entry and return (R174, R175). -/
def drainSettle (p : Nat) (c : Core) : Core := applySettle p (drain p c)

/-! Control registers -/

/-- Numbers that R190 assigns. -/
def cregAssigned (p n : Nat) : Bool :=
  n ≤ 6 || n = 8 || n = 9 || (12 ≤ n && n ≤ 29) || (32 ≤ n && n ≤ 34) || n = 36 || n = 37 || n = 48 ||
  (isTun p && (n = 40 || n = 41))

def cregSettles (n : Nat) : Bool := n = 4 || n = 8 || (12 ≤ n && n ≤ 29)

/-- The level below which a move from the register raises PRIV_CREG (R206): its write level; STATUS has one per field, and
is read at every level (log entry 14). -/
def cregReadLevel (p n : Nat) : Nat :=
  if n = 2 ∨ n = 3 ∨ n = 6 then 2 else if 24 ≤ n ∧ n ≤ 27 then 3 else if n = 29 ∧ p < 2 then 3 else 0

def cregWriteLevel (p n : Nat) : Nat := if n = 1 then 1 else cregReadLevel p n

/-- The value that MFC reads, but for the registers that a state beyond the core decides (R190, R206). -/
def cregRead (s : State) (p : Nat) (c : Core) (n : Nat) : Word :=
  match n with
  | 0 => setBits (cregReset p 0) 10 8 (if numbered s then myDev s else 0)
  | 9 => (preds p c).setWidth 64
  | 37 => c.dtbFrac.setWidth 64
  | 48 => if hasExa s then creg p c 48 else 0
  | _ => creg p c n

/-! Region guards (R301) -/

def guardBase (p v g : Nat) : Nat := R.SYSCON_GBASE_0_0 g + 0x800 * p + 0x200 * v
def guardLimit (p v g : Nat) : Nat := R.SYSCON_GLIMIT_0_0 g + 0x800 * p + 0x200 * v

/-- Whether a control core's guards of level v refuse an access. -/
def guardRefuses (s : State) (p v a : Nat) (k : AccKind) : Bool :=
  if isTun p then false
  else
    match (List.range 16).filter fun g => rbit s (guardBase p v g) 0 with
    | [] => false
    | on => match on.find? fun g => rbits s (guardBase p v g) 39 12 ≤ a / 4096 ∧ a / 4096 ≤ rbits s (guardLimit p v g) 39 12 with
      | none => true
      | some g => !(rbit s (guardBase p v g) (match k with | .read => 1 | .write => 2 | .fetch => 3))

/-! Data accesses of a core -/

/-- What refuses a core's access: a guard, or a bus error. -/
inductive CoreErr where
  | guard
  | bus (e : BusErr)
  deriving DecidableEq, Repr

/-- Memory that a control core's data cache holds (log entry 15). -/
def cacheable (s : State) (a : Nat) : Bool :=
  match regionOf s a with
  | .bootRom | .retention | .cellar | .xspi | .lpddr => true
  | _ => false

/-- The key of a data-cache line: its number, and the world that filled it (R52). -/
def dkey (w : World) (a : Nat) : Nat := a / 64 * 2 + b2n (w = .secure)
def dline (c : Core) (w : World) (a : Nat) : Option DLine := (c.dcache.find? fun e => e.1 = dkey w a).map Prod.snd

/-- A control core's read within one line; a line that its data cache holds is read there. -/
def ccReadPiece (s : State) (p : Nat) (r : Req) (a n : Nat) : State × Sum CoreErr (List Byte) :=
  if guardRefuses s p (levelNum r.level) a .read then (s, .inl .guard)
  else if cacheable s a then
    match accessCheck s r a .read with
    | some e => (refuse s r a e, .inl (.bus e))
    | none => match dline (coreOf s p) r.world a with
      | some l => (s, .inr (sub l.bytes (a % 64) n))
      | none => match memRead s r a n .read with
        | (s, .inr l) => (s, .inr l)
        | (s, .inl e) => (s, .inl (.bus e))
  else match busRead s r a n with
    | (s, .inr l) => (s, .inr l)
    | (s, .inl e) => (s, .inl (.bus e))

/-- A control core's write within one line; one to a line that its data cache holds stays there until it is cleaned. -/
def ccWritePiece (s : State) (p : Nat) (r : Req) (a : Nat) (l : List Byte) : State × Option CoreErr :=
  if guardRefuses s p (levelNum r.level) a .write then (s, some .guard)
  else
    match (if cacheable s a then dline (coreOf s p) r.world a else none) with
    | some d => match accessCheck s r a .write with
      | some e => (refuse s r a e, some (.bus e))
      | none =>
        let b := d.bytes.take (a % 64) ++ l ++ d.bytes.drop (a % 64 + l.length)
        (modCore s p fun c => { c with dcache := mset c.dcache (dkey r.world a) { d with dirty := true, bytes := b } }, none)
    | none => match busWrite s r a l with
      | (s, some e) => (s, some (.bus e))
      | (s, none) => (s, none)

/-- Where a tun's own window begins (R18); an address below the size of local memory is an offset in it (log entry 16). -/
def tunBase (p : Nat) : Nat := 0x20000000 + (p - 2) * 0x100000
def tunAddr (p a : Nat) : Nat := if a < 0x40000 then tunBase p + a else a
def ownWindow (p a n : Nat) : Bool := tunBase p ≤ a && a + n ≤ tunBase p + 0x40000

/-- A read that entry and return make: of a tun, in its own local memory, or for the EDT in Cellar too (R30, R288). -/
def coreRead (s : State) (p : Nat) (r : Req) (a n : Nat) (edt : Bool) : State × Option (List Byte) :=
  if isTun p then
    if ownWindow p a n ∨ (edt ∧ regionOf s a = .cellar) then
      match memRead s r a n .read with | (s, .inr l) => (s, some l) | (s, .inl _) => (s, none)
    else (s, none)
  else (linePieces a n).foldl (fun (st : State × Option (List Byte)) q =>
    match st.2 with
    | none => st
    | some got => match ccReadPiece st.1 p r q.1 q.2 with
      | (s, .inr l) => (s, some (got ++ l))
      | (s, .inl _) => (s, none)) (s, some [])

/-- A frame write; `false` where it is refused. -/
def coreWrite (s : State) (p : Nat) (r : Req) (a : Nat) (l : List Byte) : State × Bool :=
  if isTun p then
    if ownWindow p a l.length then match memWrite s r a l with | (s, none) => (s, true) | (s, some _) => (s, false)
    else (s, false)
  else (linePieces a l.length).foldl (fun (st : State × Bool) q =>
    if !st.2 then st
    else match ccWritePiece st.1 p r q.1 (sub l (q.1 - a) q.2) with
      | (s, none) => (s, true)
      | (s, some _) => (s, false)) (s, true)

/-! Fetch -/

/-- The key of a line in the instruction cache. -/
def ikey (r : Req) (a : Nat) : Nat := a / 64 * 64 + b2n (r.world = .secure)

/-- PART's answer to a fetch; a tun fetches from Cellar and sealed memory only (R184, R695; log entry 17). -/
def fetchCheck (s : State) (r : Req) (a : Nat) : Option BusErr :=
  match regionOf s a, r.who with
  | .bootRom, .tun _ => some (if r.world = .normal then .worldDenied else .regionDenied)
  | .retention, .tun _ => (accessCheck s r a .fetch).orElse fun _ => some .regionDenied
  | _, _ => accessCheck s r a .fetch

/-- A line is filled, or the fetch is refused (R184). -/
def fetchLine (s : State) (p a : Nat) (ecc : Ecc) : State × Option BusErr :=
  let r := coreReq s p
  let line := a / 64 * 64
  match fetchCheck s r line with
  | some e => (refuse s r line e, some e)
  | none =>
    if ecc = .uncorrected ∧ (eccPart s line).isSome then (eccFatal s line r.id r.world, some .eccUncorrected)
    else
      let s := if ecc = .corrected then eccCorrected s line else s
      match memRead s r line 64 .fetch with
      | (s, .inl e) => (s, some e)
      | (s, .inr _) =>
        (modCore s p fun c => { c with
          icache := if ikey r line ∈ c.icache then c.icache else ikey r line :: c.icache,
          fetchErr := mdel c.fetchErr (ikey r line) }, none)

/-- The number of bytes of the bundle at an address, by its E bits in memory (R154): the one thing that the model reads from
code, where an address depends on a bundle that does not issue (R179, R227; log entry 18). -/
def bundleLen (s : State) (p a : Nat) : Nat :=
  match memRead s (coreReq s p) (a / 64 * 64) 64 .fetch with
  | (_, .inr l) =>
    let n := (64 - a % 64) / 4
    4 * (((List.range n).find? fun i => (l.getD (a % 64 + 4 * i + 3) 0).getLsbD 7).map (· + 1)).getD n
  | _ => 4

end Sys2Proof.Machine
end

