-- ==== Sys2Proof/Machine/Entry.lean ====
section
/-! DEFINITION. Taking an exception or interrupt, and returning (spec/10_privilege_and_exceptions.md): what an exception of a
bundle does, the Event Descriptor Table, normal-class and fast-class entry, escalation, the wedge, ERET. -/
namespace Sys2Proof.Machine

/-! Levels and worlds -/

/-- The world of level v on a core (R35, R284, R285): a tun never changes world inside an order (log entry 19). -/
def levelWorld (p : Nat) (c : Core) (v : Nat) : World :=
  if isTun p then coreWorld p c
  else match v with
    | 0 => worldOf (bit (creg p c 29) 0)
    | 1 => .normal
    | _ => .secure

/-- The core's attributes at level v. -/
def reqAt (s : State) (p v : Nat) : Req :=
  { coreReq s p with level := levelOf v, world := levelWorld p (coreOf s p) v }

/-- STATUS with a level, its world, and the interrupt enables, FAST and ESC as given; a change of world zeroes the fast bank
(R52, R309). -/
def setStatus (p : Nat) (c : Core) (v : Nat) (w : World) (ien ief fast esc : Bool) : Core :=
  let st := setBits (creg p c 1) 1 0 v
  let st := setBit (setBit (setBit (setBit (setBit st 2 (w = .secure)) 4 ien) 5 ief) 6 fast) 7 esc
  let c' := if coreWorld p c = w then c else { c with fastG := [], fastP := 0 }
  setCreg c' 1 st

/-- H of R287: the higher of the current level and the event's floor (R286). -/
def eventLevel (p : Nat) (c : Core) (code : Nat) : Nat :=
  let v := levelNum (coreLevel p c)
  let f := if v = 0 then (if coreWorld p c = .normal then 1 else 2) else v
  max v (match code with
    | 0x0C => v
    | 0x0D | 0x21 | 0x23 => 2
    | 0x0E => 3
    | 0x20 | 0x22 => 1
    | _ => f)

/-! ECAUSE (R296) -/

def ecauseOf (e : Exc) (slot : Nat) : Word :=
  word (e.code.toNat + e.sub.toNat <<< 8 + min slot 7 <<< 16 + e.trapno.toNat <<< 24)

/-- A core abandons the bundle that it gathers or that is stalled: nothing of it has taken effect (R169, R172). -/
def dropBundle (s : State) (p : Nat) : State := modCore s p fun c => { c with bundle := [], stall := none }

/-- The log entry of the first NONLOCAL_ACCESS in an order (R265). -/
def logNonlocal (s : State) (p a : Nat) : State :=
  let c := coreOf s p
  match c.order.bind (jentry s) with
  | some j =>
    if c.nonlocalSeen then s
    else
      let w := oqWorld s j.queue
      setCore (logTo s (worldRing w) Code.NONLOCAL_ACCESS (BitVec.ofNat 8 p) (w = .secure) (word (a % 2 ^ 40)) (word j.gyle)) p
        { c with nonlocalSeen := true }
  | none => s

/-- A synchronous exception of a bundle, reported for a slot (R169): it ends a tun's order where R150, R151 or R350 says so,
wedges a core in its escalation handler (R305), and otherwise waits for its entry. `bank` tells, for an uncorrectable error,
that it lies in the tun's own local memory. -/
def raise (s : State) (p : Nat) (e : Exc) (slot : Nat) (bank : Bool) : State :=
  let s := dropBundle s p
  let s := if e.code = 0x06 then logNonlocal s p e.eaddr else s
  let c := coreOf s p
  let ec := ecauseOf e slot
  let isSeal : Bool := (e.code = 8 ∨ e.code = 9) ∧ e.sub = 6
  let ecc : Bool := e.code = 0x0A ∨ ((e.code = 8 ∨ e.code = 9) ∧ e.sub = 13)
  if isTun p ∧ c.order.isSome ∧ isSeal then tunEvent s p 8 false 0 .stays
  else if isTun p ∧ c.order.isSome ∧ ecc then tunEvent s p 2 true 0 (if bank then .partReset else .stays)
  else if isTun p ∧ c.order.isSome ∧ bit (creg p c 1) 3 then
    tunEvent (logTo s 1 Code.FIRKIN_EXCEPTION (BitVec.ofNat 8 p) (coreWorld p c = .secure) (word (c.pc % 2 ^ 40))
      (e.code.setWidth 64)) p 7 false e.code .scrubs
  else if bit (creg p c 1) 7 then wedge s p ec
  else setCore s p { c with event := some ⟨e.code, ec, e.eaddr % 2 ^ 40⟩ }

/-! The frame (R291) -/

/-- DSTATE: the pending branch target and the delay bundles still to issue. -/
def dstate (c : Core) : Word :=
  match c.delay with
  | some d => setBits (setBits 0 39 2 (d.target / 4)) 1 0 d.left
  | none => 0

def frameOf (p : Nat) (c : Core) : List Byte :=
  let ws : List Word := [word c.pc, creg p c 1, (preds p c).setWidth 64, creg p c 5, creg p c 12, creg p c 13, creg p c 14,
    dstate c] ++ (List.range 8).map fun i => greg p c (i + 1)
  ws.flatMap fun w => leBytes 8 w.toNat

/-- The address after k bundles in sequence from an address. -/
def seqAfter (s : State) (p : Nat) : Nat → Nat → Nat
  | 0, a => a
  | k + 1, a => seqAfter s p k ((a + bundleLen s p a) % 2 ^ 40)

/-- The link of a CALL or JALR whose delay window an entry interrupts is written before the entry (R227). -/
def writeLink (s : State) (p : Nat) (c : Core) : Core :=
  match c.delay with
  | some d => match d.link with
    | some r => { setGreg p c r.toNat (word (seqAfter s p d.left c.pc)) with delay := some { d with link := none } }
    | none => c
  | none => c

/-- What a core does before an entry: results in flight land, pending writes apply, a link is written (R169, R175, R227). -/
def beforeEntry (s : State) (p : Nat) : State := setCore s p (writeLink s p (drainSettle p (coreOf s p)))

/-- What every entry leaves: issue goes on at the handler, and an ODONE whose window it interrupts stays pending with its
status (R170, R230). -/
def enterAt (c : Core) (pc : Nat) : Core :=
  let held := match c.delay with | some d => d.odone | none => c.odoneHeld
  { c with pc := pc, delay := none, event := none, bundle := [], stall := none, odoneHeld := held }

/-! Escalation (R303 to R308) -/

/-- Escalation with a reason: M at PART_ESC_PC on the escalation stack; where STATUS.ESC is set, PART_ESC_PC is zero or the
frame cannot be written, the core wedges. -/
def escalate (s : State) (p : Nat) (ev : EventRec) (esub : Nat) : State :=
  let c := coreOf s p
  let ec := setBits (setBits (setBit ev.ecause 31 true) 39 32 ev.code.toNat) 47 40 esub
  let pc := rbits s R.PART_ESC_PC 39 2 * 4
  let sp := if isTun p then tunBase p + rbits s R.PART_ESC_SPT 17 4 * 16 else escSp s p
  let w := levelWorld p c 3
  if bit (creg p c 1) 7 ∨ pc = 0 then wedge s p ec
  else match coreWrite s p { reqAt s p 3 with world := w } (sp - 0x80) (frameOf p c) with
    | (s, false) => wedge s p ec
    | (s, true) =>
      let c := coreOf s p
      let at' := word c.pc
      let c := setStatus p c 3 w false false false true
      let c := { c with g := mset (mset (mset c.g 67 (word (sp - 0x80))) 1 ec) 2 (word ev.eaddr) }
      setCore s p (enterAt (setCreg (setCreg (setCreg c 2 at') 3 ec) 6 (word ev.eaddr)) pc)

/-! The Event Descriptor Table (R287 to R289) -/

/-- The 32 bytes of entry `code` of the table of level v, from the EDT buffer or from memory. -/
def edtBytes (s : State) (p v code : Nat) : State × Option (List Byte) :=
  let c := coreOf s p
  let a := (creg p c (24 + v)).toNat + 32 * code
  match c.edt.find? fun e => e.1 = a with
  | some e => (setCore s p { c with edt := e :: c.edt.filter fun x => x.1 ≠ a }, some e.2)
  | none => match coreRead s p (reqAt s p v) a 32 true with
    | (s, some l) => (modCore s p fun c => { c with edt := ((a, l) :: c.edt).take 16 }, some l)
    | (s, none) => (s, none)

/-- An entry of the EDT (the table under "The Event Descriptor Table"). -/
structure EdtEntry where
  handler : Nat
  sp : Nat
  maskNormal : Bool
  maskFast : Bool
  fastBank : Bool
  deriving DecidableEq, Repr

/-- An entry read and checked: the entry, or ESUB (R303). -/
def readEdt (s : State) (p v code : Nat) : State × Sum Nat EdtEntry :=
  match edtBytes s p v code with
  | (s, none) => (s, .inl 1)
  | (s, some l) =>
    let h := fieldAt l 0 8
    let sp := fieldAt l 8 8
    let t := fieldAt l 0x10 1
    let f := fieldAt l 0x11 1
    if f % 2 = 0 ∨ 16 ≤ f ∨ 4 ≤ t ∨ h % 4 ≠ 0 ∨ 2 ^ 40 ≤ h ∨ 2 ^ 40 ≤ sp ∨ fieldAt l 0x12 14 ≠ 0 then (s, .inl 2)
    else if t ≠ v ∨ (t = 3 ∧ isTun p) then (s, .inl 3)
    else if sp % 16 ≠ 0 then (s, .inl 4)
    else (s, .inr ⟨h, sp, f / 2 % 2 = 1, f / 4 % 2 = 1, f / 8 % 2 = 1⟩)

/-! Entry -/

/-- STATUS as step 6 of R290 sets it. -/
def entryStatus (p : Nat) (c : Core) (v : Nat) (e : EdtEntry) (fast : Bool) : Core :=
  let st := creg p c 1
  setStatus p c v (levelWorld p c v) (bit st 4 && !e.maskNormal) (bit st 5 && !e.maskFast) fast (bit st 7)

/-- Normal-class entry at level v (R290, R294). -/
def enterNormal (s : State) (p v : Nat) (ev : EventRec) (e : EdtEntry) : State :=
  let c := coreOf s p
  let sp0 := if e.sp ≠ 0 then e.sp else (mget c.g (64 + v) 0).toNat
  let sp := uint 64 ((sp0 : Int) - 0x80)
  let at' := if isTun p then tunAddr p sp else sp
  match coreWrite s p (reqAt s p v) at' (frameOf p c) with
  | (s, false) => escalate s p ev 5
  | (s, true) =>
    let c := coreOf s p
    let pc := word c.pc
    let c := entryStatus p c v e false
    let c := { c with g := mset (mset (mset c.g (64 + v) (word sp)) 1 ev.ecause) 2 (word ev.eaddr) }
    setCore s p (enterAt (setCreg (setCreg (setCreg c 2 pc) 3 ev.ecause) 6 (word ev.eaddr)) e.handler)

/-- Fast-class entry at level v (R293); EADDR reaches the handler in G2 (R317; log entry 23). -/
def enterFast (s : State) (p v : Nat) (ev : EventRec) (e : EdtEntry) : State :=
  let c := coreOf s p
  let st := creg p c 1
  let pc := word c.pc
  let d := dstate c
  let c := entryStatus p c v e true
  let bank := mset (mset (mset c.fastG 48 pc) 49 st) 50 d
  let c := { c with fastG := if e.sp ≠ 0 then mset bank 63 (word e.sp) else bank, g := mset c.g 2 (word ev.eaddr) }
  setCore s p (enterAt c e.handler)

/-- The entry of the event that a core has accepted: its class is what FASTBANK says; a fault during entry escalates. -/
def takeEntry (s : State) (p : Nat) (fast : Bool) : State :=
  match (coreOf s p).event with
  | none => s
  | some ev =>
    if !(coreLive s p) then s
    else
      let t := beforeEntry s p
      let v := eventLevel p (coreOf t p) ev.code.toNat
      match readEdt t p v ev.code.toNat with
      | (t, .inl esub) => escalate t p ev esub
      | (t, .inr e) =>
        if e.fastBank ≠ fast then s
        else if !fast then enterNormal t p v ev e
        else if coreFast p (coreOf t p) then escalate t p ev 6
        else enterFast t p v ev e

/-! Return (R299, R300) -/

/-- What ERET restores: PC, STATUS, DSTATE, and from a frame the rest of it. -/
structure RetImage where
  pc : Word
  status : Word
  dst : Word
  rest : Option (List Word)
  deriving DecidableEq, Repr

/-- The image of a return from the fast bank or from the frame at G63; the address of a frame that cannot be read (R303). -/
def eretImage (s : State) (p : Nat) : State × Sum Nat RetImage :=
  let c := coreOf s p
  if coreFast p c then (s, .inr ⟨mget c.fastG 48 0, mget c.fastG 49 0, mget c.fastG 50 0, none⟩)
  else
    let a := (greg p c 63).toNat
    let a := if isTun p then tunAddr p a else a
    match coreRead s p (coreReq s p) a 0x80 false with
    | (s, none) => (s, .inl a)
    | (s, some l) =>
      let w (i : Nat) : Word := word (fieldAt l (8 * i) 8)
      (s, .inr ⟨w 0, w 1, w 7, some ((List.range 16).map w)⟩)

/-- Whether the restored STATUS is refused (R300). -/
def eretDenied (p : Nat) (c : Core) (st : Word) : Bool :=
  levelNum (coreLevel p c) < bits st 1 0 || (if isTun p then bit st 3 != bit (creg p c 1) 3 else bit st 3)

/-- The values of a frame but PC and STATUS go back: PPACK, FSTAT, the L0 triple, G1 to G8. -/
def restoreFrame (p : Nat) (c : Core) (f : List Word) : Core :=
  let w (i : Nat) : Word := f.getD i 0
  let c := (List.range 7).foldl (fun c i => setPred p c (i + 1) (bit (w 2) (i + 1))) c
  let c := setCreg (setCreg (setCreg (setCreg c 5 (w 3 &&& mask 5 0)) 12 (w 4 &&& mask 39 2)) 13 (w 5 &&& mask 39 2)) 14
    (w 6 &&& mask 31 0)
  { c with g := (List.range 8).foldl (fun g i => mset g (i + 1) (w (8 + i))) c.g }

/-- ERET's effect: results in flight land and pending writes apply (R175), then the state that the image holds is back. -/
def eretDo (s : State) (p : Nat) (im : RetImage) : State :=
  let c := coreOf s p
  let v := levelNum (coreLevel p c)
  let sp := greg p c 63
  let c := drainSettle p c
  let c := match im.rest with | some _ => { c with g := mset c.g (64 + v) (sp + 0x80) } | none => c
  let st := im.status
  let fast := match im.rest with | some _ => bit st 6 | none => false
  let lv := bits st 1 0
  let c := setStatus p c lv (levelWorld p c lv) (bit st 4) (bit st 5) fast (bit st 7)
  let c := match im.rest with | some f => restoreFrame p c f | none => c
  let left := bits im.dst 1 0
  let tgt := bits im.dst 39 2 * 4
  let odone := if tgt = 0 then c.odoneHeld else none
  let delay := if left = 0 then none else some ⟨tgt, left, none, odone⟩
  setCore s p { c with pc := bits im.pc 39 2 * 4, delay := delay, odoneHeld := none }

/-! Commands -/

/-- NORMAL_CLASS_ENTRY (R290). -/
def execNormalClassEntry (p : Fin 14) (s : State) : Out := .next (takeEntry s p false)

/-- FAST_CLASS_ENTRY (R293). -/
def execFastClassEntry (p : Fin 14) (s : State) : Out := .next (takeEntry s p true)

end Sys2Proof.Machine
end

