-- ==== Sys2Proof/Machine/Issue.lean ====
section
/-! DEFINITION. Bundles: gathering of syllables, slots (R155 to R158), faults (R161, R169, R232, R236, R699), stalls (R171,
R172, R185), issue (R164, R167, R168, R178 to R180, R227), interrupt acceptance (R295, R316), and the fills of the caches. -/
namespace Sys2Proof.Machine

/-! Slots (R156 to R158) -/

def Staged.size (x : Staged) : Nat := x.ks + 1
def bundleSize (l : List Staged) : Nat := l.foldl (fun n x => n + x.size) 0
def bundleLimit (p : Nat) : Nat := if isTun p then 8 else 2

/-- The position of the syllable that breaks R157, where `at'` is the position of the first K of x. -/
def kBreak (x : Staged) (at' : Nat) : Option Nat :=
  if 2 < x.ks ∨ (x.strayK ∧ 2 ≤ x.ks) then some (at' + 2)
  else if x.strayK ∨ x.kmax < x.ks then some (at' + x.ks)
  else none

/-- Slots of a bundle, in bundle order: `p` the lowest slot that is free, `at'` the position of the next syllable. The
answer is the position of the first break of R156 or R157, or each syllable with its slot. -/
def assignSlots : List Staged → Nat → Nat → Sum Nat (List (Nat × Staged))
  | [], _, _ => .inr []
  | x :: r, p, at' =>
    let noSlot := if 8 ≤ p + x.ks then some (at' + (8 - p)) else
      if x.strayK then none
      else if x.slots.any (fun q => decide (p + x.ks ≤ q)) then none else some (at' + x.ks)
    match kBreak x at', noSlot with
    | some a, some b => .inl (min a b)
    | some a, none => .inl a
    | none, some b => .inl b
    | none, none =>
      let q := (x.slots.find? fun q => p + x.ks ≤ q).getD (p + x.ks)
      match assignSlots r (q + 1) (at' + x.size) with
      | .inl a => .inl a
      | .inr l => .inr ((q, x) :: l)

/-- The slots of a core's bundle, or the position that ILLEGAL_BUNDLE reports: the first break of R156 or R157, of the limit
of R185, or of the 64-byte boundary of R158 (R296). -/
def bundleSlots (p : Nat) (c : Core) : Sum Nat (List (Nat × Staged)) :=
  let room := (64 - c.pc % 64) / 4
  let lim := min room (bundleLimit p)
  let long := lim < bundleSize c.bundle
  match assignSlots c.bundle 0 0 with
  | .inl a => .inl (if long then min a lim else a)
  | .inr l => if long then .inl lim else .inr l

/-! Faults -/

/-- A fault that is found at issue: the state with what it logs, and the exception, `none` where what it does is done; whether
an uncorrectable error lies in the tun's local memory. -/
structure Found where
  st : State
  exc : Option Exc
  bank : Bool := false

abbrev Ev.ILLEGAL_BUNDLE : Byte := 0x01
abbrev Ev.ILLEGAL_OP : Byte := 0x02

/-- ILLEGAL_OP with a sub-cause of R297. -/
def illegalOp (sub : Byte) : Exc := { code := 0x02, sub := sub }

/-- The exception of a refused access (R298, R301). -/
def coreExc (a : Nat) : CoreErr → Exc
  | .guard => { code := 0x0B, eaddr := a }
  | .bus e => { code := 0x08, sub := BitVec.ofNat 8 (busErrNum e), eaddr := a }

/-- A normal-world tun names a secure grant or channel (R223). -/
def sideDenied (s : State) (p n : Nat) : Found :=
  ⟨logReq s 0 Code.WORLD_DENIED (coreReq s p) (word n) 4, some { code := 0x08, sub := 4, eaddr := n }, false⟩

/-- The check of a grant operation (R223). -/
def grantCheck (s : State) (p n : Nat) (reader : Bool) : Option Found :=
  if coreWorld p (coreOf s p) = .normal ∧ grantSecure s n then some (sideDenied s p n)
  else if !(grantOn s n) ∨ (if reader then grantReader s n else grantWriter s n) ≠ p then some ⟨s, some { code := 0x07 }, false⟩
  else none

/-- The check of a sparge operation (R223): an absent channel before the world. -/
def channelCheck (s : State) (p c : Nat) : Option Found :=
  if spargeChannels s ≤ c then some ⟨s, some (illegalOp 9), false⟩
  else if coreWorld p (coreOf s p) = .normal ∧ spSecure s c then some (sideDenied s p c)
  else none

/-- A load by a core, without its effect on the pipeline: what it finds (R221, R281 to R283, R301, R127). -/
def coreLoad (s : State) (p a n : Nat) (ecc : Ecc) : State × Sum Exc (List Byte) :=
  let r := coreReq s p
  let bank := isTun p || !(cacheable s a)
  if !(isTun p) ∧ guardRefuses s p (levelNum r.level) a .read then (s, .inl (coreExc a .guard))
  else
    match regionOf s a with
    | .keeve off =>
      match accessCheck s r a .read with
      | some e => (refuse s r a e, .inl (coreExc a (.bus e)))
      | none => match keeveEcc s r off ecc with
        | (s, some e) => (s, .inl (coreExc a (.bus e)))
        | (s, none) => (s, .inr (plainBytes s a n))
    | _ =>
      let got : State × Sum Exc (List Byte) := if isTun p then
          (match memRead s r a n .read with
           | (s, .inr l) => (s, .inr l)
           | (s, .inl e) => (s, .inl (coreExc a (.bus e))))
        else (match ccReadPiece s p r a n with
          | (s, .inr l) => (s, .inr l)
          | (s, .inl e) => (s, .inl (coreExc a e)))
      match got with
      | (s, .inl e) => (s, .inl e)
      | (s, .inr l) =>
        if (eccPart s a).isNone ∨ !bank then (s, .inr l)
        else match ecc with
          | .good => (s, .inr l)
          | .corrected => (eccCorrected s a, .inr l)
          | .uncorrected => (eccFatal s a r.id r.world,
              .inl (if isTun p then { code := 0x0A, eaddr := a } else coreExc a (.bus .eccUncorrected)))

/-- A store by a core. -/
def coreStore (s : State) (p a n : Nat) (v : Word) : State × Option Exc :=
  let l := leBytes n v.toNat
  if isTun p then
    match memWrite s (coreReq s p) a l with
    | (s, some e) => (s, some (coreExc a (.bus e)))
    | (s, none) => (s, none)
  else match ccWritePiece s p (coreReq s p) a l with
    | (s, some e) => (s, some (coreExc a e))
    | (s, none) => (s, none)

/-- A load or store that still waits: for its line in the data cache, or for the answer of a remote window. -/
def accessStalls (s : State) (p a n : Nat) (write : Bool) (l : List Byte) : State × Option StallWhy :=
  let r := coreReq s p
  if isTun p ∨ guardRefuses s p (levelNum r.level) a (if write then .write else .read) then (s, none)
  else if cacheable s a then
    if write ∨ (dline (coreOf s p) r.world a).isSome ∨ (accessCheck s r a .read).isSome then (s, none)
    else (s, some (.dcache (a / 64)))
  else
    let s := remStart s r a n (if write then some l else none)
    if busWaits s r a n write then (s, some .remote) else (s, none)

/-- Whether a load or store faults before it completes: nothing is said of one that still waits. -/
def accessFault (s : State) (p a n : Nat) (write : Bool) (v : Word) (ecc : Ecc) : Option Found :=
  if (accessStalls s p a n write (leBytes n v.toNat)).2.isSome then none
  else if write then
    match coreStore s p a n v with
    | (t, some e) => some ⟨t, some e, false⟩
    | _ => none
  else match coreLoad s p a n ecc with
    | (t, .inl e) => some ⟨t, some e, isTun p⟩
    | _ => none

/-- The uncorrectable entry that a pop meets: it is taken, and the tun's order answered (R396); without an order the tun takes
ECC_UNCORRECTED with a free EADDR (log entry 3). -/
def popFault (s : State) (p n : Nat) (ecc : Ecc) : Option Found :=
  if ecc = .uncorrected ∧ !(grantEmpty s n) then
    let t := grantEccBad (grantPop s n).1 n
    if (coreOf t p).order.isSome then some ⟨tunEvent (dropBundle t p) p 2 true 0 .stays, none, false⟩
    else
      let (v, t) := freeWord t
      some ⟨t, some { code := 0x0A, eaddr := v.toNat }, false⟩
  else none

/-- What ERET finds in its image (R300, R303, R305). -/
def eretFault (s : State) (p : Nat) : Option Found :=
  match eretImage s p with
  | (t, .inl a) =>
    let t := dropBundle t p
    let ev : EventRec := ⟨0, word (7 <<< 16), a % 2 ^ 40⟩
    some ⟨escalate (beforeEntry t p) p ev 7, none, false⟩
  | (_, .inr im) => if eretDenied p (coreOf s p) im.status then some ⟨s, some { code := 0x04 }, false⟩ else none

/-- The condition, if any, that an effect of a bundle meets at its issue; `next` is the address after the bundle. -/
def effFault (s : State) (p next : Nat) (x : Eff) : Option Found :=
  match x with
  | .load _ a n _ ecc => accessFault s p a n false 0 ecc
  | .store a n v => accessFault s p a n true v .good
  | .gpop _ _ n ecc => (grantCheck s p n.toNat true).orElse fun _ => popFault s p n.toNat ecc
  | .gpush n _ _ => grantCheck s p n.toNat false
  | .glevel _ n => grantCheck s p n.toNat true
  | .gspace _ n => grantCheck s p n.toNat false
  | .spgo a c => (channelCheck s p c.toNat).orElse fun _ =>
    if a % 64 ≠ 0 then some ⟨s, some { code := 0x05, eaddr := a }, false⟩
    else if ownWindow p (tunAddr p a) 64 then none else some ⟨s, some { code := 0x06, eaddr := a }, false⟩
  | .spwait c => channelCheck s p c.toNat
  | .loop _ lend _ => if lend < next then some ⟨s, some (illegalOp 6), false⟩ else none
  | .eret => eretFault s p
  | _ => none

/-- The fault of the lowest slot (R169); a long operation in M1 beside one in M0 is LONG_PAIR (R236). -/
def firstFault (s : State) (p next : Nat) : List (Nat × Staged) → Option (Nat × Found)
  | [] => none
  | (slot, x) :: r =>
    match x.out with
    | .inl e => some (slot, ⟨s, some e, false⟩)
    | .inr l => match l.findSome? (effFault s p next) with
      | some f => some (slot, f)
      | none =>
        if x.long ∧ r.any (fun y => y.2.long && (match y.2.out with | .inl _ => false | .inr _ => true)) then
          some (3, ⟨s, some (illegalOp 7), false⟩)
        else firstFault s p next r

/-! Stalls -/

/-- The grant operations on grant n among effects: pops, or pushes. -/
def popsOf (l : List Eff) (n : BitVec 6) : Nat := (l.filter fun x => match x with | .gpop _ _ m _ => m = n | _ => false).length
def pushesOf (l : List Eff) (n : BitVec 6) : Nat := (l.filter fun x => match x with | .gpush m _ _ => m = n | _ => false).length

/-- Why an effect still waits, in a bundle whose effects are `all` (R171, R222, R224, R229). -/
def effStall (s : State) (p : Nat) (all : List Eff) (x : Eff) : State × Option StallWhy :=
  match x with
  | .load _ a n _ _ => accessStalls s p a n false []
  | .store a n v => accessStalls s p a n true (leBytes n v.toNat)
  | .gpop _ _ n _ => (s, if rlevel s n.toNat < popsOf all n then some (.grant n) else none)
  | .gpush n _ _ => (s, if grantDepth s n.toNat < wlevel s n.toNat + pushesOf all n then some (.grant n) else none)
  | .spgo _ c => (s, if 8 ≤ (spQueue s c.toNat).length then some (.spPost c) else none)
  | .spwait c => (s, if spOutstanding s c.toNat (p - 2) then some (.spWait c) else none)
  | .wait => (s, if eicAnyRequest s p then none else some .wait)
  | _ => (s, none)

/-- The first effect that waits; every remote request of the bundle is made meanwhile. -/
def firstStall (s : State) (p : Nat) (all : List Eff) : State × Option StallWhy :=
  all.foldl (fun (st : State × Option StallWhy) x =>
    match effStall st.1 p all x with
    | (t, w) => (t, st.2.orElse fun _ => w)) (s, none)

/-! Effects -/

/-- A result of a slot put in flight (R164). -/
def addFlight (s : State) (p slot : Nat) (d : Dest) (v : Word) (lat : Nat) : State :=
  modCore s p fun c => { c with inflight := c.inflight ++ [⟨slot, d, v, c.cycle + lat - 1⟩] }

/-- Loads, pops and the other reads and pushes of a bundle: before its stores (R167, R268). -/
def effFirst (s : State) (p slot : Nat) (x : Eff) : State :=
  match x with
  | .load d a n sgn ecc => match coreLoad s p a n ecc with
    | (s, .inr l) => addFlight s p slot (.g d) (if sgn then ofInt (sint (8 * n) (leNat l)) else word (leNat l)) 4
    | (s, .inl _) => s
  | .gpop d side n _ =>
    let ts := grantTs s n.toNat
    let (s, e) := grantPop s n.toNat
    let s := addFlight s p slot (.g d) e.val 4
    match side with
    | some r => if ts then addFlight s p slot (.g r) e.side 4
      else let (v, s) := freeWord s; addFlight s p slot (.g r) v 4
    | none => s
  | .gpush n v side => grantPush s n.toNat v side
  | .glevel d n => addFlight s p slot (.g d) (word (rlevel s n.toNat)) 4
  | .gspace d n => addFlight s p slot (.g d) (word (grantDepth s n.toNat - wlevel s n.toNat)) 4
  | .spgo a c => spPost s c.toNat (coreReq s p) (some (Fin.ofNat 12 (p - 2))) (tunAddr p a)
  | .mfcDtb d => addFlight (modCore s p fun c => { c with dtbFrac := s.dtb.setWidth 32 }) p slot (.g d) (dtbNs s) 1
  | .mfcFree d => let (v, s) := freeWord s; addFlight s p slot (.g d) v 1
  | .res d v lat => addFlight s p slot d v lat
  | .settleWrite n v => modCore s p fun c => { c with settle := mset c.settle n v }
  | _ => s

/-- Data-cache maintenance of the line at an address: a dirty line is written back by a clean (R229, R270). -/
def cacheLine (s : State) (p a : Nat) (clean inval : Bool) : State :=
  let r := coreReq s p
  match dline (coreOf s p) r.world a with
  | none => s
  | some d =>
    let (s, ok) : State × Bool := match (if clean && d.dirty then some (memWrite s r (a / 64 * 64) d.bytes) else none) with
      | some (s, none) => (s, true)
      | some (s, some _) => (s, false)
      | none => (s, false)
    modCore s p fun c =>
      let m := if inval then mdel c.dcache (dkey r.world a)
        else if ok then mset c.dcache (dkey r.world a) { d with dirty := false } else c.dcache
      { c with dcache := m }

/-- Stores and cache maintenance. -/
def effStore (s : State) (p : Nat) (x : Eff) : State :=
  match x with
  | .store a n v => (coreStore s p a n v).1
  | .dclean a clean inval => cacheLine s p a clean inval
  | _ => s

/-- LOOP arms a level at once (R176, R189); a count of zero leaves it disarmed. -/
def loopArm (c : Core) (k : BitVec 2) (start lend : Nat) (count : Word) : Core :=
  let k := k.toNat
  let n := count &&& mask 31 0
  if n = 0 then setCreg c (14 + 3 * k) 0
  else setCreg (setCreg (setCreg c (12 + 3 * k) (word start)) (13 + 3 * k) (word lend)) (14 + 3 * k) n

/-- The end check at address `a` (R178): the next address, `next` where no level loops. -/
def loopEnd (p : Nat) (c : Core) (a next : Nat) : Core × Nat :=
  (List.range 4).foldl (fun (st : Core × Nat × Bool) k =>
    let c := st.1
    let n := (creg p c (14 + 3 * k)).toNat
    if st.2.2 ∨ n = 0 ∨ (creg p c (13 + 3 * k)).toNat ≠ a then st
    else if 1 < n then (setCreg c (14 + 3 * k) (word (n - 1)), (creg p c (12 + 3 * k)).toNat, true)
    else (setCreg c (14 + 3 * k) 0, next, false)) (c, next, false) |> fun x => (x.1, x.2.1)

/-- Where issue goes on after a bundle that has issued at `a` that ends at `next`, with the control effect `x` of its B slot: delay windows
(R168, R180, R227, R230), loops (R176 to R179), ERET (R299). -/
def sequence (s : State) (p a next : Nat) (x : Option Eff) : State :=
  let c := coreOf s p
  match c.delay with
  | some d =>
    if 1 < d.left then setCore s p { c with pc := next, delay := some { d with left := d.left - 1 } }
    else
      let c := match d.link with
        | some r => { c with inflight := c.inflight ++ [⟨7, .g r, word next, c.cycle - 1⟩] }
        | none => c
      match d.odone with
      | some st =>
        let s := setCore s p { drain p c with pc := next, delay := none, fetching := true, odone := true }
        match c.order with
        | some j => match jentry s j with
          | some e => setJ s j { e with sw := st }
          | none => s
        | none => s
      | none => setCore s p { c with pc := d.target, delay := none }
  | none => match x with
    | some (.branch t link) => setCore s p { c with pc := next, delay := some ⟨t, 2, link, none⟩ }
    | some (.odone st) => setCore s p { c with pc := next, delay := some ⟨0, 2, none, some st⟩ }
    | some .eret => match eretImage s p with
      | (s, .inr im) => eretDo s p im
      | (s, .inl _) => s
    | some (.loop k lend count) =>
      let c := loopArm c k next lend count
      let l := loopEnd p c a next
      if count &&& mask 31 0 = 0 then setCore s p { c with pc := (lend + bundleLen s p lend) % 2 ^ 40 }
      else setCore s p { l.1 with pc := l.2 }
    | _ => let l := loopEnd p c a next
           setCore s p { l.1 with pc := l.2 }

/-- SETTLE, and FENCE, at the end of a bundle (R174, R229). -/
def effLast (s : State) (p : Nat) (x : Eff) : State :=
  match x with
  | .settle => modCore s p (drainSettle p)
  | .fence => modCore s p (drain p)
  | _ => s

/-- The control effect of a bundle. -/
def ctlOf (l : List (Nat × Eff)) : Option Eff :=
  (l.find? fun x => match x.2 with
    | .branch _ _ | .loop _ _ _ | .odone _ | .eret => true
    | _ => false).map Prod.snd

/-- A bundle issues whole: BUNDLES counts it (R190), its results are in flight, and its cycle ends. -/
def perform (s : State) (p a next : Nat) (l : List (Nat × Eff)) (long : Bool) : State :=
  let s := l.foldl (fun s x => effFirst s p x.1 x.2) s
  let s := l.foldl (fun s x => effStore s p x.2) s
  let s := modCore s p fun c => { c with
    cycle := c.cycle + 1, bundle := [], stall := if long then some .long else none,
    creg := mset c.creg 33 (creg p c 33 + 1) }
  let s := sequence s p a next (ctlOf l)
  l.foldl (fun s x => effLast s p x.2) s

/-! Issue -/

/-- What stands against the fetch of the bundle at the core's PC (R183, R301, R695). -/
def fetchGate (s : State) (p : Nat) : State × Option Exc :=
  let c := coreOf s p
  let r := coreReq s p
  if guardRefuses s p (levelNum r.level) c.pc .fetch then (s, some { code := 0x0B, eaddr := c.pc })
  else match c.fetchErr.find? fun e => e.1 = ikey r c.pc with
    | some e => (setCore s p { c with fetchErr := mdel c.fetchErr e.1 },
        some { code := 0x09, sub := BitVec.ofNat 8 (busErrNum e.2), eaddr := c.pc })
    | none =>
      if ikey r c.pc ∈ c.icache ∧ (fetchCheck s r c.pc).isNone then (s, none)
      else match fetchLine s p c.pc .good with
        | (s, none) => (s, none)
        | (s, some e) => (s, some { code := 0x09, sub := BitVec.ofNat 8 (busErrNum e), eaddr := c.pc })

/-- The gathered bundle comes to issue: it raises an exception, stalls, or takes effect. -/
def issue (s : State) (p : Nat) : State :=
  match fetchGate s p with
  | (s, some e) => raise s p e 0 false
  | (s, none) =>
    let c := coreOf s p
    let next := (c.pc + 4 * bundleSize c.bundle) % 2 ^ 40
    match bundleSlots p c with
    | .inl k => raise s p { code := Ev.ILLEGAL_BUNDLE } k false
    | .inr l =>
      let live := l.filter fun x => x.2.guard
      match firstFault s p next live with
      | some (slot, f) => match f.exc with
        | some e => raise f.st p e slot f.bank
        | none => f.st
      | none =>
        let effs := live.flatMap fun x => match x.2.out with | .inr es => es.map fun e => (x.1, e) | .inl _ => []
        match firstStall s p (effs.map Prod.snd) with
        | (s, some w) => modCore s p fun c => { c with stall := some w }
        | (s, none) => perform s p c.pc next effs (live.any fun x => x.2.long)

/-! Gathering -/

/-- What a syllable reads, for a control core's interlock (R186). -/
inductive Need where
  | g (r : BitVec 6)
  | p (r : BitVec 3)
  | creg (n : Nat)
  deriving DecidableEq, Repr

/-- Whether a result in flight is a write to what is read. -/
def Need.meets (n : Need) (f : InFlight) : Bool :=
  match n, f.dest with
  | .g r, .g q => r ≠ 0 && q = r
  | .p r, .p q => r ≠ 0 && q = r
  | .creg k, .creg m => k = m
  | .creg k, .flags => k = 5
  | .creg k, .fstat => k = 5
  | .creg k, .p _ => k = 9
  | _, _ => false

/-- A control core waits until the writes that a syllable reads have landed (R186). -/
def interlock (p : Nat) (c : Core) (ns : List Need) : Core :=
  if isTun p then c
  else
    let due := (c.inflight.filter fun f => ns.any fun n => n.meets f).foldl (fun m f => max m (f.due + 1)) c.cycle
    land p { c with cycle := due }

/-- Whether core p takes a syllable. -/
def canStage (s : State) (p : Nat) : Bool :=
  let c := coreOf s p
  coreLive s p && !c.fetching && c.event.isNone && c.stall.isNone

/-- A syllable is gathered: its guard is read, and where it reads one `f` says what the syllable does (R161, R164, R192). The
last syllable of its bundle, or one past the most that a bundle holds, brings it to issue. -/
def stage (h : Head) (slots : List Nat) (kmax : Nat) (stray long : Bool) (ns : List Need)
    (f : State → Nat → Core → Sum Exc (List Eff)) (s : State) : Out :=
  let p := h.core.val
  if !(canStage s p) then .next s
  else
    let c := interlock p (land p (coreOf s p)) [.p h.pg]
    let on := pred p c h.pg.toNat
    let c := if on then interlock p c ns else c
    let x : Staged := ⟨slots, h.ks.length, kmax, stray, on, long, if on then f s p c else .inr []⟩
    let t := setCore s p { c with bundle := c.bundle ++ [x] }
    if h.e ∨ bundleLimit p < bundleSize (c.bundle ++ [x]) then .next (issue t p) else .next t

/-! Interrupts -/

/-- Whether an event may be accepted now: between two bundles, or in a stall that can be interrupted (R172, R295). -/
def canAccept (s : State) (p : Nat) : Bool :=
  let c := coreOf s p
  coreLive s p && c.event.isNone && !c.fetching &&
  (match c.stall with
   | none | some (.grant _) | some (.spPost _) | some (.spWait _) | some .wait => true
   | _ => false) &&
  (p < 2 || (c.order.isSome && !(bit (creg p c 1) 3)))

/-- The world of the source that a class's request is taken from: secure before normal (R316); a tun takes those of its
order's world only (R288). -/
def requestWorld (s : State) (p : Nat) (fast : Bool) : Option World :=
  let w := coreWorld p (coreOf s p)
  let ok (x : World) : Bool := (eicCandidate s p fast x).isSome && (p < 2 || x = w)
  if ok .secure then some .secure else if ok .normal then some .normal else none

/-- The class that a core would take (R294, R295). -/
def requestClass (s : State) (p : Nat) : Option (Bool × World) :=
  let st := creg p (coreOf s p) 1
  match (if bit st 5 ∧ !(bit st 6) then requestWorld s p true else none) with
  | some w => some (true, w)
  | none => (if bit st 4 then requestWorld s p false else none).map fun w => (false, w)

/-- A core accepts an interrupt: the bundle that is gathered or stalled has not issued, and its source is claimed (R172,
R295, R317). A WAIT whose interrupt is pending has ended. -/
def acceptInterrupt (s : State) (p : Nat) (fast : Bool) : State :=
  if !(canAccept s p) then s
  else
    let t := modCore s p (land p)
    let t := if (coreOf t p).stall = some .wait ∧ eicAnyRequest t p then
        issue (modCore t p fun c => { c with stall := none }) p
      else t
    match requestClass t p with
    | some (f, w) =>
      if f ≠ fast ∨ !(canAccept t p) then s
      else
        let code : Byte := (if fast then 0x22 else 0x20) + (if w = .secure then 1 else 0)
        let (t, i) := eicClaim (dropBundle t p) p fast w
        modCore t p fun c => { c with event := some ⟨code, code.setWidth 64, i⟩ }
    | none => s

/-! Commands -/

/-- RESULT_WRITEBACK (R164, R166): results whose latency has passed land. -/
def execResultWriteback (p : Fin 14) (s : State) : Out :=
  if procPresent s p then .next (modCore s p (land p)) else .next s

/-- LONG_OP_STALL_END (R171): the stall of a long operation ends; a bundle that waits is tried again. -/
def execLongOpStallEnd (p : Fin 14) (s : State) : Out :=
  let c := coreOf s p
  if !(coreLive s p) then .next s
  else match c.stall with
    | none => .next s
    | some .long => .next (setCore s p { land p c with stall := none })
    | some _ => .next (issue (setCore s p { c with stall := none }) p)

/-- ICACHE_FILL (R184): a miss is filled; a refusal is raised where the line is the one to issue from, else when a bundle of
it is fetched for issue (R183). -/
def execIcacheFill (p : Fin 14) (line : BitVec 40) (ecc : Ecc) (s : State) : Out :=
  let c := coreOf s p
  if !(coreLive s p) ∨ c.fetching ∨ c.event.isSome then .next s
  else
    match fetchLine s p line.toNat ecc with
    | (t, none) => .next t
    | (t, some e) =>
      if line.toNat / 64 = c.pc / 64 ∧ c.stall.isNone then
        .next (raise t p { code := 0x09, sub := BitVec.ofNat 8 (busErrNum e), eaddr := c.pc } 0 false)
      else .next (modCore t p fun c => { c with fetchErr := mset c.fetchErr (ikey (coreReq t p) line.toNat) e })

/-- PREFETCH_LINE (R183): the next sequential line, while PFEN is 1. -/
def execPrefetchLine (p : Fin 14) (line : BitVec 40) (ecc : Ecc) (s : State) : Out :=
  let c := coreOf s p
  if !(coreLive s p) ∨ c.fetching ∨ !(bit (creg p c 28) 0) ∨ line.toNat / 64 ≠ c.pc / 64 + 1 then .next s
  else
    match fetchLine s p line.toNat ecc with
    | (t, none) => .next t
    | (t, some e) => .next (modCore t p fun c => { c with fetchErr := mset c.fetchErr (ikey (coreReq t p) line.toNat) e })

/-- The slot of the load that waits for a data-cache line. -/
def missSlot (p : Nat) (c : Core) (line : Nat) : Nat :=
  match bundleSlots p c with
  | .inl _ => 0
  | .inr l => ((l.find? fun x => x.2.guard && (match x.2.out with
      | .inr es => es.any fun e => match e with | .load _ a _ _ _ => a / 64 = line | _ => false
      | .inl _ => false)).map Prod.fst).getD 4

/-- DCACHE_FILL (R185, R52): the line of a miss arrives with the world that asks for it, and the bundle goes on. -/
def execDcacheFill (p : Fin 14) (line : BitVec 40) (ecc : Ecc) (s : State) : Out :=
  let c := coreOf s p
  let a := line.toNat / 64 * 64
  if !(coreLive s p) ∨ c.stall ≠ some (.dcache (a / 64)) then .next s
  else
    let r := coreReq s p
    let (t, got) := if ecc = .uncorrected ∧ (eccPart s a).isSome then (eccFatal s a r.id r.world, .inl .eccUncorrected)
      else memRead (if ecc = .corrected then eccCorrected s a else s) r a 64 .read
    match got with
    | .inl e => .next (raise t p (coreExc a (.bus e)) (missSlot p c (a / 64)) false)
    | .inr l => .next (issue (modCore t p fun c => { c with
        stall := none, dcache := mset c.dcache (dkey r.world a) ⟨r.world, false, l⟩ }) p)

/-- INTERRUPT_ACCEPT (R295). -/
def execInterruptAccept (p : Fin 14) (fast : Bool) (s : State) : Out := .next (acceptInterrupt s p fast)

end Sys2Proof.Machine
end

