-- ==== Sys2Proof/Machine/Operands.lean ====
section
/-! DEFINITION. Operand forms: immediates and displacements (R160), the formats of R159 as ways of gathering a syllable, the
fields marked zero (R193), predicates as destinations (R162, R207), the profiles of R231. -/
namespace Sys2Proof.Machine

/-! Immediates (R160) -/

/-- The immediate of an I- or L-format syllable with the payloads of its K syllables. -/
def immVal (ks : List (BitVec 27)) (imm : BitVec 10) : Word :=
  match ks with
  | [] => imm.signExtend 64
  | [k] => (k ++ imm).signExtend 64
  | k1 :: k2 :: _ => k1 ++ k2 ++ imm

/-- The displacement of a B-format syllable. -/
def dispVal (ks : List (BitVec 27)) (d : BitVec 22) : Word :=
  match ks with
  | [] => d.signExtend 64
  | k :: _ => (k ++ d).signExtend 64

/-- An address at a distance of v syllables from a bundle. -/
def relAddr (pc : Nat) (v : Word) : Nat := (word pc + v * 4).toNat % 2 ^ 40

/-! Classes of R155 -/

abbrev clsA : List Nat := [0, 1]
abbrev clsM : List Nat := [2, 3]
abbrev clsL : List Nat := [4, 5]
abbrev clsX : List Nat := [6]
abbrev clsB : List Nat := [7]

/-! Exceptions of R297 -/

abbrev Ill.BAD_OPCODE : Exc := illegalOp 1
abbrev Ill.NOT_IN_PROFILE : Exc := illegalOp 2
abbrev Ill.ABSENT_FEATURE : Exc := illegalOp 3
abbrev Ill.BAD_CREG : Exc := illegalOp 4
abbrev Ill.DELAY_BRANCH : Exc := illegalOp 5
abbrev Ill.LOOP_RANGE : Exc := illegalOp 6
abbrev Ill.BAD_TARGET : Exc := illegalOp 8

/-! T format -/

/-- A T-format operation: `zero` tells that every field marked zero holds zero (R193). -/
def tOp (o : TSyl) (cls : List Nat) (long : Bool) (ns : List Need) (zero : Bool)
    (f : State → Nat → Core → Sum Exc (List Eff)) (s : State) : Out :=
  stage o.h cls 0 false long ns (fun s p c => if zero then f s p c else .inl Ill.BAD_OPCODE) s

/-- A register result with the flags that land with it (R164, R196, R212). -/
def resEffs (d : BitVec 6) (v : VF) (lat : Nat) : List Eff :=
  .res (.g d) v.1 lat :: (if v.2 = 0 then [] else [.res .flags v.2 lat])

/-- An operation that writes D from s1, and from s2 and d where it reads them; one that does not read s2 has S2 zero. -/
def tReg (o : TSyl) (cls : List Nat) (lat : Nat) (long useS2 useD : Bool) (f : FCtl → Word → Word → Word → VF) (s : State) :
    Out :=
  tOp o cls long (.g o.s1 :: ((if useS2 then [.g o.s2] else []) ++ if useD then [.g o.d] else [])) (useS2 || o.s2 = 0)
    (fun _ p c => .inr (resEffs o.d
      (f (fctlOf (creg p c 4)) (greg p c o.s1.toNat) (greg p c o.s2.toNat) (greg p c o.d.toNat)) lat)) s

/-- The forms of an integer operation: s1 and s2; s1 alone; s1, s2 and d. -/
def binOp (o : TSyl) (cls : List Nat) (lat : Nat) (f : Word → Word → VF) (s : State) : Out :=
  tReg o cls lat false true false (fun _ a b _ => f a b) s
def unOp (o : TSyl) (cls : List Nat) (lat : Nat) (f : Word → VF) (s : State) : Out :=
  tReg o cls lat false false false (fun _ a _ _ => f a) s
def ternOp (o : TSyl) (cls : List Nat) (lat : Nat) (f : Word → Word → Word → VF) (s : State) : Out :=
  tReg o cls lat false true true (fun _ a b d => f a b d) s

/-! I format -/

/-- An I-format operation that K may extend. -/
def iOp (o : ISyl) (cls : List Nat) (ns : List Need) (zero : Bool) (f : State → Nat → Core → Sum Exc (List Eff)) (s : State) :
    Out :=
  stage o.h cls 2 false false ns (fun s p c => if zero then f s p c else .inl Ill.BAD_OPCODE) s

/-- D from s1 and the immediate. -/
def iReg (o : ISyl) (cls : List Nat) (f : Word → Word → Word) (s : State) : Out :=
  iOp o cls [.g o.s1] true
    (fun _ p c => .inr [.res (.g o.d) (f (greg p c o.s1.toNat) (immVal o.h.ks o.imm)) 1]) s

/-! Predicates as destinations (R162, R207) -/

/-- The writes of a predicate operation: Pd of D[2:0], and the partner's complement where D[3] is 1; under CMODE 1 or 2 both
combine with what stands there. -/
def predEffs (p : Nat) (c : Core) (d : BitVec 6) (mode : Nat) (v : Bool) : List Eff :=
  let n : BitVec 3 := d.setWidth 3
  let m : BitVec 3 := n ^^^ 1
  let put (r : BitVec 3) (x : Bool) : Eff :=
    let old := pred p c r.toNat
    let y := match mode with | 1 => old && x | 2 => old || x | _ => x
    .res (.p r) (if y then 1 else 0) 1
  put n v :: (if d.getLsbD 3 then [put m (!v)] else [])

/-- PMODE.CMODE in effect. -/
def cmode (s : State) (h : Head) : Nat := bits (creg h.core.val (coreOf s h.core.val) 8) 1 0

/-- The predicates that a combining compare reads. -/
def predNeeds (mode : Nat) (d : BitVec 6) : List Need :=
  let n : BitVec 3 := d.setWidth 3
  if mode = 0 then [] else .p n :: (if d.getLsbD 3 then [.p (n ^^^ 1)] else [])

/-! Profiles (R231) -/

/-- An operation that only tuns have, or only control cores. -/
def tunOnly (f : State → Nat → Core → Sum Exc (List Eff)) (s : State) (p : Nat) (c : Core) : Sum Exc (List Eff) :=
  if isTun p then f s p c else .inl Ill.NOT_IN_PROFILE
def ccOnly (f : State → Nat → Core → Sum Exc (List Eff)) (s : State) (p : Nat) (c : Core) : Sum Exc (List Eff) :=
  if isTun p then .inl Ill.NOT_IN_PROFILE else f s p c

/-- An operation of a profile whose fields marked zero hold zero: the profile is checked first (R699). -/
def profOp (o : TSyl) (cls : List Nat) (tun : Bool) (ns : List Need) (zero : Bool)
    (f : State → Nat → Core → Sum Exc (List Eff)) (s : State) : Out :=
  let g : State → Nat → Core → Sum Exc (List Eff) := fun s p c => if zero then f s p c else .inl Ill.BAD_OPCODE
  stage o.h cls 0 false false ns (if tun then tunOnly g else ccOnly g) s

/-- An exact-accumulate operation (R185, R218). -/
def exaOp (o : TSyl) (long : Bool) (ns : List Need) (zero : Bool) (f : State → Nat → Core → Sum Exc (List Eff)) (s : State) :
    Out :=
  stage o.h clsM 0 false long ns (tunOnly fun s p c =>
    if !(hasExa s) then .inl Ill.ABSENT_FEATURE else if zero then f s p c else .inl Ill.BAD_OPCODE) s

/-- A control transfer in a delay bundle is refused (R187, R230). -/
def noDelay (c : Core) (x : Sum Exc (List Eff)) : Sum Exc (List Eff) :=
  if c.delay.isSome then .inl Ill.DELAY_BRANCH else x

end Sys2Proof.Machine
end

