-- ==== Sys2Proof/Machine/Alu.lean ====
section
/-! DEFINITION. The A class: integer and saturating arithmetic, packed integers, logic, compares and predicates (R195 to R200, R207 to R209). -/
namespace Sys2Proof.Machine

/-! Integer arithmetic (R195) -/

/-- ADD (R195). -/
def execAdd (o : TSyl) (s : State) : Out :=
  binOp o clsA 1 (fun a b => (a + b, 0)) s

/-- SUB (R195). -/
def execSub (o : TSyl) (s : State) : Out :=
  binOp o clsA 1 (fun a b => (a - b, 0)) s

/-- ADDW (R195). -/
def execAddw (o : TSyl) (s : State) : Out :=
  binOp o clsA 1 (fun a b => (sextW (a + b), 0)) s

/-- SUBW (R195). -/
def execSubw (o : TSyl) (s : State) : Out :=
  binOp o clsA 1 (fun a b => (sextW (a - b), 0)) s

/-- MIN (R195). -/
def execMin (o : TSyl) (s : State) : Out :=
  binOp o clsA 1 (fun a b => (ofInt (iMin (sInt a) (sInt b)), 0)) s

/-- MAX (R195). -/
def execMax (o : TSyl) (s : State) : Out :=
  binOp o clsA 1 (fun a b => (ofInt (iMax (sInt a) (sInt b)), 0)) s

/-- MINU (R195). -/
def execMinu (o : TSyl) (s : State) : Out :=
  binOp o clsA 1 (fun a b => (if a.toNat ≤ b.toNat then a else b, 0)) s

/-- MAXU (R195). -/
def execMaxu (o : TSyl) (s : State) : Out :=
  binOp o clsA 1 (fun a b => (if a.toNat ≤ b.toNat then b else a, 0)) s

/-- ABS (R195). -/
def execAbs (o : TSyl) (s : State) : Out :=
  unOp o clsA 1 (fun a => (ofInt (iAbs (sInt a)), 0)) s

/-- ABSD (R195). -/
def execAbsd (o : TSyl) (s : State) : Out :=
  binOp o clsA 1 (fun a b => (ofInt (iAbs (sInt a - sInt b)), 0)) s

/-- AVG (R195). -/
def execAvg (o : TSyl) (s : State) : Out :=
  binOp o clsA 1 (fun a b => (aluAvg a b, 0)) s

/-- ADDI (R195). -/
def execAddi (o : ISyl) (s : State) : Out :=
  iReg o clsA (fun a b => a + b) s

/-- SEL (R195). -/
def execSel (p : BitVec 3) (o : TSyl) (s : State) : Out :=
  tOp o clsA false [.g o.s1, .g o.s2, .p p] true (fun _ n c =>
    .inr [.res (.g o.d) (if pred n c p.toNat then greg n c o.s1.toNat else greg n c o.s2.toNat) 1]) s

/-! Saturating arithmetic (R196, R197) -/

/-- ADDS (R197). -/
def execAdds (o : TSyl) (s : State) : Out :=
  binOp o clsA 1 (fun a b => satS 64 (sInt a + sInt b)) s

/-- SUBS (R197). -/
def execSubs (o : TSyl) (s : State) : Out :=
  binOp o clsA 1 (fun a b => satS 64 (sInt a - sInt b)) s

/-- ADDSW (R197). -/
def execAddsw (o : TSyl) (s : State) : Out :=
  binOp o clsA 1 (fun a b => satS 32 (wInt a + wInt b)) s

/-- SUBSW (R197). -/
def execSubsw (o : TSyl) (s : State) : Out :=
  binOp o clsA 1 (fun a b => satS 32 (wInt a - wInt b)) s

/-- ADDUS (R197). -/
def execAddus (o : TSyl) (s : State) : Out :=
  binOp o clsA 1 (fun a b => satU 64 ((a.toNat : Int) + b.toNat)) s

/-- SUBUS (R197). -/
def execSubus (o : TSyl) (s : State) : Out :=
  binOp o clsA 1 (fun a b => satU 64 ((a.toNat : Int) - b.toNat)) s

/-- ABSS (R197). -/
def execAbss (o : TSyl) (s : State) : Out :=
  unOp o clsA 1 (fun a => satS 64 (iAbs (sInt a))) s

/-- NEGS (R197). -/
def execNegs (o : TSyl) (s : State) : Out :=
  unOp o clsA 1 (fun a => satS 64 (-(sInt a))) s

/-- SATW (R197). -/
def execSatw (o : TSyl) (s : State) : Out :=
  unOp o clsA 1 (fun a => satS 32 (sInt a)) s

/-- SATH (R197). -/
def execSath (o : TSyl) (s : State) : Out :=
  unOp o clsA 1 (fun a => satS 16 (sInt a)) s

/-! Packed integer (R198) -/

/-- PADDH (R198). -/
def execPaddh (o : TSyl) (s : State) : Out :=
  binOp o clsA 1 (fun a b => lanes2 16 (fun x y => x + y) a b) s

/-- PSUBH (R198). -/
def execPsubh (o : TSyl) (s : State) : Out :=
  binOp o clsA 1 (fun a b => lanes2 16 (fun x y => x - y) a b) s

/-- PADDW (R198). -/
def execPaddw (o : TSyl) (s : State) : Out :=
  binOp o clsA 1 (fun a b => lanes2 32 (fun x y => x + y) a b) s

/-- PSUBW (R198). -/
def execPsubw (o : TSyl) (s : State) : Out :=
  binOp o clsA 1 (fun a b => lanes2 32 (fun x y => x - y) a b) s

/-- PMAXH (R198). -/
def execPmaxh (o : TSyl) (s : State) : Out :=
  binOp o clsA 1 (fun a b => lanes2 16 (iMax) a b) s

/-- PMINH (R198). -/
def execPminh (o : TSyl) (s : State) : Out :=
  binOp o clsA 1 (fun a b => lanes2 16 (iMin) a b) s

/-- PADDSH (R198). -/
def execPaddsh (o : TSyl) (s : State) : Out :=
  binOp o clsA 1 (fun a b => lanes2S 16 (fun x y => x + y) a b) s

/-- PSUBSH (R198). -/
def execPsubsh (o : TSyl) (s : State) : Out :=
  binOp o clsA 1 (fun a b => lanes2S 16 (fun x y => x - y) a b) s

/-- PADDSW (R198). -/
def execPaddsw (o : TSyl) (s : State) : Out :=
  binOp o clsA 1 (fun a b => lanes2S 32 (fun x y => x + y) a b) s

/-- PSUBSW (R198). -/
def execPsubsw (o : TSyl) (s : State) : Out :=
  binOp o clsA 1 (fun a b => lanes2S 32 (fun x y => x - y) a b) s

/-- PABSSH (R198). -/
def execPabssh (o : TSyl) (s : State) : Out :=
  unOp o clsA 1 (fun a => lanes2S 16 (fun x _ => iAbs x) a a) s

/-! Logic (R200) -/

/-- AND (R200). -/
def execAnd (o : TSyl) (s : State) : Out :=
  binOp o clsA 1 (fun a b => (a &&& b, 0)) s

/-- OR (R200). -/
def execOr (o : TSyl) (s : State) : Out :=
  binOp o clsA 1 (fun a b => (a ||| b, 0)) s

/-- XOR (R200). -/
def execXor (o : TSyl) (s : State) : Out :=
  binOp o clsA 1 (fun a b => (a ^^^ b, 0)) s

/-- ANDN (R200). -/
def execAndn (o : TSyl) (s : State) : Out :=
  binOp o clsA 1 (fun a b => (a &&& ~~~ b, 0)) s

/-- ORN (R200). -/
def execOrn (o : TSyl) (s : State) : Out :=
  binOp o clsA 1 (fun a b => (a ||| ~~~ b, 0)) s

/-- XNOR (R200). -/
def execXnor (o : TSyl) (s : State) : Out :=
  binOp o clsA 1 (fun a b => (~~~ (a ^^^ b), 0)) s

/-- NAND (R200). -/
def execNand (o : TSyl) (s : State) : Out :=
  binOp o clsA 1 (fun a b => (~~~ (a &&& b), 0)) s

/-- NOR (R200). -/
def execNor (o : TSyl) (s : State) : Out :=
  binOp o clsA 1 (fun a b => (~~~ (a ||| b), 0)) s

/-- ANDI (R200). -/
def execAndi (o : ISyl) (s : State) : Out :=
  iReg o clsA (fun a b => a &&& b) s

/-- ORI (R200). -/
def execOri (o : ISyl) (s : State) : Out :=
  iReg o clsA (fun a b => a ||| b) s

/-- XORI (R200). -/
def execXori (o : ISyl) (s : State) : Out :=
  iReg o clsA (fun a b => a ^^^ b) s

/-! Compares and predicates (R207 to R209) -/

/-- A compare in T format writes Pd, combining under CMODE, with the flags that land with it. -/
def cmpT (o : TSyl) (v : FCtl → Word → Word → Bool × Word) (s : State) : Out :=
  let m := cmode s o.h
  tOp o clsA false ([.g o.s1, .g o.s2] ++ predNeeds m o.d) (o.d.toNat < 16) (fun _ p c =>
    let r := v (fctlOf (creg p c 4)) (greg p c o.s1.toNat) (greg p c o.s2.toNat)
    .inr (predEffs p c o.d m r.1 ++ if r.2 = 0 then [] else [.res .flags r.2 1])) s

/-- A compare with an immediate: D[5:4] selects the condition. -/
def cmpI (o : ISyl) (v : Nat → Word → Word → Bool) (s : State) : Out :=
  let m := cmode s o.h
  iOp o clsA (.g o.s1 :: predNeeds m o.d) true (fun _ p c =>
    .inr (predEffs p c o.d m (v (o.d.toNat / 16) (greg p c o.s1.toNat) (immVal o.h.ks o.imm)))) s

/-- CMP (R208). -/
def execCmp (k : CmpC) (o : TSyl) (s : State) : Out :=
  cmpT o (fun _ a b => (cmpVal k a b, 0)) s

/-- CMPI (R208). -/
def execCmpi (o : ISyl) (s : State) : Out :=
  cmpI o (fun k a b => match k with
    | 0 => cmpVal .eq a b
    | 1 => cmpVal .ne a b
    | 2 => cmpVal .lt a b
    | _ => cmpVal .ge a b) s

/-- CMPIU (R208). -/
def execCmpiu (o : ISyl) (s : State) : Out :=
  cmpI o (fun k a b => match k with
    | 0 => cmpVal .ltu a b
    | 1 => cmpVal .geu a b
    | 2 => cmpVal .any a b
    | _ => cmpVal .none a b) s

/-- PLOG (R208). -/
def execPlog (f : PlogF) (o : TSyl) (s : State) : Out :=
  tOp o clsA false [.p (o.s1.setWidth 3), .p (o.s2.setWidth 3)] (o.d.toNat < 16 && o.s1.toNat < 8 && o.s2.toNat < 8)
    (fun _ p c => .inr (predEffs p c o.d 0 (plogVal f (pred p c o.s1.toNat) (pred p c o.s2.toNat)))) s

/-- FCMP (R209). -/
def execFcmp (k : FcmpC) (f : Fmt) (o : TSyl) (s : State) : Out :=
  cmpT o (fun c a b => fcmpVal k (fmtOf f) c a.toNat b.toNat) s

end Sys2Proof.Machine
end

