-- ==== Sys2Proof/Machine/Ctl.lean ====
section
/-! DEFINITION. The B class: branches, loops, system and cache operations (R225 to R230). -/
namespace Sys2Proof.Machine

/-! Branches (R225 to R227) -/

/-- A branch by displacement. -/
def branchOp (o : BSyl) (link : Option (BitVec 6)) (s : State) : Out :=
  stage o.h clsB 1 false false []
    (fun _ _ c => noDelay c (.inr [.branch (relAddr c.pc (dispVal o.h.ks o.disp)) link])) s

/-- A jump to s1; a target that is not 4-byte aligned is refused (R226). -/
def jumpOp (o : TSyl) (link : Option (BitVec 6)) (zero : Bool) (s : State) : Out :=
  tOp o clsB false [.g o.s1] zero (fun _ p c =>
    let t := (greg p c o.s1.toNat).toNat
    noDelay c (if t % 4 ≠ 0 then .inl Ill.BAD_TARGET else .inr [.branch (t % 2 ^ 40) link])) s

/-- BR (R225). -/
def execBr (o : BSyl) (s : State) : Out :=
  branchOp o none s

/-- CALL (R225, R227). -/
def execCall (o : BSyl) (s : State) : Out :=
  branchOp o (some 62) s

/-- JR (R225, R226). -/
def execJr (o : TSyl) (s : State) : Out :=
  jumpOp o none (o.d = 0 && o.s2 = 0) s

/-- JALR (R225 to R227). -/
def execJalr (o : TSyl) (s : State) : Out :=
  jumpOp o (some o.d) (o.s2 = 0) s

/-! Loops (R176, R177, R228) -/

/-- LOOP and LOOPI arm level D[1:0]; the end lies beyond the LOOP bundle. -/
def loopOp (o : ISyl) (ns : List Need) (zero : Bool) (count : Nat → Core → Word) (s : State) : Out :=
  iOp o clsB ns (zero && o.d.toNat < 4) (fun _ p c =>
    let v := immVal o.h.ks o.imm
    noDelay c (if sInt v ≤ 0 then .inl Ill.LOOP_RANGE
      else .inr [.loop (o.d.setWidth 2) (relAddr c.pc v) (count p c)])) s

/-- LOOP (R228). -/
def execLoop (o : ISyl) (s : State) : Out :=
  loopOp o [.g o.s1] true (fun p c => greg p c o.s1.toNat) s

/-- LOOPI (R228, R234). -/
def execLoopi (o : ISyl) (s : State) : Out :=
  loopOp o [] o.h.ks.isEmpty (fun _ _ => o.s1.setWidth 64) s

/-! System (R229, R230) -/

/-- SETTLE (R174). -/
def execSettle (o : TSyl) (s : State) : Out :=
  tOp o clsB false [] (o.d = 0 && o.s1 = 0 && o.s2 = 0) (fun _ _ _ => .inr [.settle]) s

/-- TRAP (R229). -/
def execTrap (o : TSyl) (s : State) : Out :=
  tOp o clsB false [] (o.d = 0 && o.s1 = 0) (fun _ _ _ => .inl { code := 0x0C, trapno := o.s2 }) s

/-- ERET (R299, R300). -/
def execEret (o : TSyl) (s : State) : Out :=
  tOp o clsB false [] (o.d = 0 && o.s1 = 0 && o.s2 = 0) (fun _ p c =>
    if coreLevel p c = .t then .inl { code := 0x04 } else noDelay c (.inr [.eret])) s

/-- WAIT (R229). -/
def execWait (o : TSyl) (s : State) : Out :=
  profOp o clsB false [] (o.d = 0 && o.s1 = 0 && o.s2 = 0) (fun _ _ _ => .inr [.wait]) s

/-- ODONE (R230). -/
def execOdone (o : TSyl) (s : State) : Out :=
  profOp o clsB true [.g o.s1] (o.d = 0 && o.s2 = 0)
    (fun _ p c => noDelay c (.inr [.odone ((greg p c o.s1.toNat).setWidth 8)])) s

/-- FENCE (R229). -/
def execFence (o : TSyl) (s : State) : Out :=
  tOp o clsB false [] (o.d = 0 && o.s1 = 0 && o.s2 = 0) (fun _ _ _ => .inr [.fence]) s

/-- The OP values that a table of spec/07_operation_reference.md lists, with the FN values of a T-format one (R191). -/
def opListed (op fn : Nat) : Bool :=
  match op with
  | 0x00 | 0x03 => fn ≤ 10
  | 0x01 | 0x10 | 0x28 => fn ≤ 9
  | 0x02 | 0x04 | 0x27 => fn ≤ 7
  | 0x07 => fn ≤ 4
  | 0x0C => fn ≤ 7
  | 0x11 | 0x19 => fn ≤ 5
  | 0x12 | 0x13 | 0x14 | 0x15 | 0x17 | 0x39 => fn ≤ 11
  | 0x16 | 0x2A => fn ≤ 8
  | 0x18 => fn ≤ 13
  | 0x2C => fn ≤ 10
  | 0x36 => fn ≤ 1
  | 0x0E | 0x0F | 0x1A | 0x1B | 0x2B | 0x2E | 0x32 | 0x33 | 0x3A | 0x3B => false
  | _ => true

/-- The slots of an OP value's class (R155). -/
def opClass (op : Nat) : List Nat :=
  if op < 0x10 then clsA else if op < 0x1C then clsM else if op < 0x28 then clsL else if op < 0x34 then clsX else clsB

/-- NOP (R191, R229, R157). -/
def execNop (k : NopKind) (o : TSyl) (s : State) : Out :=
  match k with
  | .nop => tOp o clsB false [] (o.d = 0 && o.s1 = 0 && o.s2 = 0) (fun _ _ _ => .inr []) s
  | .unlisted op fn =>
    if opListed op.toNat fn.toNat then .next s
    else stage o.h (opClass op.toNat) 0 false false [] (fun _ _ _ => .inl Ill.BAD_OPCODE) s
  | .strayK => if o.h.e then stage o.h [] 2 true false [] (fun _ _ _ => .inr []) s else .next s

/-- Maintenance of the data-cache line that holds s1. -/
def dcacheOp (o : TSyl) (clean inval : Bool) (s : State) : Out :=
  profOp o clsB false [.g o.s1] (o.d = 0 && o.s2 = 0)
    (fun _ p c => .inr [.dclean (greg p c o.s1.toNat).toNat clean inval]) s

/-- DCLEAN (R229). -/
def execDclean (o : TSyl) (s : State) : Out :=
  dcacheOp o true false s

/-- DCINV (R229). -/
def execDcinv (o : TSyl) (s : State) : Out :=
  dcacheOp o false true s

/-- DCFLUSH (R229). -/
def execDcflush (o : TSyl) (s : State) : Out :=
  dcacheOp o true true s

/-- MCALL (R229, R286). -/
def execMcall (o : TSyl) (s : State) : Out :=
  profOp o clsB false [] (o.d = 0 && o.s1 = 0 && o.s2 = 0) (fun _ _ _ => .inl { code := 0x0E }) s

/-- SCALL (R229, R286). -/
def execScall (o : TSyl) (s : State) : Out :=
  profOp o clsB false [] (o.d = 0 && o.s1 = 0 && o.s2 = 0) (fun _ _ _ => .inl { code := 0x0D }) s

end Sys2Proof.Machine
end

