-- ==== Sys2Proof/Machine/Fpu.lean ====
section
/-! DEFINITION. The M class, floating point: scalar and packed operations, conversions, exact accumulators (R212 to R219). -/
namespace Sys2Proof.Machine

/-- The latency of a scalar operation: 5 in binary64, 4 otherwise (R163). -/
def fpLat (f : Fmt) : Nat := if f = .d then 5 else 4

/-- A scalar floating-point operation by its FN (R213): what it reads, and its latency. -/
def fpOp (n : Nat) (f : Fmt) (o : TSyl) (lat : Nat) (long useS2 useD : Bool) (s : State) : Out :=
  tReg o clsM lat long useS2 useD (fun c a b d =>
    let r := fop n (fmtOf f) c d.toNat a.toNat b.toNat
    (word r.1, r.2)) s

/-- A packed operation (R215) by the FN of its scalar. -/
def fpPacked (n : Nat) (f : PFmt) (o : TSyl) (useD : Bool) (s : State) : Out :=
  tReg o clsM 4 false true useD (fun c a b d => plop n (pfmtOf f) c d a b) s

/-- A conversion (R216). -/
def fpConv (o : TSyl) (f : FCtl → Word → VF) (s : State) : Out :=
  tReg o clsM 4 false false false (fun c a _ _ => f c a) s

/-- A result of a format as a register value. -/
def frWord (r : FR) : VF := (word r.1, r.2)

/-- FADD (R213). -/
def execFadd (f : Fmt) (o : TSyl) (s : State) : Out :=
  fpOp 0 f o (fpLat f) false true false s

/-- FSUB (R213). -/
def execFsub (f : Fmt) (o : TSyl) (s : State) : Out :=
  fpOp 1 f o (fpLat f) false true false s

/-- FMUL (R213). -/
def execFmul (f : Fmt) (o : TSyl) (s : State) : Out :=
  fpOp 2 f o (fpLat f) false true false s

/-- FMA (R213). -/
def execFma (f : Fmt) (o : TSyl) (s : State) : Out :=
  fpOp 3 f o (fpLat f) false true true s

/-- FMS (R213). -/
def execFms (f : Fmt) (o : TSyl) (s : State) : Out :=
  fpOp 4 f o (fpLat f) false true true s

/-- FMIN (R213). -/
def execFmin (f : Fmt) (o : TSyl) (s : State) : Out :=
  fpOp 5 f o (fpLat f) false true false s

/-- FMAX (R213). -/
def execFmax (f : Fmt) (o : TSyl) (s : State) : Out :=
  fpOp 6 f o (fpLat f) false true false s

/-- FDIV (R213). -/
def execFdiv (f : Fmt) (o : TSyl) (s : State) : Out :=
  fpOp 7 f o 1 true true false s

/-- FSQRT (R213). -/
def execFsqrt (f : Fmt) (o : TSyl) (s : State) : Out :=
  fpOp 8 f o 1 true false false s

/-- FNEG (R213). -/
def execFneg (f : Fmt) (o : TSyl) (s : State) : Out :=
  fpOp 9 f o (fpLat f) false false false s

/-- FABS (R213). -/
def execFabs (f : Fmt) (o : TSyl) (s : State) : Out :=
  fpOp 10 f o (fpLat f) false false false s

/-- FCPYS (R213). -/
def execFcpys (f : Fmt) (o : TSyl) (s : State) : Out :=
  fpOp 11 f o (fpLat f) false true false s

/-- PFADD (R215). -/
def execPfadd (f : PFmt) (o : TSyl) (s : State) : Out :=
  fpPacked 0 f o false s

/-- PFMUL (R215). -/
def execPfmul (f : PFmt) (o : TSyl) (s : State) : Out :=
  fpPacked 2 f o false s

/-- PFMA (R215). -/
def execPfma (f : PFmt) (o : TSyl) (s : State) : Out :=
  fpPacked 3 f o true s

/-- CVT_S_D (R216, R217). -/
def execCvtSD (o : TSyl) (s : State) : Out :=
  fpConv o (fun c a => frWord (fcvt (fmtOf .d) (fmtOf .s) c a.toNat)) s

/-- CVT_D_S (R216, R217). -/
def execCvtDS (o : TSyl) (s : State) : Out :=
  fpConv o (fun c a => frWord (fcvt (fmtOf .s) (fmtOf .d) c a.toNat)) s

/-- CVT_H_S (R216, R217). -/
def execCvtHS (o : TSyl) (s : State) : Out :=
  fpConv o (fun c a => frWord (fcvt (fmtOf .s) (fmtOf .h) c a.toNat)) s

/-- CVT_S_H (R216, R217). -/
def execCvtSH (o : TSyl) (s : State) : Out :=
  fpConv o (fun c a => frWord (fcvt (fmtOf .h) (fmtOf .s) c a.toNat)) s

/-- CVT_BF_S (R216, R217). -/
def execCvtBfS (o : TSyl) (s : State) : Out :=
  fpConv o (fun c a => frWord (fcvt (fmtOf .s) (fmtOf .bf) c a.toNat)) s

/-- CVT_S_BF (R216, R217). -/
def execCvtSBf (o : TSyl) (s : State) : Out :=
  fpConv o (fun c a => frWord (fcvt (fmtOf .bf) (fmtOf .s) c a.toNat)) s

/-- CVT_W_S (R216, R217). -/
def execCvtWS (o : TSyl) (s : State) : Out :=
  fpConv o (fun c a => fToInt (fmtOf .s) c c.rm 32 a.toNat) s

/-- TRC_W_S (R216, R217). -/
def execTrcWS (o : TSyl) (s : State) : Out :=
  fpConv o (fun c a => fToInt (fmtOf .s) c 1 32 a.toNat) s

/-- CVT_L_D (R216, R217). -/
def execCvtLD (o : TSyl) (s : State) : Out :=
  fpConv o (fun c a => fToInt (fmtOf .d) c c.rm 64 a.toNat) s

/-- TRC_L_D (R216, R217). -/
def execTrcLD (o : TSyl) (s : State) : Out :=
  fpConv o (fun c a => fToInt (fmtOf .d) c 1 64 a.toNat) s

/-- CVT_S_W (R216). -/
def execCvtSW (o : TSyl) (s : State) : Out :=
  fpConv o (fun c a => frWord (fOfInt (fmtOf .s) c (wInt a))) s

/-- CVT_D_L (R216). -/
def execCvtDL (o : TSyl) (s : State) : Out :=
  fpConv o (fun c a => frWord (fOfInt (fmtOf .d) c (sInt a))) s

/-! Exact accumulate (R218, R219, R253 to R256) -/

/-- An accumulation of products: exact, with the record bits of its special operands. -/
def accOp (o : TSyl) (f : Word → Word → Int × BitVec 5) (s : State) : Out :=
  exaOp o false [.g o.s1, .g o.s2] (o.d.toNat < 4) (fun _ p c =>
    let n : BitVec 2 := o.d.setWidth 2
    let r := f (greg p c o.s1.toNat) (greg p c o.s2.toNat)
    .inr (.res (.xadd n (BitVec.ofInt 704 r.1)) 0 4 :: (if r.2 = 0 then [] else [.res (.xrec n r.2) 0 4]))) s

/-- XMAC (R218). -/
def execXmac (f : PFmt) (o : TSyl) (s : State) : Out :=
  accOp o (fun a b => xprod (pfmtOf f) false a.toNat b.toNat) s

/-- XMSU (R218). -/
def execXmsu (f : PFmt) (o : TSyl) (s : State) : Out :=
  accOp o (fun a b => xprod (pfmtOf f) true a.toNat b.toNat) s

/-- XDOT (R218). -/
def execXdot (f : PFmt) (o : TSyl) (s : State) : Out :=
  accOp o (fun a b =>
    let w := (pfmtOf f).width
    xsum (pfmtOf f) false ((List.range (64 / w)).map fun i => (lane w a i, lane w b i))) s

/-- XCLR (R218). -/
def execXclr (o : TSyl) (s : State) : Out :=
  exaOp o false [] (o.d.toNat < 4 && o.s1 = 0 && o.s2 = 0) (fun _ _ _ =>
    let n : BitVec 2 := o.d.setWidth 2
    .inr [.res (.xclr n) 0 4, .res (.xrecClr n) 0 4]) s

/-- XRD (R218, R256). -/
def execXrd (f : Fmt) (o : TSyl) (s : State) : Out :=
  exaOp o true [] (o.s1.toNat < 4 && o.s2 = 0) (fun _ p c =>
    let n := o.s1.toNat
    .inr (resEffs o.d (frWord (xread (fmtOf f) (fctlOf (creg p c 4)) (mget c.xa n 0)
      ((creg p c 48 >>> (8 * n)).setWidth 5))) 1)) s

end Sys2Proof.Machine
end

