-- ==== Sys2Proof/Machine/Hcp.lean ====
section
/-! DEFINITION. HCP, the host control port (R575 to R595): frames, the busy rule, sessions, commands, provisioning. A command
of this file carries the payload of one request frame whose CRC is good; HCP_UNKNOWN_FRAME carries a whole frame. -/
namespace Sys2Proof.Machine

/-- Status codes of a response. -/
abbrev HS.OK : Nat := 0
abbrev HS.BUSY : Nat := 1
abbrev HS.CRC : Nat := 2
abbrev HS.LENGTH : Nat := 3
abbrev HS.UNKNOWN : Nat := 4
abbrev HS.NO_SESSION : Nat := 5
abbrev HS.AUTH : Nat := 6
abbrev HS.KILN_ONLY : Nat := 7
abbrev HS.DENIED : Nat := 8
abbrev HS.PARAM : Nat := 9
abbrev HS.SESSION_OPEN : Nat := 10
abbrev HS.PENDING : Nat := 11
abbrev HS.NOCTX : Nat := 12
abbrev HS.STREAM_BUSY : Nat := 13
abbrev HS.FLASH_TIMEOUT : Nat := 14
abbrev HS.DISABLED : Nat := 15

def hcp (s : State) : Hcp := s.io.hcp
def setHcp (s : State) (x : Hcp) : State := { s with io := { s.io with hcp := x } }
def modHcp (s : State) (f : Hcp → Hcp) : State := setHcp s (f (hcp s))
def hcpOpen (s : State) : Bool := rbit s R.HCP_STAT 3
def hcpSecure (s : State) : Bool := unitSecure s 0x1E
/-- The attributes of what a session does (R581). -/
def hcpReq (s : State) : Req := reqOf s .hcp
/-- The attributes of a request without a session (R581). -/
def hcpBare : Req := ⟨.hcp, 0x81, .normal, .n, none⟩

/-! Frames -/

/-- CRC-16 of R578. -/
def crc16 (l : List Byte) : Nat :=
  l.foldl (fun c b => (List.range 8).foldl (fun c _ =>
    if 0x8000 ≤ c then (c * 2 % 65536) ^^^ 0x1021 else c * 2) (c ^^^ (b.toNat * 256))) 0xFFFF

/-- A frame of a code and a payload. -/
def hcpFrame (cmd : Nat) (pay : List Byte) : List Byte :=
  let body := leBytes 1 cmd ++ leBytes 2 pay.length ++ pay
  0xA5 :: (body ++ leBytes 2 (crc16 body))

/-- A sticky bit of HCP_STAT; its code is logged once until it is cleared. -/
def hcpSticky (s : State) (i : Nat) (code : Option Nat) : State :=
  if rbit s R.HCP_STAT i then s
  else
    let s := rputb s R.HCP_STAT i true
    let s := if rbit s R.HCP_CFG 2 then edge s 209 else s
    match code with
    | some c => logUnit s (hcpSecure s) c 0 0
    | none => s

/-- A response is held, ready to be read (R593). -/
def hcpHold (s : State) (cmd : Nat) (pay : List Byte) : State :=
  modHcp s fun h => { h with held := some (hcpFrame ((cmd ||| 0x80) % 256) pay) }

/-- A request discards a response that is held unread (R593). -/
def hcpArrive (s : State) : State :=
  if (hcp s).held.isSome then
    hcpSticky (modHcp s fun h => { h with held := none, reset := if h.run.isSome then h.reset else none }) 7 none
  else s

/-- A command begins: its status and response are known so far as they are given, and it stays until HCP_COMMAND_DONE. -/
def hcpRun (s : State) (cmd : Nat) (seq : Option (BitVec 32)) (status : Nat) (body : List Byte) : State :=
  let x : HcpRun := { cmd := cmd, seq := seq, start := (dtbNs s).toNat, status := BitVec.ofNat 8 status, body := body, waits := 0 }
  rputb (modHcp s fun h => { h with run := some x }) R.HCP_STAT 5 true

/-- The BUSY answer (R580): the running code, its progress, which is a free value, and the milliseconds so far. -/
def hcpBusy (s : State) (cmd running start : Nat) : State :=
  let (v, s) := freeWord s
  hcpHold s cmd (leBytes 1 HS.BUSY ++ leBytes 1 running ++ leBytes 1 (v.toNat % 101) ++
    leBytes 2 (((dtbNs s).toNat - start) / 1000000))

/-- HCP takes frames. -/
def hcpLive (s : State) : Bool := outOfReset s

/-- The code that a request finds running: BOOT until the output gate opens, KILN apart (R76, R580). -/
def hcpRunning (s : State) : Option (Nat × Nat) :=
  if !(gateIsOpen s) && !(isKiln s) then some (0xF0, 0) else (hcp s).run.map fun x => (x.cmd, x.start)

/-- A request frame of code `cmd` with a good CRC: the busy rule, then `f`. -/
def hcpRequest (s : State) (cmd : Nat) (f : State → State) : State :=
  if !(hcpLive s) then s
  else
    let s := hcpArrive s
    match hcpRunning s with
    | some (c, start) => hcpBusy s cmd c start
    | none => f s

/-! Sessions -/

/-- A rejected proof, SEQ or TAG is counted and logged. -/
def hcpAuthFail (s : State) : State := logUnit (rcount s R.HCP_AUTHERR 1) (hcpSecure s) Code.HCP_AUTH_FAIL 0 0

/-- SEQ and TAG of a session request (R584): its body, and the SEQ. -/
def hcpTagOk (s : State) (cmd : Nat) (b : List Byte) : Bool :=
  let n := b.length
  decide (fieldAt b 0 4 = (hcp s).seq + 1) &&
  aesCmac (hcp s).reqKey (leBytes 1 cmd ++ leBytes 2 n ++ b.take (n - 16)) == b.drop (n - 16)

/-- A command that needs a session (R584, R595): `ok` says which body lengths the command takes. -/
def hcpSession (s : State) (cmd : Nat) (b : List Byte) (ok : Nat → Bool)
    (f : State → BitVec 32 → List Byte → State) : State :=
  hcpRequest s cmd fun s =>
    if rbit s R.HCP_CFG 0 then hcpRun s cmd none HS.DISABLED []
    else if !(hcpOpen s) then hcpRun s cmd none HS.NO_SESSION []
    else if b.length < 20 ∨ !(ok (b.length - 20)) then hcpRun s cmd none HS.LENGTH []
    else if !(hcpTagOk s cmd b) then hcpRun (hcpAuthFail s) cmd none HS.AUTH []
    else
      let q := BitVec.ofNat 32 (fieldAt b 0 4)
      f (modHcp s fun h => { h with seq := q.toNat, used := (dtbNs s).toNat }) q (sub b 4 (b.length - 20))

/-- A Copper context for the running command, or NOCTX with holder and world (R115). -/
def hcpCtx (s : State) (cmd : Nat) (seq : Option (BitVec 32)) (r : Req) (f : State → State) : State :=
  let (t, v) := cxClaim s r
  if v.toNat % 16 = 15 then hcpRun s cmd seq HS.NOCTX (leBytes 1 (bits v 31 24) ++ leBytes 1 (bits v 23 23))
  else
    let t := f t
    modHcp t fun h => { h with run := h.run.map fun x => { x with cx := some (v.toNat % 16) } }

/-- SESSION OPEN (R582). -/
def hcpSessionOpen (s : State) : State :=
  let idle := rbits s R.HCP_CFG 15 8 * 1000000000
  if hcpOpen s ∧ (dtbNs s).toNat ≤ (hcp s).used + idle then hcpRun s 0x0C none HS.SESSION_OPEN []
  else
    let s := hcpClose s
    hcpCtx s 0x0C none hcpBare fun s =>
      if !(drbgReady s) then hcpRun s 0x0C none HS.DENIED (leBytes 1 CR.NO_ENTROPY)
      else
        let (c, s) := drbgGen s 32
        let (k, s) := drbgGen s 48
        let pub := sub (Config.ecPublic 384 k) 0 97
        hcpRun (modHcp s fun h => { h with challenge := some c, eph := k, ephPub := pub }) 0x0C none HS.OK (c ++ pub)

/-- A refused proof (R583). -/
def hcpProofBad (s : State) : State :=
  let s := hcpAuthFail (modHcp s fun h => { h with challenge := none, eph := [], ephPub := [] })
  let s := { s with hcpRefused := s.hcpRefused + 1 }
  let s := if 8 ≤ s.hcpRefused then rputb s R.HCP_STAT 6 true else s
  hcpRun s 0x0C none HS.AUTH []

/-- Whether a proof holds for a challenge (R583). -/
def hcpProofOk (s : State) (b chal : List Byte) : Bool :=
  let msg := chal ++ (hcp s).ephPub ++ sub b 2064 97 ++ deviceId s
  isZero (sub b 2 6) && isZero (sub b 105 7) &&
  (match keeveRoot s (fieldAt b 1 1) with
   | some e => decide (fieldAt b 1 1 < 4) && !e.revoked && sha384 (sub b 8 0x808) == e.hash
   | none => false) &&
  Config.ecdsaVerify 384 (sub b 8 97) (sha384 msg) (sub b 2161 96) && Config.mlDsaVerify (sub b 112 1952) msg (sub b 2257 3309)

/-- SESSION PROVE (R583). -/
def hcpProve (s : State) (b : List Byte) : State :=
  hcpCtx s 0x0C none hcpBare fun s =>
    match (hcp s).challenge with
    | none => hcpProofBad s
    | some chal =>
      if !(hcpProofOk s b chal) then hcpProofBad s
      else match Config.ecdh 384 (hcp s).eph (sub b 2064 97) with
      | none => hcpProofBad s
      | some z =>
        let s := modHcp s fun h => { h with
          challenge := none, eph := [], ephPub := [], reqKey := kdf384 z (ascii "HCPREQ") chal 32,
          rspKey := kdf384 z (ascii "HCPRSP") chal 32, seq := 0, root := fieldAt b 1 1, used := (dtbNs s).toNat }
        let s := rput s R.HCP_STAT 4 3 (1 + 2 * b2n (hcpSecure s))
        hcpRun (logUnit s (hcpSecure s) Code.HCP_SESSION 1 0) 0x0C none HS.OK []

/-- A SESSION request (R581 to R585, R595); the code that its sub-code names is `f`. -/
def hcpSess (s : State) (b : List Byte) (sc len : Nat) (f : State → State) : State :=
  hcpRequest s 0x0C fun s =>
    if rbit s R.HCP_CFG 0 then hcpRun s 0x0C none HS.DISABLED []
    else if rbit s R.HCP_STAT 6 then hcpRun s 0x0C none HS.AUTH []
    else if b.length = 0 then hcpRun s 0x0C none HS.LENGTH []
    else if fieldAt b 0 1 = 0 ∨ 3 < fieldAt b 0 1 then hcpRun s 0x0C none HS.UNKNOWN []
    else if fieldAt b 0 1 ≠ sc ∨ b.length ≠ len then hcpRun s 0x0C none HS.LENGTH []
    else f s

/-- SESSION_OPEN (R582). -/
def execSessionOpen (b : List Byte) (s : State) : Out := .next (hcpSess s b 1 1 hcpSessionOpen)

/-- SESSION_PROVE (R583). -/
def execSessionProve (b : List Byte) (s : State) : Out := .next (hcpSess s b 2 5566 fun s => hcpProve s b)

/-- SESSION_CLOSE (R585). -/
def execSessionClose (b : List Byte) (s : State) : Out :=
  .next (hcpSess s b 3 1 fun s =>
    if hcpOpen s then hcpRun (hcpClose s) 0x0C none HS.OK [] else hcpRun s 0x0C none HS.NO_SESSION [])

/-- HCP_SESSION_IDLE_TIMEOUT (R582, R585). -/
def execHcpSessionIdleTimeout (s : State) : Out := .next (hcpClose s)

/-! Commands without a session -/

/-- A request without a session whose body has the length that `ok` takes. -/
def hcpPlain (s : State) (cmd : Nat) (b : List Byte) (ok : Nat → Bool) (f : State → State) : State :=
  hcpRequest s cmd fun s => if ok b.length then f s else hcpRun s cmd none HS.LENGTH []

/-- HCP_IDENT (R586). -/
def execHcpIdent (b : List Byte) (s : State) : Out :=
  .next (hcpPlain s 0x01 b (· = 0) fun s =>
    hcpRun s 0x01 none HS.OK (leBytes 4 (syscon_id s) ++ deviceId s ++ leBytes 1 (lifecycle s) ++ [1] ++ leBytes 4 (caps s 0) ++
      leBytes 4 (caps s 1)))

/-- HCP_STATUS (R580, R586). -/
def execHcpStatus (b : List Byte) (s : State) : Out :=
  .next (hcpPlain s 0x02 b (· = 0) fun s =>
    let r := reqOf s .own
    hcpRun s 0x02 none HS.OK (leBytes 4 (rget s R.AON_BOOT_STATUS).toNat ++ leBytes 1 (pccMode s) ++
      leBytes 1 (sysRead s r R.SYSCON_PROMISE (mask 31 0)).2.toNat ++ leBytes 4 (rget s R.STEEP_RETIRED).toNat ++
      leBytes 4 (rget s R.HCP_STAT).toNat))

/-- The next entries of ring r from a full index on: the entries and the index after them (R625). -/
def logTake (s : State) (r : Nat) : Nat → Nat → List Byte × Nat
  | 0, ix => ([], ix)
  | n + 1, ix =>
    match ringAt s r ix with
    | none => ([], ix)
    | some e =>
      let x := logTake s r n (e.seq.toNat + 1)
      (((List.range 4).map fun j => leBytes 8 (e.dw j).toNat).flatten ++ x.1, x.2)

/-- The body of LOGREAD: ring, first index within the latest 2^16 entries, count (R586, R625). -/
def hcpLog (s : State) (seq : Option (BitVec 32)) (b : List Byte) : State :=
  let r := fieldAt b 0 1
  let n := fieldAt b 3 1
  if 2 < r ∨ n = 0 ∨ 128 < n then hcpRun s 0x03 seq HS.PARAM []
  else
    let ws := lget s r 0
    let back := (ws + 65536 - fieldAt b 1 2) % 65536
    let x := logTake s r n (ws - back)
    hcpRun s 0x03 seq HS.OK (x.1 ++ leBytes 2 x.2)

/-- HCP_LOGREAD (R586, R595, R625): the normal ring without a session, any ring with one. -/
def execHcpLogread (b : List Byte) (s : State) : Out :=
  .next (if b.length = 4 ∧ fieldAt b 0 1 = 0 then hcpRequest s 0x03 fun s => hcpLog s none b
    else if b.length = 4 ∧ !(rbit s R.HCP_CFG 0) then hcpRequest s 0x03 fun s => hcpRun s 0x03 none HS.NO_SESSION []
    else hcpSession s 0x03 b (· = 4) fun s q b => hcpLog s (some q) b)

/-- HCP_ATTEST (R145, R586). -/
def execHcpAttest (b : List Byte) (s : State) : Out :=
  .next (hcpPlain s 0x07 b (· = 32) fun s =>
    hcpCtx s 0x07 none hcpBare fun s =>
      match attestKey s with
      | none => hcpRun s 0x07 none HS.DENIED (leBytes 1 CR.NO_KEY)
      | some k =>
        if !(drbgReady s) then hcpRun s 0x07 none HS.DENIED (leBytes 1 CR.NO_ENTROPY)
        else
          let (r, s) := drbgGen s 48
          let rep := attestReport s b
          hcpRun s 0x07 none HS.OK (rep ++ sub (Config.ecdsaSign 384 k (sha384 rep) r) 0 96))

/-! Commands of a session -/

/-- HCP_MODE (R586, R598). -/
def execHcpMode (b : List Byte) (s : State) : Out :=
  .next (hcpSession s 0x04 b (· = 1) fun s q b =>
    let t := fieldAt b 0 1
    if 4 < t then hcpRun s 0x04 (some q) HS.PARAM []
    else
      let sec := hcpSecure s
      let s := modeRequest s sec false t
      hcpRun s 0x04 (some q) HS.OK (leBytes 1 (if sec then s.pcc.ansS else s.pcc.ansN)))

/-- Every tun tested in KILN: a result is 1 to 3 as STEEP_STATUS.LAST codes it, and the spec leaves it to the silicon (R589). -/
def kilnTest (s : State) : State × List Byte :=
  (aliveTuns s).foldl (fun st p =>
    let (v, t) := freeWord st.1
    (t, st.2 ++ leBytes 1 p ++ leBytes 1 (1 + v.toNat % 3))) (s, [])

/-- SELFTEST of tun p: the request of R364, unless one is pending (R589). -/
def hcpSelftest (s : State) (q : Option (BitVec 32)) (p : Nat) : State :=
  if !(hcpSecure s) then hcpRun s 0x05 q HS.DENIED (leBytes 1 (busErrNum .worldDenied))
  else if !(aliveTuns s).contains p then hcpRun s 0x05 q HS.PARAM []
  else if s.steep.direct.isSome then hcpRun s 0x05 q HS.PENDING []
  else
    let s := steepDirect s ⟨word (p + 0x100), ~~~ 0#64⟩
    modHcp (hcpRun s 0x05 q HS.OK []) fun h => { h with run := h.run.map fun x => { x with waits := 3, n := p } }

/-- HCP_SELFTEST (R589). -/
def execHcpSelftest (b : List Byte) (s : State) : Out :=
  .next (hcpSession s 0x05 b (· = 1) fun s q b =>
    let p := fieldAt b 0 1
    if p = 0xFF then
      if isKiln s then let (s, l) := kilnTest s; hcpRun s 0x05 (some q) HS.OK l
      else hcpRun s 0x05 (some q) HS.KILN_ONLY []
    else hcpSelftest s (some q) p)

/-- The k descriptors written from TAIL on, until one is refused. -/
def hcpOrderWrite (s : State) (r : Req) (n k : Nat) (l : List Byte) : State × Option BusErr :=
  let tail := rbits s (R.ORDER_QPTR n) 15 8 + (mget s.doors n []).foldl (· + ·) 0
  (List.range k).foldl (fun (st : State × Option BusErr) j =>
    match st.2 with
    | some e => (st.1, some e)
    | none =>
      memWrite st.1 r (rbits s (R.ORDER_QRING n) 39 6 * 64 + (tail + j) % queueSize s n * 64) (sub l (64 * j) 64)) (s, none)

/-- HCP_ORDER (R586, R588). -/
def execHcpOrder (b : List Byte) (s : State) : Out :=
  .next (hcpSession s 0x06 b (fun n => decide (2 ≤ n) && decide ((n - 2) % 64 = 0)) fun s q b =>
    let n := fieldAt b 0 1
    let k := fieldAt b 1 1
    let q := some q
    if 32 ≤ n ∨ k = 0 ∨ 16 < k then hcpRun s 0x06 q HS.PARAM []
    else if b.length ≠ 2 + 64 * k then hcpRun s 0x06 q HS.LENGTH []
    else
      let r := hcpReq s
      match unitCheck s r (R.ORDER_QDOOR n) 4 true with
      | some e => hcpRun (refuse s r (R.ORDER_QDOOR n) e) 0x06 q HS.DENIED (leBytes 1 (busErrNum e))
      | none =>
        if (List.range 64).any fun m => streamLive s m && decide (strQueue s m = n) then
          hcpRun (queueDoor s r n k) 0x06 q HS.STREAM_BUSY []
        else match hcpOrderWrite s r n k (b.drop 2) with
        | (s, some e) => hcpRun s 0x06 q HS.DENIED (leBytes 1 (busErrNum e))
        | (s, none) =>
          let (s, got, g) := doorNow s r n k
          hcpRun s 0x06 q HS.OK (leBytes 2 got ++ leBytes 8 g))

/-- A 4 KiB sector of flash erased, in one write of the session's world (R592; log entry 60). -/
def flashErase (s : State) (r : Req) (a : Nat) : State × Option BusErr :=
  match accessCheck s r a .write with
  | some e => (refuse s r a e, some e)
  | none => (writeBytes s a (List.replicate 4096 0xFF), none)

/-- HCP_FLASHWRITE (R586, R592): the data pass through a region's sealing engine. -/
def execHcpFlashwrite (b : List Byte) (s : State) : Out :=
  .next (hcpSession s 0x08 b (fun n => decide (5 ≤ n ∧ n ≤ 5 + 4096)) fun s q b =>
    let o := fieldAt b 0 4
    let q := some q
    if 0x10000000 < o + (b.length - 5) ∨ 2 ≤ fieldAt b 4 1 then hcpRun s 0x08 q HS.PARAM []
    else
      let r := hcpReq s
      let x := if fieldAt b 4 1 = 1 then flashErase s r (0x60000000 + o / 4096 * 4096) else (s, none)
      let x := match x.2 with
        | some e => (x.1, some e)
        | none => memWrite x.1 r (0x60000000 + o) (b.drop 5)
      match x with
      | (s, some e) => hcpRun s 0x08 q HS.DENIED (leBytes 1 (busErrNum e))
      | (s, none) => hcpRun s 0x08 q HS.OK [])

/-- What KEEVEWRITE asks of Keeve, or the result that refuses it (R94, R98, R99). -/
def hcpKeeveOp (s : State) (b : List Byte) : Sum Nat KeeveReq :=
  let o := fieldAt b 0 4
  let l := b.drop 5
  if o < 0xC000 ∨ 0x40000 ≤ o then .inl KR.DENIED
  else if fieldAt b 4 1 = 2 then .inr (.erase (o / 4096))
  else if o % 8 ≠ 0 ∨ 0x40000 < o + l.length then .inl KR.DENIED
  else if (List.range l.length).any (fun i => mget s.keeve.data (o + i) 0xFF ≠ 0xFF) then .inl KR.NOT_ERASED
  else .inr (.program o l)

/-- The operation is issued while Keeve is idle; its run waits for its end. -/
def hcpKeeveIssue (s : State) (b : List Byte) : State :=
  let setRun (s : State) (f : HcpRun → HcpRun) : State := modHcp s fun h => { h with run := h.run.map f }
  match hcpKeeveOp s b with
  | .inl n => setRun (keeveResult s n) fun x => { x with waits := 0, status := BitVec.ofNat 8 HS.DENIED, body := leBytes 1 n }
  | .inr k => setRun (keeveStart s k) fun x => { x with waits := 2, body := leBytes 1 KR.OK }

/-- HCP_KEEVEWRITE (R586). -/
def execHcpKeevewrite (b : List Byte) (s : State) : Out :=
  .next (hcpSession s 0x09 b (fun n => decide (5 ≤ n)) fun s q b =>
    let op := fieldAt b 4 1
    let n := b.length - 5
    let q := some q
    if !(hcpSecure s) then hcpRun s 0x09 q HS.DENIED (leBytes 1 KR.DENIED)
    else if op = 0 ∨ 2 < op then hcpRun s 0x09 q HS.PARAM []
    else if (op = 2 ∧ n ≠ 0) ∨ (op = 1 ∧ (n < 8 ∨ 256 < n ∨ n % 8 ≠ 0)) then hcpRun s 0x09 q HS.LENGTH []
    else
      let s := hcpRun s 0x09 q HS.OK []
      if s.keeve.running.isSome then
        modHcp s fun h => { h with run := h.run.map fun x => { x with waits := 1, arg := b } }
      else hcpKeeveIssue s b)

/-- HCP_RESET (R586): the reset follows the response. -/
def execHcpReset (b : List Byte) (s : State) : Out :=
  .next (hcpSession s 0x0B b (· = 1) fun s q b =>
    let k := fieldAt b 0 1
    if k = 0 ∨ 2 < k then hcpRun s 0x0B (some q) HS.PARAM []
    else hcpRun (modHcp s fun h => { h with reset := some (decide (k = 2)), resetRead := false }) 0x0B (some q) HS.OK [])

/-- HCP_RESET_START (R20, R586): 100 µs after the response has been read. -/
def execHcpResetStart (s : State) : Out :=
  let h := hcp s
  match (if h.resetRead then h.reset else none) with
  | some true => .next (coldReset s Cause.HCP false)
  | some false => .next (warmReset s Cause.HCP)
  | none => .next s

/-! READ and WRITE (R587) -/

/-- The answer to a READ once it can be carried out. -/
def hcpReadNow (s : State) (b : List Byte) : State × Nat × List Byte :=
  let n := fieldAt b 8 1
  match busRead s (hcpReq s) (fieldAt b 0 8) n with
  | (s, .inr l) => (s, HS.OK, sub l 0 n ++ [0])
  | (s, .inl e) => (s, HS.DENIED, leBytes 1 (busErrNum e))

/-- The answer to a WRITE once it can be carried out. -/
def hcpWriteNow (s : State) (b : List Byte) : State × Nat × List Byte :=
  match busWrite s (hcpReq s) (fieldAt b 0 8) (sub b 9 (fieldAt b 8 1)) with
  | (s, none) => (s, HS.OK, [0])
  | (s, some e) => (s, HS.DENIED, leBytes 1 (busErrNum e))

/-- An access through a remote window waits for its answer; any other is made at once. -/
def hcpAccess (s : State) (cmd : Nat) (q : Option (BitVec 32)) (b : List Byte) (write : Bool) : State :=
  let a := fieldAt b 0 8
  let n := fieldAt b 8 1
  if (n ≠ 4 ∧ n ≠ 8) ∨ 2 ^ 40 ≤ a ∨ a % n ≠ 0 then hcpRun s cmd q HS.PARAM []
  else
    let r := hcpReq s
    let s := remStart s r a n (if write then some (sub b 9 n) else none)
    if busWaits s r a n write then
      modHcp (hcpRun s cmd q HS.OK []) fun h => { h with run := h.run.map fun x => { x with waits := 4, arg := b } }
    else
      let x := if write then hcpWriteNow s b else hcpReadNow s b
      hcpRun x.1 cmd q x.2.1 x.2.2

/-- HCP_READ (R587). -/
def execHcpRead (b : List Byte) (s : State) : Out :=
  .next (hcpSession s 0x0D b (· = 9) fun s q b => hcpAccess s 0x0D (some q) b false)

/-- HCP_WRITE (R587). -/
def execHcpWrite (b : List Byte) (s : State) : Out :=
  .next (hcpSession s 0x0E b (fun n => decide (13 ≤ n)) fun s q b =>
    if b.length ≠ 9 + fieldAt b 8 1 then hcpRun s 0x0E (some q) HS.LENGTH [] else hcpAccess s 0x0E (some q) b true)

/-! PROVISION (R590) and LOAD (R591), in KILN only -/

/-- A command of KILN. -/
def hcpKiln (s : State) (cmd : Nat) (f : State → State) : State :=
  hcpRequest s cmd fun s => if isKiln s then f s else hcpRun s cmd none HS.KILN_ONLY []

/-- The result of a PROVISION sub-command. -/
def provEnd (s : State) (ok : Bool) (more : List Byte) : State :=
  hcpRun s 0x0A none (if ok then HS.OK else HS.DENIED) (leBytes 1 (b2n !ok) ++ more)

/-- A PROVISION sub-command: the first byte of the body names it. -/
def hcpProv (s : State) (b : List Byte) (sc : Nat) (ok : Nat → Bool) (f : State → State) : State :=
  hcpKiln s 0x0A fun s =>
    if fieldAt b 0 1 ≠ sc then hcpRun s 0x0A none (if b.length = 0 then HS.LENGTH else HS.UNKNOWN) []
    else if ok b.length then f s else hcpRun s 0x0A none HS.LENGTH []

/-- A write of a system record that PROVISION asks of Keeve. -/
def provKeeve (s : State) (k : KeeveReq) : State :=
  modHcp (provEnd (keeveAsk s k false) true []) fun h => { h with run := h.run.map fun x => { x with waits := 2 } }

/-- PROVISION_CHALLENGE (R58, R590). -/
def execProvisionChallenge (b : List Byte) (s : State) : Out :=
  .next (hcpProv s b 1 (· = 1) fun s => let s := dbgChallenge s; provEnd s true (dbgChallengeBytes s))

/-- PROVISION_TOKEN (R59 to R62, R590). -/
def execProvisionToken (b : List Byte) (s : State) : Out :=
  .next (hcpProv s b 2 (fun n => decide (n ≤ 8192)) fun s =>
    if rbit s R.DEBUG_STATUS 8 then provEnd s false []
    else
      let s := (List.range 1024).foldl (fun s i => rset s (R.DEBUG_TOKEN i) (word (fieldAt b (1 + 8 * i) 8))) s
      let n := rbits s R.DEBUG_STATUS 7 4
      let s := tokenDone { s with dbg := { s.dbg with busy := true } }
      provEnd s (decide (rbits s R.DEBUG_STATUS 7 4 = n) && s.dbg.valid) [])

/-- Whether a transition of the lifecycle is allowed now (R54). -/
def lifecycleOk (s : State) (nx : Nat) : Bool :=
  let vendor := rbit s R.DEBUG_STATUS 3
  let maker := rbit s R.DEBUG_STATUS 2
  match lifecycle s, nx with
  | 0, 1 => s.dukWritten && !s.otp.vendorHash.isEmpty
  | 1, 2 => !(liveRoots s).isEmpty
  | 2, 3 => hcpOpen s
  | 1, 4 => vendor
  | 2, 4 | 3, 4 => vendor && maker
  | _, _ => false

/-- The OTP bit of the next state is burned; on entry to RETURNED the erasures come first (R54, R55, R57). -/
def lifecycleBurn (s : State) (nx : Nat) : State :=
  let s := if nx = 4 then
      { s with keeve := { s.keeve with licences := [] }, copper := { s.copper with attestErased := true } } else s
  dbgClose { s with otp := { s.otp with lifecycle := s.otp.lifecycle ||| (1#4 <<< (nx - 1)) } }

/-- PROVISION_LIFECYCLE (R54, R55, R590): the body names the next state. -/
def execProvisionLifecycle (b : List Byte) (s : State) : Out :=
  .next (hcpProv s b 3 (· = 2) fun s =>
    let nx := fieldAt b 1 1
    if lifecycleOk s nx then provEnd (lifecycleBurn s nx) true [] else provEnd s false [])

/-- Whether a root-key hash slot may be written (R56). -/
def rootWriteOk (s : State) (k : Nat) : Bool :=
  match lifecycle s with
  | 1 => (keeveRoot s k).isNone
  | 2 => hcpOpen s && (match keeveRoot s (hcp s).root with | some e => !e.revoked | none => false)
  | _ => false

/-- PROVISION_ROOTHASH (R56). -/
def execProvisionRoothash (b : List Byte) (s : State) : Out :=
  .next (hcpProv s b 4 (· = 50) fun s =>
    let k := fieldAt b 1 1
    if 4 ≤ k then hcpRun s 0x0A none HS.PARAM []
    else if rootWriteOk s k then provKeeve s (.root k (sub b 2 48)) else provEnd s false [])

/-- PROVISION_POLICY (R94, R590). -/
def execProvisionPolicy (b : List Byte) (s : State) : Out :=
  .next (hcpProv s b 5 (· = 13) fun s => provKeeve s (.policy (word (fieldAt b 1 8)) (fieldAt b 9 4)))

/-- PROVISION_VENDOR (R94, R590): salt and certificate, while BLANK or VENDOR. -/
def execProvisionVendor (b : List Byte) (s : State) : Out :=
  .next (hcpProv s b 6 (fun n => decide (33 ≤ n)) fun s =>
    if lifecycle s ≤ 1 then provKeeve s (.vendor (sub b 1 32) (b.drop 33)) else provEnd s false [])

/-- The record that a REPAIR names by its number in `Keeve.lost`, with its contents (log entry 61). -/
def repairReq (s : State) (b : List Byte) : Option KeeveReq :=
  let k := fieldAt b 1 2
  let l := b.drop 3
  if k ∉ s.keeve.lost then none
  else if k = 0 ∧ l.length = 12 then some (.policy (word (fieldAt l 0 8)) (fieldAt l 8 4))
  else if k / 0x100 = 1 ∧ l.length = 4 then some (.counter (k % 0x100) (fieldAt l 0 4))
  else if k / 0x100 = 2 ∧ l.length = 48 ∧ rootWriteOk s (k % 0x100) then some (.root (k % 0x100) l)
  else if k / 0x100 = 8 ∧ l.length = 256 then some (.licence (k % 0x100) l)
  else none

/-- PROVISION_REPAIR (R127, R590). -/
def execProvisionRepair (b : List Byte) (s : State) : Out :=
  .next (hcpProv s b 7 (fun n => decide (3 ≤ n)) fun s =>
    match repairReq s b with
    | some k => provKeeve s k
    | none => provEnd s false [])

/-- A LOAD command needs BOOTSEL 0b10 too. -/
def hcpLoad (s : State) (b : List Byte) (sc : Nat) (ok : Nat → Bool) (f : State → State) : State :=
  hcpKiln s 0x0F fun s =>
    if rbits s R.AON_BOOT_STATUS 1 0 ≠ 2 then hcpRun s 0x0F none HS.KILN_ONLY []
    else if fieldAt b 0 1 ≠ sc then hcpRun s 0x0F none (if b.length = 0 then HS.LENGTH else HS.UNKNOWN) []
    else if ok b.length then f s else hcpRun s 0x0F none HS.LENGTH []

/-- LOAD_CHUNK (R591). -/
def execLoadChunk (b : List Byte) (s : State) : Out :=
  .next (hcpLoad s b 1 (fun n => decide (5 ≤ n ∧ n ≤ 5 + 4096)) fun s =>
    let o := fieldAt b 1 4
    if 0x100000 < o + (b.length - 5) then hcpRun s 0x0F none HS.PARAM []
    else hcpRun (writeBytes s (0x10000000 + o) (b.drop 5)) 0x0F none HS.OK [])

/-- The result of verifying the image in boot SRAM: 0, or a reason. -/
def loadCheck (s : State) (h body : List Byte) : Nat :=
  let c := headerCheck s h body 1
  if fieldAt h 7 1 ≠ 0xFF then BR.KEY_UNKNOWN else if c ≠ 0 then c else headerSigs h

/-- LOAD_EXEC (R591): a verified vendor image runs on CC0 at M. -/
def execLoadExec (b : List Byte) (s : State) : Out :=
  .next (hcpLoad s b 2 (· = 1) fun s =>
    let h := readBytes s 0x10000000 0x1600
    let n := if fieldAt h 8 4 ≤ 0x80000 then fieldAt h 8 4 else 0
    let c := loadCheck s h (readBytes s 0x10001600 n)
    if c ≠ 0 then hcpRun s 0x0F none HS.OK (leBytes 1 c)
    else
      let s := rput (measExtend s 0 (headerDigest h)) R.PART_PHASE 1 0 1
      let s := setCore (rputb s R.SYSCON_CC_RELEASE 0 true) 0 { phase := .running, pc := fieldAt h 0x18 8 }
      hcpRun { s with boot := { s.boot with root := 4, ver1 := fieldAt h 0x10 4 } } 0x0F none HS.OK [0])

/-! Frames that are no command, ends, and reading -/

/-- Codes of R586. -/
def hcpKnown (c : Nat) : Bool := decide (1 ≤ c ∧ c ≤ 15)

/-- HCP_UNKNOWN_FRAME (R578): a whole frame with a wrong CRC, a LEN that does not fit, or an unassigned code. A frame that is
none of these is another command's. -/
def execHcpUnknownFrame (b : List Byte) (s : State) : Out :=
  let c := fieldAt b 1 1
  let n := fieldAt b 2 2
  let body := sub b 1 (3 + n)
  if fieldAt b 0 1 ≠ 0xA5 then .next s
  else if 8192 < n then .next (hcpRequest s c fun s => hcpHold s c (leBytes 1 HS.LENGTH))
  else if b.length ≠ 6 + n then .next s
  else if crc16 body ≠ fieldAt b (4 + n) 2 then
    .next (if !(hcpLive s) then s
      else hcpHold (hcpSticky (rcount (hcpArrive s) R.HCP_CRCERR 1) 24 (some Code.HCP_CRC)) 0xFF (leBytes 1 HS.CRC))
  else if !(hcpKnown c) then .next (hcpRequest s c fun s => hcpHold s c (leBytes 1 HS.UNKNOWN))
  else .next s

/-- The response of a run: in a session with SEQ and TAG (R584). -/
def hcpResponse (s : State) (x : HcpRun) : List Byte :=
  let body := if x.status = 0 ∨ x.status = BitVec.ofNat 8 HS.DENIED ∨ x.status = BitVec.ofNat 8 HS.NOCTX then x.body else []
  match x.seq with
  | none => x.status :: body
  | some q =>
    let p := leBytes 4 q.toNat ++ body
    let n := 1 + p.length + 16
    x.status :: (p ++ aesCmac (hcp s).rspKey (leBytes 1 (x.cmd + 0x80) ++ leBytes 2 n ++ [x.status] ++ p))

/-- A run ends: its context is free, its response is held, LASTCMD and LASTSTATUS keep it (R593). -/
def hcpEnd (s : State) (x : HcpRun) : State :=
  let s := match x.cx with
    | some n => cxRelease s n
    | none => s
  let s := modHcp s fun h => { h with run := none }
  let s := rput (rput (rputb s R.HCP_STAT 5 false) R.HCP_STAT 15 8 x.cmd) R.HCP_STAT 23 16 x.status.toNat
  hcpHold s x.cmd (hcpResponse s x)

/-- What a directed test's command answers (R589): `none` while it goes on. -/
def selftestEnd (s : State) (x : HcpRun) : Option HcpRun :=
  let running := (coreOf s x.n).order.isSome
  if s.steep.direct = some x.n ∨ (s.steep.swapping ∧ s.steep.out = x.n) then
    (if running then some { x with status := BitVec.ofNat 8 HS.PENDING } else none)
  else some { x with body := leBytes 1 x.n ++ leBytes 1 (rbits s R.STEEP_STATUS 12 11) }

/-- HCP_COMMAND_DONE (R580, R589, R592): the running command ends, where what it waits for has ended. -/
def execHcpCommandDone (flashOk : Bool) (s : State) : Out :=
  match (hcp s).run with
  | none => .next s
  | some x =>
    let denied (n : Nat) : HcpRun := { x with status := BitVec.ofNat 8 HS.DENIED, body := leBytes 1 n }
    match x.waits with
    | 1 => .next (if s.keeve.running.isSome then hcpEnd s (denied KR.BUSY) else hcpKeeveIssue s x.arg)
    | 2 => .next (if s.keeve.running.isSome then s else hcpEnd s x)
    | 3 => .next (match selftestEnd s x with
      | some x => hcpEnd s x
      | none => s)
    | 4 =>
      let w : Bool := x.cmd = 0x0E
      if busWaits s (hcpReq s) (fieldAt x.arg 0 8) (fieldAt x.arg 8 1) w then .next s
      else
        let y := if w then hcpWriteNow s x.arg else hcpReadNow s x.arg
        .next (hcpEnd y.1 { x with status := BitVec.ofNat 8 y.2.1, body := y.2.2 })
    | _ => .next (hcpEnd s (if x.cmd = 0x08 ∧ x.status = 0 ∧ !flashOk then
        { x with status := BitVec.ofNat 8 HS.FLASH_TIMEOUT } else x))

/-- HCP_RESPONSE_READ (R576, R577): the held response leaves whole; a RESET's wait starts (R586; log entry 9). -/
def execHcpResponseRead (s : State) : Out :=
  match (hcp s).held with
  | none => .next s
  | some l =>
    let s := { s with wire := mset s.wire 0x1E00 (l.map (·.setWidth 64)) }
    .next (modHcp s fun h => { h with held := none, resetRead := h.reset.isSome && h.run.isNone })

/-- HCP_FRAME_ABORT (R594): a frame cut short, or a run of bytes that are not SYNC. -/
def execHcpFrameAbort (badSync : Bool) (s : State) : Out :=
  let _ := badSync
  .next (if hcpLive s then hcpSticky (rcount s R.HCP_FRAMEERR 1) 25 (some Code.HCP_FRAME) else s)

end Sys2Proof.Machine
end

