-- ==== Sys2Proof/Machine/Lsu.lean ====
section
/-! DEFINITION. The L class: loads, stores, grant and sparge operations (R220 to R224). -/
namespace Sys2Proof.Machine

/-- The condition of an access at its address (R221): alignment, then a tun's own window. -/
def eaCheck (p a n : Nat) (e : Eff) : Sum Exc (List Eff) :=
  if a % n ≠ 0 then .inl { code := 0x05, eaddr := a }
  else if isTun p ∧ !(ownWindow p a n) then .inl { code := 0x06, eaddr := a }
  else .inr [e]

/-- The effective address: s1 + OFF × size (R220). -/
def effAddr (p : Nat) (c : Core) (o : ISyl) (n : Nat) : Nat :=
  (greg p c o.s1.toNat + immVal o.h.ks o.imm * BitVec.ofNat 64 n).toNat

/-- A load of n bytes (R220, R221). -/
def loadOp (o : ISyl) (n : Nat) (sgn : Bool) (ecc : Ecc) (s : State) : Out :=
  iOp o clsL [.g o.s1] true (fun _ p c => eaCheck p (effAddr p c o n) n (.load o.d (effAddr p c o n) n sgn ecc)) s

/-- A store of the low n bytes of d (R220, R221). -/
def storeOp (o : ISyl) (n : Nat) (s : State) : Out :=
  iOp o clsL [.g o.s1, .g o.d] true (fun _ p c =>
    eaCheck p (effAddr p c o n) n (.store (effAddr p c o n) n (greg p c o.d.toNat))) s

/-- LD_B (R220). -/
def execLdB (o : ISyl) (ecc : Ecc) (s : State) : Out :=
  loadOp o 1 true ecc s

/-- LD_BU (R220). -/
def execLdBu (o : ISyl) (ecc : Ecc) (s : State) : Out :=
  loadOp o 1 false ecc s

/-- LD_H (R220). -/
def execLdH (o : ISyl) (ecc : Ecc) (s : State) : Out :=
  loadOp o 2 true ecc s

/-- LD_HU (R220). -/
def execLdHu (o : ISyl) (ecc : Ecc) (s : State) : Out :=
  loadOp o 2 false ecc s

/-- LD_W (R220). -/
def execLdW (o : ISyl) (ecc : Ecc) (s : State) : Out :=
  loadOp o 4 true ecc s

/-- LD_WU (R220). -/
def execLdWu (o : ISyl) (ecc : Ecc) (s : State) : Out :=
  loadOp o 4 false ecc s

/-- LD_D (R220). -/
def execLdD (o : ISyl) (ecc : Ecc) (s : State) : Out :=
  loadOp o 8 false ecc s

/-- ST_B (R220). -/
def execStB (o : ISyl) (s : State) : Out :=
  storeOp o 1 s

/-- ST_H (R220). -/
def execStH (o : ISyl) (s : State) : Out :=
  storeOp o 2 s

/-- ST_W (R220). -/
def execStW (o : ISyl) (s : State) : Out :=
  storeOp o 4 s

/-- ST_D (R220). -/
def execStD (o : ISyl) (s : State) : Out :=
  storeOp o 8 s

/-! Grants and sparge (R222, R223) -/

/-- GPOP (R222). -/
def execGpop (o : TSyl) (ecc : Ecc) (s : State) : Out :=
  profOp o clsL true [] (o.s1 = 0) (fun _ _ _ => .inr [.gpop o.d none o.s2 ecc]) s

/-- GPOPT (R222). -/
def execGpopt (o : TSyl) (ecc : Ecc) (s : State) : Out :=
  profOp o clsL true [] true (fun _ _ _ => .inr [.gpop o.d (some o.s1) o.s2 ecc]) s

/-- GPUSH (R222). -/
def execGpush (o : TSyl) (s : State) : Out :=
  profOp o clsL true [.g o.s1] (o.d = 0)
    (fun _ p c => .inr [.gpush o.s2 (greg p c o.s1.toNat) none]) s

/-- GPUSHT (R222). -/
def execGpusht (o : TSyl) (s : State) : Out :=
  profOp o clsL true [.g o.s1, .g o.d] true
    (fun _ p c => .inr [.gpush o.s2 (greg p c o.s1.toNat) (some (greg p c o.d.toNat))]) s

/-- GLEVEL (R222). -/
def execGlevel (o : TSyl) (s : State) : Out :=
  profOp o clsL true [] (o.s1 = 0) (fun _ _ _ => .inr [.glevel o.d o.s2]) s

/-- GSPACE (R222). -/
def execGspace (o : TSyl) (s : State) : Out :=
  profOp o clsL true [] (o.s1 = 0) (fun _ _ _ => .inr [.gspace o.d o.s2]) s

/-- SPGO (R222, R268). -/
def execSpgo (o : TSyl) (s : State) : Out :=
  profOp o clsL true [.g o.s1] (o.d = 0 && o.s2.toNat < 32)
    (fun _ p c => .inr [.spgo (greg p c o.s1.toNat).toNat (o.s2.setWidth 5)]) s

/-- SPWAIT (R222, R276). -/
def execSpwait (o : TSyl) (s : State) : Out :=
  profOp o clsL true [] (o.d = 0 && o.s1 = 0 && o.s2.toNat < 32)
    (fun _ _ _ => .inr [.spwait (o.s2.setWidth 5)]) s

end Sys2Proof.Machine
end

