-- ==== Sys2Proof/Machine/Mac.lean ====
section
/-! DEFINITION. The M class, integers: multiply, accumulate, fixed point and divide (R199, R210, R211). -/
namespace Sys2Proof.Machine

/-! Multiply and accumulate (R210) -/

/-- MUL (R210). -/
def execMul (o : TSyl) (s : State) : Out :=
  binOp o clsM 3 (fun a b => (a * b, 0)) s

/-- MULH (R210). -/
def execMulh (o : TSyl) (s : State) : Out :=
  binOp o clsM 3 (fun a b => (ofInt (sInt a * sInt b / 2 ^ 64), 0)) s

/-- MULHU (R210). -/
def execMulhu (o : TSyl) (s : State) : Out :=
  binOp o clsM 3 (fun a b => (word (a.toNat * b.toNat / 2 ^ 64), 0)) s

/-- MULW (R210). -/
def execMulw (o : TSyl) (s : State) : Out :=
  binOp o clsM 3 (fun a b => (ofInt (wInt a * wInt b), 0)) s

/-- MULWU (R210). -/
def execMulwu (o : TSyl) (s : State) : Out :=
  binOp o clsM 3 (fun a b => (word (bits a 31 0 * bits b 31 0), 0)) s

/-- MAC (R210). -/
def execMac (o : TSyl) (s : State) : Out :=
  ternOp o clsM 3 (fun a b d => (d + a * b, 0)) s

/-- MSU (R210). -/
def execMsu (o : TSyl) (s : State) : Out :=
  ternOp o clsM 3 (fun a b d => (d - a * b, 0)) s

/-- MACW (R210). -/
def execMacw (o : TSyl) (s : State) : Out :=
  ternOp o clsM 3 (fun a b d => (d + ofInt (wInt a * wInt b), 0)) s

/-- PMULH (R210). -/
def execPmulh (o : TSyl) (s : State) : Out :=
  binOp o clsM 3 (fun a b => lanes2 16 (fun x y => x * y) a b) s

/-- PDOTH (R210). -/
def execPdoth (o : TSyl) (s : State) : Out :=
  ternOp o clsM 3 (fun a b d => (d + ofInt ((List.range 4).foldl (fun t i => t + laneS 16 a i * laneS 16 b i) 0), 0)) s

/-! Fixed point (R199) -/

/-- QMUL15 (R199). -/
def execQmul15 (o : TSyl) (s : State) : Out :=
  binOp o clsM 3 (fun a b => let r := qmul15 (laneS 16 a 0) (laneS 16 b 0); (ofInt r.1, qsat r.2)) s

/-- QMUL31 (R199). -/
def execQmul31 (o : TSyl) (s : State) : Out :=
  binOp o clsM 3 (fun a b => satS 32 ((wInt a * wInt b + 2 ^ 30) / 2 ^ 31)) s

/-- QMAC31 (R199). -/
def execQmac31 (o : TSyl) (s : State) : Out :=
  ternOp o clsM 3 (fun a b d => satS 64 (sInt d + wInt a * wInt b)) s

/-- QMSU31 (R199). -/
def execQmsu31 (o : TSyl) (s : State) : Out :=
  ternOp o clsM 3 (fun a b d => satS 64 (sInt d - wInt a * wInt b)) s

/-- PQMUL15 (R199). -/
def execPqmul15 (o : TSyl) (s : State) : Out :=
  binOp o clsM 3 (fun a b => lanes2S 16 (fun x y => (x * y + 2 ^ 14) / 2 ^ 15) a b) s

/-- QRND31 (R199). -/
def execQrnd31 (o : TSyl) (s : State) : Out :=
  unOp o clsM 3 (fun a => satS 32 ((sInt a + 2 ^ 30) / 2 ^ 31)) s

/-! Divide (R211): long operations -/

/-- A divide stalls the pipeline; its result is there for the first bundle after the stall (R171). -/
def divOp (o : TSyl) (f : Word → Word → Word) (s : State) : Out :=
  tReg o clsM 1 true true false (fun _ a b _ => (f a b, 0)) s

/-- DIV (R211). -/
def execDiv (o : TSyl) (s : State) : Out :=
  divOp o (fun a b => ofInt (divS 64 (sInt a) (sInt b))) s

/-- DIVU (R211). -/
def execDivu (o : TSyl) (s : State) : Out :=
  divOp o (fun a b => if b = 0 then ~~~ 0#64 else word (a.toNat / b.toNat)) s

/-- REM (R211). -/
def execRem (o : TSyl) (s : State) : Out :=
  divOp o (fun a b => ofInt (remS 64 (sInt a) (sInt b))) s

/-- REMU (R211). -/
def execRemu (o : TSyl) (s : State) : Out :=
  divOp o (fun a b => if b = 0 then a else word (a.toNat % b.toNat)) s

/-- DIVW (R211). -/
def execDivw (o : TSyl) (s : State) : Out :=
  divOp o (fun a b => ofInt (divS 32 (wInt a) (wInt b))) s

/-- DIVWU (R211). -/
def execDivwu (o : TSyl) (s : State) : Out :=
  divOp o (fun a b => if bits b 31 0 = 0 then ~~~ 0#64 else sextW (word (bits a 31 0 / bits b 31 0))) s

end Sys2Proof.Machine
end

