-- ==== Sys2Proof/Machine/Rack.lean ====
section
/-! DEFINITION. ORDER's rack mover: outputs, completion records, SAFE (R347 to R349, R355, R356, R367, R511). -/
namespace Sys2Proof.Machine

/-- The unracked order of queue n with the lowest gyle, which alone may rack (R347). -/
def rackNext (s : State) (n : Nat) : Option (Nat × JEntry) :=
  (queueOrders s n).foldl (fun (b : Option (Nat × JEntry)) e => match b with
    | none => some e
    | some x => if e.2.gyle < x.2.gyle then some e else some x) none

/-- Journal TRIED: four bits for each attempt (R340). -/
def triedBits (l : List Nat) : Nat := l.zipIdx.foldl (fun v (p, i) => v + p * 16 ^ i) 0

/-- Where the record of a gyle goes, and its ring index. -/
def recordAt (s : State) (n g : Nat) : Nat × Nat :=
  let i := g % queueSize s n
  (rbits s (R.ORDER_QCPL n) 39 5 * 32 + i * 32, i)

/-- The 32 bytes of a completion record. -/
def recordBytes (s : State) (n : Nat) (e : JEntry) (status cause out : Nat) : List Byte :=
  let now := (dtbNs s).toNat
  let dl := e.f 0x28 8
  leBytes 8 e.gyle ++ leBytes 8 now ++ leBytes 1 status ++ leBytes 1 cause ++ leBytes 1 e.sw.toNat ++ leBytes 1 e.attempts ++
    leBytes 2 (triedBits e.tried) ++ leBytes 1 (b2n (dl ≠ 0 ∧ dl < now) + 2 * b2n e.replayed) ++ [0] ++ leBytes 4 out ++
    leBytes 4 (recordAt s n e.gyle).2

/-- The copy of step 2, line by line of the destination, until a write is refused: the bytes copied and the refusal. -/
def rackCopy (s : State) (r : Req) (src dst len : Nat) : State × Nat × Option BusErr :=
  (linePieces dst len).foldl (fun (st : State × Nat × Option BusErr) p =>
    match st.2.2 with
    | some _ => st
    | none =>
      match memRead st.1 r (src + (p.1 - dst)) p.2 .read with
      | (s, .inl e) => (s, st.2.1, some e)
      | (s, .inr l) => match memWrite s r p.1 l with
        | (s, none) => (s, st.2.1 + p.2, none)
        | (s, some e) => (s, st.2.1, some e)) (s, 0, none)

/-- A staging bank fails while an order racks: it is re-run under R351 with cause ECC_UNCORRECTED. -/
def rackEcc (s : State) (j : Nat) (e : JEntry) : State :=
  let e := { e with cause := 2, proc := none, record := [] }
  let s := logOrder s e.queue Code.ORDER_RERUN e.gyle
  if 3 ≤ e.attempts then logOrder (setJ s j { e with st := .staged, failed := true }) e.queue Code.ORDER_FAILED e.gyle
  else if untriedTun s e e.tried then setJ s j { e with st := .accepted }
  else logNoTun (setJ s j { e with st := .staged, failed := true, cause := 13 }) e.queue 2 e.gyle

/-- The record of an order is given to the destination ring. -/
def rackRecord (s : State) (n j : Nat) (e : JEntry) (status cause out : Nat) : State :=
  let b := recordBytes s n e status cause out
  let s := setJ s j { e with st := .racking, record := b }
  remStart s (orderReq s n) (recordAt s n e.gyle).1 32 (some b)

/-- An order's outputs are copied and its record follows; a remote destination is waited for. -/
def rackRun (s : State) (n j : Nat) (e : JEntry) : State :=
  let len := e.f 0x20 4
  let dst := e.f 0x18 8
  let src := (stagingSlot s n e.gyle).1
  let r := orderReq s n
  let s := setJ s j { e with st := .racking }
  let s := match memRead s r src len .read with | (t, .inr l) => remStart t r dst len (some l) | (t, .inl _) => t
  if busWaits s r dst len true then s
  else match rackCopy s r src dst len with
  | (s, _, none) => rackRecord s n j e 0 0 len
  | (s, k, some _) => rackRecord (logOrder s n Code.RACK_DENIED e.gyle) n j e 1 14 k

/-- The rack mover takes the next order of queue n: `ecc` is what it finds in the staging slot, `jbad` an uncorrectable
journal entry (R347, R349, R356, R367). -/
def orderRack (s : State) (n : Nat) (ecc : Ecc) (jbad : Bool) : State :=
  match (if rbit s R.ORDER_CTRL 0 then rackNext s n else none) with
  | none => s
  | some (j, e) =>
    if (e.st ≠ .staged ∧ e.st ≠ .racking) ∨ e.record ≠ [] then s
    else if jbad then
      let (v, s) := freeWord s
      let bad : JEntry := { e with
        sw := v.setWidth 8, attempts := bits v 9 8, tried := [bits v 15 12], replayed := bit v 16, d := [] }
      rackRecord s n j bad 1 12 0
    else if e.failed then rackRecord s n j e 1 e.cause 0
    else if e.barrier then (if mget s.safeWait n [] = [] then rackRecord s n j e 2 0 0 else s)
    else if !e.rackable ∨ e.f 0x20 4 = 0 then rackRecord s n j e 0 0 0
    else
      let src := (stagingSlot s n e.gyle).1
      match ecc with
      | .uncorrected => rackEcc (eccFatal s src 0xFE (oqWorld s n)) j e
      | .corrected => rackRun (eccCorrected s src) n j e
      | .good => rackRun s n j e

/-- ORDER_RACK (R347, R349, R356, R367). -/
def execOrderRack (n : Fin 32) (ecc : Ecc) (jbad : Bool) (s : State) : Out := .next (orderRack s n ecc jbad)

/-! SAFE (R355, R511) -/

/-- SAFE passes every gyle at the front that flushes nothing. -/
def safeAdvance (s : State) (n : Nat) : State :=
  let l := mget s.safeWait n []
  let ok := l.takeWhile fun x => x.2.isNone
  match ok.getLast? with
  | none => s
  | some (g, _) =>
    { rset s (R.ORDER_QSAFE n) (word g) with
      safeWait := if l.length = ok.length then mdel s.safeWait n else mset s.safeWait n (l.drop ok.length) }

/-- The zero-length reads that SAFE of queue n waits for are made (R511). -/
def safeFlush (s : State) (n : Nat) : State :=
  (mget s.safeWait n []).foldl (fun s x => match x.2 with
    | some a =>
      let r := orderReq s n
      let s := { s with remote := s.remote.filter fun q =>
          !(q.is r a 0 false && (match q.answer with | some (.inl _) => true | _ => false)) }
      remAsk s r a 0 none
    | none => s) s

/-- A zero-length read of queue n's has completed, or been refused: SAFE goes on, or the read is to be made again. -/
def safeDone (s : State) (n : Nat) : State :=
  let r := orderReq s n
  let done (a : Nat) : Bool := s.remote.any fun q =>
    q.is r a 0 false && (match q.answer with | some (.inr _) => true | _ => false)
  let l := (mget s.safeWait n []).map fun x => (x.1, x.2.filter fun a => !(done a))
  let t := { s with remote := s.remote.filter fun q => !(q.id = r.id && q.world = r.world && q.len = 0 && q.answer.isSome &&
    (mget s.safeWait n []).any fun x => x.2 = some q.addr) }
  if mget s.safeWait n [] = [] then s else safeAdvance { t with safeWait := mset t.safeWait n l } n

/-- Every queue's SAFE after a completion over PCIe. -/
def safeAll (s : State) : State := (List.range 32).foldl safeDone s

/-- The last address that an order wrote through the outbound window. -/
def flushAddr (s : State) (e : JEntry) (copied : Nat) : Option Nat :=
  let a := e.f 0x18 8 + copied - 1
  if 0 < copied ∧ regionOf s a = .pcieOut then some a else none

/-- The record's write is acknowledged: the order is racked (R347, R348, R355). -/
def orderRacked (s : State) (n : Nat) : State :=
  match rackNext s n with
  | none => s
  | some (j, e) =>
    if e.record = [] then s
    else
      let r := orderReq s n
      let a := (recordAt s n e.gyle).1
      if busWaits s r a 32 true then s
      else
        let s := (memWrite s r a e.record).1
        let status := fieldAt e.record 0x10 1
        let copied := fieldAt e.record 0x18 4
        let s := { s with journal := mdel s.journal j }
        let s := rput s (R.ORDER_QPTR n) 7 0 (((recordAt s n e.gyle).2 + 1) % queueSize s n)
        let s := { s with safeWait := mset s.safeWait n (mget s.safeWait n [] ++ [(e.gyle, flushAddr s e copied)]) }
        let s := edge (safeFlush (safeAdvance s n) n) (20 + n)
        if status = 2 then s else streamRacked s n e.gyle (status = 0)

/-- ORDER_RACKED (R347, R348, R355, R511). -/
def execOrderRacked (n : Fin 32) (s : State) : Out := .next (orderRacked s n)

end Sys2Proof.Machine
end

