-- ==== Sys2Proof/Machine/Pcie.lean ====
section
/-! DEFINITION. PCIE: the endpoint's link, its inbound requests, the completions of outbound reads, resets of the function
(R507 to R512, R515, R516, R326). -/
namespace Sys2Proof.Machine

/-- The function exists, runs and may train: PERST_N high, the output gate open, a valid VENDOR (R76, R507). -/
def pcieMayTrain (s : State) : Bool :=
  hasPcie s && unitRuns s 0x1A && s.pcie.perstN && gateIsOpen s &&
  rbits s R.PCIE_IDS 15 0 ≠ 0 && rbits s R.PCIE_IDS 15 0 ≠ 0xFFFF

def pcieUp (s : State) : Bool := hasPcie s && rbit s R.PCIE_STAT 0

/-- PCIE_LINK_TRAIN (R507): the link comes up at a generation, on one or two lanes. -/
def execPcieLinkTrain (gen width : BitVec 2) (s : State) : Out :=
  if pcieMayTrain s ∧ !(pcieUp s) ∧ gen ≠ 0 ∧ (width = 1 ∨ width = 2) then
    let s := rput s R.PCIE_STAT 4 0 (1 + 2 * gen.toNat + 8 * width.toNat)
    .next (pcieSticky s 8 none 0)
  else .next s

/-- An inbound access is answered Unsupported Request or Completer Abort: its bit, its counter, and its code where the
refusal has none of its own (R509, R516). -/
def pcieUr (s : State) (arg : Word) : State := pcieSticky (rcount s R.PCIE_URCNT 1) 9 (some Code.PCIE_UR) arg
def pcieCa (s : State) (own : Bool) (arg : Word) : State :=
  pcieSticky (rcount s R.PCIE_CACNT 1) 10 (if own then none else some Code.PCIE_CA) arg

/-- The unit-window address that an inbound request reaches, with its size: BAR2 maps a page to each queue's doorbell and
pointers (R508); `inl` is the answer to one that reaches none. -/
def pcieTarget (bar2 : Bool) (off : BitVec 22) (wide ok write : Bool) : Sum Bool (Nat × Nat) :=
  let n := if wide then 8 else 4
  if !ok ∨ off.toNat % n ≠ 0 then .inl true
  else if bar2 then
    if off.toNat < 0x20000 ∧ off.toNat % 0x1000 = 0 ∧ !wide then
      .inr (if write then R.ORDER_QDOOR (off.toNat / 0x1000) else R.ORDER_QPTR (off.toNat / 0x1000), 4)
    else .inl true
  else if 0x240000 ≤ off.toNat then .inl false
  else .inr (0x40000000 + off.toNat, n)

/-- PCIE_INBOUND_READ (R508, R509): the completion carries what `lastRead` then holds. -/
def execPcieInboundRead (bar2 : Bool) (off : BitVec 22) (wide : Bool) (v : Word) (ok : Bool) (s : State) : Out :=
  let _ := v
  if !(pcieUp s) then .next s
  else match pcieTarget bar2 off wide ok false with
  | .inl true => .next (pcieCa s false (off.setWidth 64))
  | .inl false => .next (pcieUr s (off.setWidth 64))
  | .inr (a, n) =>
    match busRead s (reqOf s .pcie) a n with
    | (s, .inr l) => .next { s with lastRead := word (leNat l) }
    | (s, .inl e) => .next (pcieCa s (e ≠ .regWidth) (word a))

/-- PCIE_INBOUND_WRITE (R508, R509). -/
def execPcieInboundWrite (bar2 : Bool) (off : BitVec 22) (wide : Bool) (v : Word) (ok : Bool) (s : State) : Out :=
  if !(pcieUp s) then .next s
  else match pcieTarget bar2 off wide ok true with
  | .inl true => .next (pcieCa s false (off.setWidth 64))
  | .inl false => .next (pcieUr s (off.setWidth 64))
  | .inr (a, n) =>
    match busWrite s (reqOf s .pcie) a (leBytes n v.toNat) with
    | (s, none) => .next s
    | (s, some e) => .next (pcieCa s (e ≠ .regWidth) (word a))

/-- An outbound read that waits for tag `tag`. -/
def pcieWaiting (tag : Nat) (q : RemReq) : Bool := q.dev.isNone && q.tag = tag && q.answer.isNone

/-- The outbound read of a tag is answered. -/
def pcieAnswer (s : State) (tag : Nat) (x : Option (List Byte)) : State :=
  match s.remote.find? (pcieWaiting tag) with
  | none => s
  | some q =>
    let ans : Sum BusErr (List Byte) := match x with | some l => .inr (sub l 0 q.len) | none => .inl .unmappedAddr
    let s := { s with remote := s.remote.map fun y => if pcieWaiting tag y then { y with answer := some ans } else y }
    if x.isSome then s else pcieOutRefused s q.id q.world q.addr

/-- PCIE_COMPLETION (R510, R511). -/
def execPcieCompletion (tag : Byte) (ok : Bool) (data : List Byte) (s : State) : Out :=
  .next (safeAll (pcieAnswer s tag.toNat (if ok then some data else none)))

/-- PCIE_COMPLETION_TIMEOUT (R510). -/
def execPcieCompletionTimeout (tag : Byte) (s : State) : Out :=
  .next (safeAll (pcieAnswer s tag.toNat none))

/-- Every outbound read in flight ends refused. -/
def pcieCut (s : State) : State :=
  (s.remote.filter fun q => q.dev.isNone && q.answer.isNone).foldl (fun s q => pcieAnswer s q.tag none) s

/-- The link goes down: outbound reads end, and the host's bungs break (R326, R510). -/
def pcieDown (s : State) : State :=
  if pcieUp s then bungBreakAll (pcieCut (pcieSticky (rput s R.PCIE_STAT 4 0 0) 8 none 0)) 0x80 else s

/-- What a function-level or hot reset clears (R515). -/
def pcieFunctionReset (s : State) : State :=
  let s := pcieCut s
  let s := (List.range 64).foldl (fun s i => { s with regs := mdel s.regs (R.PCIE_MSIX i) }) s
  let s := rset (rset s R.PCIE_PBA 0) R.PCIE_OUTXLAT 0
  bungBreakAll { s with pcie := { s.pcie with busMaster := false } } 0x80

/-- PCIE_FLR (R515, R326). -/
def execPcieFlr (s : State) : Out := if pcieUp s then .next (pcieFunctionReset s) else .next s

/-- PCIE_LINK_DOWN (R326). -/
def execPcieLinkDown (s : State) : Out := .next (pcieDown s)

/-- PCIE_CONFIG_REQUEST (R507, R510, R516): Bus Master Enable, PERST_N, or a request the function does not support. -/
def execPcieConfigRequest (c : PcieConf) (s : State) : Out :=
  match c with
  | .busMaster on => .next (if pcieUp s then { s with pcie := { s.pcie with busMaster := on } } else s)
  | .perst high =>
    .next (if high then { s with pcie := { s.pcie with perstN := true } }
      else if hasPcie s then
        let t := pcieFunctionReset (pcieDown s)
        { t with pcie := { t.pcie with perstN := false } }
      else { s with pcie := { s.pcie with perstN := false } })
  | .unsupported => .next (if pcieUp s then pcieUr s 0 else s)

/-- PCIE_MALFORMED_TLP (R516): a malformed TLP, or a poisoned write, is discarded. -/
def execPcieMalformedTlp (poisoned : Bool) (s : State) : Out :=
  .next (if !(pcieUp s) then s
    else if poisoned then pcieSticky (rcount s R.PCIE_POISCNT 1) 12 (some Code.PCIE_POISONED) 0
    else pcieSticky (rcount s R.PCIE_MALCNT 1) 11 (some Code.PCIE_MALFORMED) 0)

end Sys2Proof.Machine
end

