-- ==== Sys2Proof/Machine/SdkCells.lean ====
section
/-! DEFINITION. SUNDIK's cells as their target carries them out: streams, forwarded orders, memory requests, timebase
distribution, boot service (R537 to R551). -/
namespace Sys2Proof.Machine

/-- A cell of this device to device d leaves by its route (R537). -/
def sdkTo (s : State) (d : Nat) (c : List Byte) : State :=
  match routeOf s d with
  | some n => if portState s n = PS.UP ∨ portState s n = PS.BOOT then sdkSend s n c else s
  | none => logUnit s (sdkSecure s) Code.SDK_ROUTE (word d) 0

/-! Stream channels (R543, R544) -/

/-- The stamp that STAMP32 names, in this device's DTB. -/
def stampFrom (s : State) (x : Nat) : Word :=
  let now := refNs s
  let near : Int := (now : Int) + sint 32 ((x + 2 ^ 32 - now % 2 ^ 32) % 2 ^ 32)
  word (uint 64 ((near * 2 ^ 32 - epoch s) / 2 ^ 32))

/-- A STREAM cell delivered here. -/
def streamCell (s : State) (c : List Byte) : State :=
  let k := cTag c % 8
  let r := rget s (R.SDK_STR k)
  if !(bit r 1) then s
  else if bits r 4 2 ≠ cSrc c then logUnit s (sdkSecure s) Code.SDK_STREAM_STRAY (word k) 0
  else
    let m := if cSealed c then 2 else 3
    let vs := (List.range (cTag c / 32)).map fun i => word (fieldAt (cPay c) (8 * i) 8)
    portPushAll s (0xE8 + k) vs (some (stampFrom s (fieldAt (cPay c) (8 * m) 4)))

/-- CELL_STREAM (R543, R544). -/
def execCellStream (n : Fin 2) (c : List Byte) (s : State) : Out :=
  if cType c = 0x01 then .next (sdkReceive s n c streamCell) else .next s

/-- The entries that one cell may take of what grant g shows: they share a stamp (R543). -/
def streamGroup (s : State) (g m : Nat) : List GEntry :=
  let l := (grantOf s g).q.take (rlevel s g)
  match l with
  | [] => []
  | e :: _ => (l.takeWhile fun x => x.side = e.side).take m

/-- A transmit channel pops entries and sends them in one cell, while it has credit (R525, R543, R544, R552). -/
def streamSend (s : State) (k : Nat) : State :=
  let r := rget s (R.SDK_STR k)
  let c := 0xE0 + k
  let d := bits r 4 2
  match (if bit r 0 ∧ unitRuns s 0x1B then routeOf s d else none), grantBound s c false with
  | some n, some g =>
    if portState s n ≠ PS.UP ∨ mget (port s n).credit 0 0 = 0 then s
    else
      let sealed : Bool := bit r 5 || rbit s R.SDK_CFG 3
      let m := if sealed then 2 else 3
      let m := match sinkStream s c with | some x => min m (strm s x).data | none => m
      let es := streamGroup s g m
      if es = [] then s
      else
        let s := es.foldl (fun s e =>
          let t := (grantPop s g).1
          match sinkStream s c with | some x => sinkPlayed t x e.val | none => t) s
        let side := (es.head?.map GEntry.side).getD 0
        let w := if sealed then 16 else 24
        let pay := sub (es.flatMap fun e => leBytes 8 e.val.toNat) 0 w ++ leBytes 4 (refOf s side)
        sdkSend s n (mkCell 0x01 (myDev s) d sealed true (es.length * 32 + k) pay)
  | _, _ => s

/-- SDK_STREAM_SEND (R543). -/
def execSdkStreamSend (c : Fin 8) (s : State) : Out := .next (streamSend s c)

/-! Order forwarding (R542) -/

/-- Who a request from device d is, where it asks for the secure world or not (R540). -/
def sdkReq (s : State) (c : List Byte) (secure : Bool) : Req := reqOf s (.sundik (Fin.ofNat 8 (cSrc c)) secure)
/-- A request that arrived sealed from a trusted device may act for the secure world. -/
def sdkTrusted (s : State) (c : List Byte) : Bool := cSealed c && rbit s R.SDK_TRUST (cSrc c)

/-- A forwarded doorbell: the write of ORDER_QDOORn that it stands for, and its result (R338, R415). -/
def orderDoor (s : State) (c : List Byte) : State :=
  let n := cTag c
  let k := fieldAt (cPay c) 0 2
  let reply (s : State) (got g : Nat) : State :=
    sdkTo s (cSrc c) (mkCell 0x09 (myDev s) (cSrc c) (cSealed c) true n (leBytes 2 got ++ [0, 0, 0, 0, 0, 0] ++ leBytes 8 g))
  if 32 ≤ n then reply s 0 0
  else
    let r := sdkReq s c (sdkTrusted s c)
    match unitCheck s r (R.ORDER_QDOOR n) 4 true with
    | some e => reply (refuse s r (R.ORDER_QDOOR n) e) 0 0
    | none => let (s, got, g) := doorNow s r n k; reply s got g

/-- CELL_ORDER_DOOR (R542). -/
def execCellOrderDoor (n : Fin 2) (c : List Byte) (s : State) : Out :=
  if cType c = 0x08 then .next (sdkReceive s n c orderDoor) else .next s

/-- CELL_ORDER_RESULT (R542). -/
def execCellOrderResult (n : Fin 2) (c : List Byte) (s : State) : Out :=
  if cType c = 0x09 then
    .next (sdkReceive s n c fun s c =>
      if rbits s R.SDK_OFWDSTAT 1 0 = 1 ∧ cSrc c = rbits s R.SDK_OFWD 18 16 then
        rset (rset s R.SDK_OFWDSTAT (word (2 + (fieldAt (cPay c) 0 2 % 512) * 256))) R.SDK_OFWDGYLE (word (fieldAt (cPay c) 8 8))
      else s)
  else .next s

/-! Memory requests (R539 to R541) -/

/-- The answer to a request: data and status. -/
def memReply (s : State) (c data : List Byte) (status : Nat) : State :=
  sdkTo s (cSrc c) (mkCell 0x12 (myDev s) (cSrc c) (cSealed c) true (cTag c) (sub data 0 16 ++ leBytes 1 status))

/-- A memory request as this device carries it out. -/
def memRequest (s : State) (c : List Byte) (write : Bool) : State :=
  let p := cPay c
  let a := fieldAt p 0 5
  let n := 2 ^ min 4 (fieldAt p 5 1 % 8)
  let sec : Bool := decide (fieldAt p 5 1 / 128 = 1)
  let r := sdkReq s c sec
  if sec ∧ !(sdkTrusted s c) then memReply (refuse s r a .worldDenied) c [] (busErrNum .worldDenied)
  else if write then
    match busWrite s r a (sub p 8 n) with
    | (s, none) => memReply s c [] 0
    | (s, some e) => memReply s c [] (busErrNum e)
  else match busRead s r a n with
    | (s, .inr l) => memReply s c l 0
    | (s, .inl e) => memReply s c [] (busErrNum e)

/-- CELL_MEM_WRITE (R540). -/
def execCellMemWrite (n : Fin 2) (c : List Byte) (s : State) : Out :=
  if cType c = 0x10 then .next (sdkReceive s n c fun s c => memRequest s c true) else .next s

/-- CELL_MEM_READ (R540). -/
def execCellMemRead (n : Fin 2) (c : List Byte) (s : State) : Out :=
  if cType c = 0x11 then .next (sdkReceive s n c fun s c => memRequest s c false) else .next s

/-- A bus-error cause from its encoding (R298). -/
def busErrOf (n : Nat) : BusErr :=
  match n with
  | 1 => .absentUnit | 2 => .unmappedAddr | 3 => .firkinAccess | 4 => .worldDenied | 5 => .regionDenied
  | 6 => .sealFault | 7 => .unsealedFetch | 8 => .steeping | 9 => .retiredUnit | 10 => .regWidth
  | 11 => .keeveDirect | 12 => .cxNotHolder | 13 => .eccUncorrected | _ => .unmappedAddr

/-- CELL_MEM_RESP (R541). -/
def execCellMemResp (n : Fin 2) (c : List Byte) (s : State) : Out :=
  if cType c = 0x12 then
    .next (sdkReceive s n c fun s c =>
      let st := fieldAt (cPay c) 16 1
      { s with remote := s.remote.map fun q =>
          if q.dev = some (cSrc c) ∧ q.tag = cTag c ∧ q.answer.isNone then
            { q with answer := some (if st = 0 then .inr (sub (cPay c) 0 q.len) else .inl (busErrOf st)) }
          else q })
  else .next s

/-- SDK_REQUEST_TIMEOUT (R541). -/
def execSdkRequestTimeout (tag : Byte) (s : State) : Out :=
  let hit (q : RemReq) : Bool := q.dev.isSome && q.tag = tag.toNat && q.answer.isNone
  .next (if s.remote.any hit then
    let s := sdkSticky s R.SDK_STAT 11 7 (some Code.SDK_TIMEOUT) (word tag.toNat)
    { s with remote := s.remote.map fun q => if hit q then { q with answer := some (.inl .unmappedAddr) } else q }
  else s)

/-! Timebase distribution (R546 to R548) -/

/-- The DTB now in units of 2^-16 ns, 64 bits. -/
def now16 (s : State) : Nat := s.dtb.toNat / 2 ^ 16 % 2 ^ 64

/-- SDK_DELAY_TIMER (R546). -/
def execSdkDelayTimer (n : Fin 2) (s : State) : Out :=
  if portState s n = PS.UP then .next (sdkRaw s n 0x21 (leBytes 8 (now16 s))) else .next s

/-- CELL_DELAY_REQ (R546). -/
def execCellDelayReq (n : Fin 2) (c : List Byte) (s : State) : Out :=
  if cType c = 0x21 then
    .next (sdkReceive s n c fun s c => sdkRaw s n 0x22 (sub (cPay c) 0 8 ++ leBytes 8 (now16 s) ++ leBytes 8 (now16 s)))
  else .next s

/-- A delay sample: the first as it is, each later one with weight 1/16. -/
def delaySample (s : State) (n : Nat) (c : List Byte) : State :=
  let t (i : Nat) : Nat := fieldAt (cPay c) (8 * i) 8
  let d (a b : Nat) : Int := sint 64 ((a + 2 ^ 64 - b) % 2 ^ 64)
  let x : Int := (d (now16 s) (t 0) - d (t 2) (t 1)) / 2 + sint 32 (rget s (R.SDK_PASYM n)).toNat
  let old : Int := sint 64 (rget s (R.SDK_PDELAY n)).toNat
  let v := if (port s n).sampled then old + (x - old) / 16 else x
  rset (modPort s n fun p => { p with sampled := true }) (R.SDK_PDELAY n) (word (uint 64 v))

/-- CELL_DELAY_RESP (R546). -/
def execCellDelayResp (n : Fin 2) (c : List Byte) (s : State) : Out :=
  if cType c = 0x22 then .next (sdkReceive s n c fun s c => delaySample s n c) else .next s

/-- SDK_MARK_TIMER (R547): device 0 sends a mark out of every port that is UP. -/
def execSdkMarkTimer (s : State) : Out :=
  if rbit s R.SDK_CFG 2 ∧ numbered s ∧ myDev s = 0 then
    let pay := leBytes 8 (refNs s) ++ List.replicate 8 0 ++ leBytes 2 s.sdkMarks ++ [0]
    let s := [0, 1].foldl (fun s n => if portState s n = PS.UP then sdkRaw s n 0x20 pay else s) s
    .next { s with sdkMarks := (s.sdkMarks + 1) % 65536 }
  else .next s

/-- A mark that this device uses: a measurement while SRC is 2, and the mark goes on out of the other port (R548). -/
def timeMark (s : State) (n : Nat) (c : List Byte) : State :=
  if routeOf s 0 ≠ some n ∨ !(port s n).sampled then s
  else
    let p := cPay c
    let delay : Int := sint 64 (rget s (R.SDK_PDELAY n)).toNat
    let corr : Int := sint 64 (fieldAt p 8 8)
    let ta : Int := s.dtb.toNat / 2 ^ 16
    let e : Int := (fieldAt p 0 8 : Int) * 2 ^ 16 + corr + delay - (ta + (epoch s : Int) / 2 ^ 16)
    let s := if servoSrc s = 2 then dtbMeasure s e none else s
    if portState s (1 - n) = PS.UP then
      sdkRaw s (1 - n) 0x20 (sub p 0 8 ++ leBytes 8 (uint 64 (corr + delay)) ++ sub p 16 2 ++ leBytes 1 (fieldAt p 18 1 + 1))
    else s

/-- CELL_TIME_MARK (R548). -/
def execCellTimeMark (n : Fin 2) (c : List Byte) (s : State) : Out :=
  if cType c = 0x20 then .next (sdkReceive s n c fun s c => timeMark s n c) else .next s

/-! Boot service (R550) -/

/-- A BOOT_DATA cell. -/
def bootCell (s : State) (d off tag : Nat) (last : Bool) (l : List Byte) : List Byte :=
  mkCell 0x39 (myDev s) d false last tag (leBytes 4 off ++ l)

/-- A BOOT_REQ for this device. -/
def bootServe (s : State) (c : List Byte) : State :=
  let d := cSrc c
  let off := fieldAt (cPay c) 0 4
  let b : Bool := decide (fieldAt (cPay c) 4 1 = 1)
  let base := rbits s (if b then R.SDK_BOOTB else R.SDK_BOOTA) 39 12 * 4096
  let size := rbits s (if b then R.SDK_BOOTBSIZE else R.SDK_BOOTASIZE) 31 12 * 4096
  if !(rbit s R.SDK_BOOTCTL 0) then sdkTo s d (bootCell s d off 1 true [])
  else if size < off + 4096 then sdkTo s d (bootCell s d off 2 true [])
  else match memRead s (reqOf s .own) (base + off) 4096 .read with
  | (s, .inl _) => sdkTo s d (bootCell s d off 1 true [])
  | (s, .inr l) =>
    (List.range 171).foldl (fun s i =>
      sdkTo s d (bootCell s d (off + 24 * i) 0 (i = 170) (sub l (24 * i) (if i = 170 then 16 else 24)))) s

/-- CELL_BOOT_REQ (R550). -/
def execCellBootReq (n : Fin 2) (c : List Byte) (s : State) : Out :=
  if cType c = 0x38 then .next (sdkReceive s n c bootServe) else .next s

end Sys2Proof.Machine
end

