-- ==== Sys2Proof/Machine/Xunit.lean ====
section
/-! DEFINITION. The X class: bit fields, shifts, permutes, constants, control-register moves (R201 to R206). -/
namespace Sys2Proof.Machine

/-! Bit fields (R201) -/

/-- EXTU (R201). -/
def execExtu (o : TSyl) (s : State) : Out :=
  binOp o clsX 1 (fun a b => (bfExtU a b, 0)) s

/-- EXTS (R201). -/
def execExts (o : TSyl) (s : State) : Out :=
  binOp o clsX 1 (fun a b => (bfExtS a b, 0)) s

/-- INS (R201). -/
def execIns (o : TSyl) (s : State) : Out :=
  ternOp o clsX 1 (fun a b d => (bfIns d a b, 0)) s

/-- CLZ (R201). -/
def execClz (o : TSyl) (s : State) : Out :=
  unOp o clsX 1 (fun a => (word (clz64 a), 0)) s

/-- CTZ (R201). -/
def execCtz (o : TSyl) (s : State) : Out :=
  unOp o clsX 1 (fun a => (word (ctz64 a), 0)) s

/-- POPC (R201). -/
def execPopc (o : TSyl) (s : State) : Out :=
  unOp o clsX 1 (fun a => (word (popc64 a), 0)) s

/-- BREV (R201). -/
def execBrev (o : TSyl) (s : State) : Out :=
  unOp o clsX 1 (fun a => (brev64 a, 0)) s

/-- BSWAP (R201). -/
def execBswap (o : TSyl) (s : State) : Out :=
  unOp o clsX 1 (fun a => (bswap64 a, 0)) s

/-- BSWAPW (R201). -/
def execBswapw (o : TSyl) (s : State) : Out :=
  unOp o clsX 1 (fun a => (bswap32 a, 0)) s

/-! Shifts (R202, R203) -/

/-- SLL (R202). -/
def execSll (o : TSyl) (s : State) : Out :=
  binOp o clsX 1 (fun a b => shiftOp 0 a (shAmount 0 b)) s

/-- SRL (R202). -/
def execSrl (o : TSyl) (s : State) : Out :=
  binOp o clsX 1 (fun a b => shiftOp 1 a (shAmount 1 b)) s

/-- SRA (R202). -/
def execSra (o : TSyl) (s : State) : Out :=
  binOp o clsX 1 (fun a b => shiftOp 2 a (shAmount 2 b)) s

/-- ROL (R202). -/
def execRol (o : TSyl) (s : State) : Out :=
  binOp o clsX 1 (fun a b => shiftOp 3 a (shAmount 3 b)) s

/-- ROR (R202). -/
def execRor (o : TSyl) (s : State) : Out :=
  binOp o clsX 1 (fun a b => shiftOp 4 a (shAmount 4 b)) s

/-- SLLW (R202). -/
def execSllw (o : TSyl) (s : State) : Out :=
  binOp o clsX 1 (fun a b => shiftOp 5 a (shAmount 5 b)) s

/-- SRLW (R202). -/
def execSrlw (o : TSyl) (s : State) : Out :=
  binOp o clsX 1 (fun a b => shiftOp 6 a (shAmount 6 b)) s

/-- SRAW (R202). -/
def execSraw (o : TSyl) (s : State) : Out :=
  binOp o clsX 1 (fun a b => shiftOp 7 a (shAmount 7 b)) s

/-- SLS (R202). -/
def execSls (o : TSyl) (s : State) : Out :=
  binOp o clsX 1 (fun a b => shiftOp 8 a (shAmount 8 b)) s

/-- SRAR (R202). -/
def execSrar (o : TSyl) (s : State) : Out :=
  binOp o clsX 1 (fun a b => shiftOp 9 a (shAmount 9 b)) s

/-- SHIFTI (R203, R234). -/
def execShifti (o : ISyl) (s : State) : Out :=
  iOp o clsX [.g o.s1]
    (o.h.ks.isEmpty && o.imm.toNat / 64 < 10 && !(5 ≤ o.imm.toNat / 64 && o.imm.toNat / 64 ≤ 7 && o.imm.getLsbD 5))
    (fun _ p c => .inr (resEffs o.d (shiftOp (o.imm.toNat / 64) (greg p c o.s1.toNat) (o.imm.toNat % 64)) 1)) s

/-! Permute (R204) -/

/-- SHUFB (R204). -/
def execShufb (o : TSyl) (s : State) : Out :=
  binOp o clsX 1 (fun a b => (shufB a b, 0)) s

/-- PACKW (R204). -/
def execPackw (o : TSyl) (s : State) : Out :=
  binOp o clsX 1 (fun a b => (fromN 32 [lane 32 a 0, lane 32 b 0], 0)) s

/-- ZIPLOH (R204). -/
def execZiploh (o : TSyl) (s : State) : Out :=
  binOp o clsX 1 (fun a b => (fromN 16 [lane 16 a 0, lane 16 b 0, lane 16 a 1, lane 16 b 1], 0)) s

/-- ZIPHIH (R204). -/
def execZiphih (o : TSyl) (s : State) : Out :=
  binOp o clsX 1 (fun a b => (fromN 16 [lane 16 a 2, lane 16 b 2, lane 16 a 3, lane 16 b 3], 0)) s

/-- SPLATB (R204). -/
def execSplatb (o : TSyl) (s : State) : Out :=
  unOp o clsX 1 (fun a => (fromN 8 (List.replicate 8 (lane 8 a 0)), 0)) s

/-- SPLATH (R204). -/
def execSplath (o : TSyl) (s : State) : Out :=
  unOp o clsX 1 (fun a => (fromN 16 (List.replicate 4 (lane 16 a 0)), 0)) s

/-- SPLATW (R204). -/
def execSplatw (o : TSyl) (s : State) : Out :=
  unOp o clsX 1 (fun a => (fromN 32 (List.replicate 2 (lane 32 a 0)), 0)) s

/-- SEXTB (R204). -/
def execSextb (o : TSyl) (s : State) : Out :=
  unOp o clsX 1 (fun a => ((a.setWidth 8).signExtend 64, 0)) s

/-- SEXTH (R204). -/
def execSexth (o : TSyl) (s : State) : Out :=
  unOp o clsX 1 (fun a => ((a.setWidth 16).signExtend 64, 0)) s

/-- SEXTW (R204). -/
def execSextw (o : TSyl) (s : State) : Out :=
  unOp o clsX 1 (fun a => ((a.setWidth 32).signExtend 64, 0)) s

/-- ZEXTW (R204). -/
def execZextw (o : TSyl) (s : State) : Out :=
  unOp o clsX 1 (fun a => (a &&& mask 31 0, 0)) s

/-! Constants, addresses and control-register moves (R205, R206) -/

/-- MOVI (R205). -/
def execMovi (o : ISyl) (s : State) : Out :=
  iOp o clsX [] (o.s1 = 0) (fun _ _ _ => .inr [.res (.g o.d) (immVal o.h.ks o.imm) 1]) s

/-- ADDPC (R205). -/
def execAddpc (o : ISyl) (s : State) : Out :=
  iOp o clsX [] (o.s1 = 0) (fun _ _ c => .inr [.res (.g o.d) (word c.pc + immVal o.h.ks o.imm * 4) 1]) s

/-- What a move from control register n does (R206). -/
def mfcEffs (s : State) (p : Nat) (c : Core) (d : BitVec 6) (n : Nat) : Sum Exc (List Eff) :=
  if !(cregAssigned p n) then .inl Ill.BAD_CREG
  else if levelNum (coreLevel p c) < cregReadLevel p n then .inl { code := 0x03 }
  else if n = 36 then .inr [.mfcDtb d]
  else if n = 32 ∨ n = 34 then .inr [.mfcFree d]
  else .inr [.res (.g d) (cregRead s p c n) 1]

/-- What a move to control register n does (R173, R190): a register that takes no writes ignores it. -/
def mtcEffs (s : State) (p : Nat) (c : Core) (n : Nat) (v : Word) : Sum Exc (List Eff) :=
  if !(cregAssigned p n) then .inl Ill.BAD_CREG
  else if levelNum (coreLevel p c) < cregWriteLevel p n then .inl { code := 0x03 }
  else if cregSettles n then .inr [.settleWrite n v]
  else if n = 5 then .inr [.res .fstat v 1]
  else if n = 9 then .inr ((List.range 7).map fun i => .res (.p (BitVec.ofNat 3 (i + 1))) (if bit v (i + 1) then 1 else 0) 1)
  else if n = 1 ∨ n = 2 ∨ n = 3 ∨ n = 6 ∨ (n = 48 ∧ hasExa s) then .inr [.res (.creg n) v 1]
  else .inr []

/-- MFC (R206). -/
def execMfc (o : ISyl) (s : State) : Out :=
  iOp o clsX [.creg o.imm.toNat] (o.h.ks.isEmpty && o.s1 = 0) (fun s p c => mfcEffs s p c o.d o.imm.toNat) s

/-- MTC (R206). -/
def execMtc (o : ISyl) (s : State) : Out :=
  iOp o clsX [.g o.s1] (o.h.ks.isEmpty && o.d = 0)
    (fun s p c => mtcEffs s p c o.imm.toNat (greg p c o.s1.toNat)) s

end Sys2Proof.Machine
end

