-- ==== Sys2Proof/Machine/Dispatch.lean ====
section
/-! DEFINITION. The dispatch: one arm for each command of the table, each a call of the command's meaning. -/
namespace Sys2Proof.Machine

def exec (i : Instr) (s : State) : Host.Outcome State Fault Refusal :=
  match i with
  | .registerWrite q a => Sys2Proof.Machine.execRegisterWrite q a s
  | .vddSocPowerOn => Sys2Proof.Machine.execVddSocPowerOn s
  | .brownOut => Sys2Proof.Machine.execBrownOut s
  | .vddioAonPowerOn => Sys2Proof.Machine.execVddioAonPowerOn s
  | .resetNLow => Sys2Proof.Machine.execResetNLow s
  | .resetNRise straps testMode => Sys2Proof.Machine.execResetNRise straps testMode s
  | .swWarmReset q => Sys2Proof.Machine.execSwWarmReset q s
  | .swColdReset q => Sys2Proof.Machine.execSwColdReset q s
  | .resetScrubDone => Sys2Proof.Machine.execResetScrubDone s
  | .partReset p => Sys2Proof.Machine.execPartReset p s
  | .cc0Release q => Sys2Proof.Machine.execCc0Release q s
  | .cc1Release q => Sys2Proof.Machine.execCc1Release q s
  | .tunRelease q => Sys2Proof.Machine.execTunRelease q s
  | .sealStep1 q => Sys2Proof.Machine.execSealStep1 q s
  | .sealStep2 q => Sys2Proof.Machine.execSealStep2 q s
  | .debugChallengeRead q => Sys2Proof.Machine.execDebugChallengeRead q s
  | .debugTokenGo q => Sys2Proof.Machine.execDebugTokenGo q s
  | .debugTokenDone => Sys2Proof.Machine.execDebugTokenDone s
  | .debugLock q => Sys2Proof.Machine.execDebugLock q s
  | .jtagInstructionLoad j => Sys2Proof.Machine.execJtagInstructionLoad j s
  | .debugHaltRequest p => Sys2Proof.Machine.execDebugHaltRequest p s
  | .debugHalt p => Sys2Proof.Machine.execDebugHalt p s
  | .stage0Start mv => Sys2Proof.Machine.execStage0Start mv s
  | .bootRetryWaitExpiry => Sys2Proof.Machine.execBootRetryWaitExpiry s
  | .bootTimeoutExpiry => Sys2Proof.Machine.execBootTimeoutExpiry s
  | .linkNoServerExpiry => Sys2Proof.Machine.execLinkNoServerExpiry s
  | .bootLoadService => Sys2Proof.Machine.execBootLoadService s
  | .bootSignatureDone => Sys2Proof.Machine.execBootSignatureDone s
  | .bootConfirm q => Sys2Proof.Machine.execBootConfirm q s
  | .contextClaim q => Sys2Proof.Machine.execContextClaim q s
  | .ksImport q => Sys2Proof.Machine.execKsImport q s
  | .ksGenerate q => Sys2Proof.Machine.execKsGenerate q s
  | .ksClear q => Sys2Proof.Machine.execKsClear q s
  | .ksNarrow q => Sys2Proof.Machine.execKsNarrow q s
  | .cxAbort q n => Sys2Proof.Machine.execCxAbort q n s
  | .cxPark q n => Sys2Proof.Machine.execCxPark q n s
  | .cxResume q n => Sys2Proof.Machine.execCxResume q n s
  | .cxRelease q n => Sys2Proof.Machine.execCxRelease q n s
  | .aesCbc q n => Sys2Proof.Machine.execAesCbc q n s
  | .aesCtr q n => Sys2Proof.Machine.execAesCtr q n s
  | .aesGcm q n => Sys2Proof.Machine.execAesGcm q n s
  | .aesXts q n => Sys2Proof.Machine.execAesXts q n s
  | .aesCmac q n => Sys2Proof.Machine.execAesCmac q n s
  | .aesKw q n => Sys2Proof.Machine.execAesKw q n s
  | .aesKwp q n => Sys2Proof.Machine.execAesKwp q n s
  | .sha256 q n => Sys2Proof.Machine.execSha256 q n s
  | .sha384 q n => Sys2Proof.Machine.execSha384 q n s
  | .sha512 q n => Sys2Proof.Machine.execSha512 q n s
  | .sha3256 q n => Sys2Proof.Machine.execSha3256 q n s
  | .sha3512 q n => Sys2Proof.Machine.execSha3512 q n s
  | .shake128 q n => Sys2Proof.Machine.execShake128 q n s
  | .shake256 q n => Sys2Proof.Machine.execShake256 q n s
  | .hmac q n => Sys2Proof.Machine.execHmac q n s
  | .kdf q n => Sys2Proof.Machine.execKdf q n s
  | .deriveDev q n => Sys2Proof.Machine.execDeriveDev q n s
  | .ecdsaP256Sign q n => Sys2Proof.Machine.execEcdsaP256Sign q n s
  | .ecdsaP256Verify q n => Sys2Proof.Machine.execEcdsaP256Verify q n s
  | .ecdsaP384Sign q n => Sys2Proof.Machine.execEcdsaP384Sign q n s
  | .ecdsaP384Verify q n => Sys2Proof.Machine.execEcdsaP384Verify q n s
  | .ecdhP256 q n => Sys2Proof.Machine.execEcdhP256 q n s
  | .ecdhP384 q n => Sys2Proof.Machine.execEcdhP384 q n s
  | .ecKeyPair q n => Sys2Proof.Machine.execEcKeyPair q n s
  | .ed25519Verify q n => Sys2Proof.Machine.execEd25519Verify q n s
  | .mlDsa65Verify q n => Sys2Proof.Machine.execMlDsa65Verify q n s
  | .mlKem768Keygen q n => Sys2Proof.Machine.execMlKem768Keygen q n s
  | .mlKem768Encapsulate q n => Sys2Proof.Machine.execMlKem768Encapsulate q n s
  | .mlKem768Decapsulate q n => Sys2Proof.Machine.execMlKem768Decapsulate q n s
  | .random q n => Sys2Proof.Machine.execRandom q n s
  | .wrap q n => Sys2Proof.Machine.execWrap q n s
  | .unwrap q n => Sys2Proof.Machine.execUnwrap q n s
  | .licInstall q n => Sys2Proof.Machine.execLicInstall q n s
  | .licRemove q n => Sys2Proof.Machine.execLicRemove q n s
  | .attest q n => Sys2Proof.Machine.execAttest q n s
  | .devicePubkey q n => Sys2Proof.Machine.execDevicePubkey q n s
  | .copperMessageDone n => Sys2Proof.Machine.execCopperMessageDone n s
  | .keeveProgram q => Sys2Proof.Machine.execKeeveProgram q s
  | .keeveErase q => Sys2Proof.Machine.execKeeveErase q s
  | .keeveRecordWrite q => Sys2Proof.Machine.execKeeveRecordWrite q s
  | .keeveRevoke q => Sys2Proof.Machine.execKeeveRevoke q s
  | .keeveOpDone => Sys2Proof.Machine.execKeeveOpDone s
  | .trngHealthFail => Sys2Proof.Machine.execTrngHealthFail s
  | .trngStartupDone => Sys2Proof.Machine.execTrngStartupDone s
  | .drbgReseed => Sys2Proof.Machine.execDrbgReseed s
  | .trngOutRead q => Sys2Proof.Machine.execTrngOutRead q s
  | .reseal q => Sys2Proof.Machine.execReseal q s
  | .resealDone ix => Sys2Proof.Machine.execResealDone ix s
  | .fkLoad q => Sys2Proof.Machine.execFkLoad q s
  | .fkLoadDone => Sys2Proof.Machine.execFkLoadDone s
  | .fkStart q => Sys2Proof.Machine.execFkStart q s
  | .fkStop q => Sys2Proof.Machine.execFkStop q s
  | .fkDestroy q => Sys2Proof.Machine.execFkDestroy q s
  | .fkDestroyDone => Sys2Proof.Machine.execFkDestroyDone s
  | .resultWriteback p => Sys2Proof.Machine.execResultWriteback p s
  | .longOpStallEnd p => Sys2Proof.Machine.execLongOpStallEnd p s
  | .icacheFill p line ecc => Sys2Proof.Machine.execIcacheFill p line ecc s
  | .prefetchLine p line ecc => Sys2Proof.Machine.execPrefetchLine p line ecc s
  | .dcacheFill p line ecc => Sys2Proof.Machine.execDcacheFill p line ecc s
  | .add o => Sys2Proof.Machine.execAdd o s
  | .sub o => Sys2Proof.Machine.execSub o s
  | .addw o => Sys2Proof.Machine.execAddw o s
  | .subw o => Sys2Proof.Machine.execSubw o s
  | .min o => Sys2Proof.Machine.execMin o s
  | .max o => Sys2Proof.Machine.execMax o s
  | .minu o => Sys2Proof.Machine.execMinu o s
  | .maxu o => Sys2Proof.Machine.execMaxu o s
  | .abs o => Sys2Proof.Machine.execAbs o s
  | .absd o => Sys2Proof.Machine.execAbsd o s
  | .avg o => Sys2Proof.Machine.execAvg o s
  | .addi o => Sys2Proof.Machine.execAddi o s
  | .sel p o => Sys2Proof.Machine.execSel p o s
  | .adds o => Sys2Proof.Machine.execAdds o s
  | .subs o => Sys2Proof.Machine.execSubs o s
  | .addsw o => Sys2Proof.Machine.execAddsw o s
  | .subsw o => Sys2Proof.Machine.execSubsw o s
  | .addus o => Sys2Proof.Machine.execAddus o s
  | .subus o => Sys2Proof.Machine.execSubus o s
  | .abss o => Sys2Proof.Machine.execAbss o s
  | .negs o => Sys2Proof.Machine.execNegs o s
  | .satw o => Sys2Proof.Machine.execSatw o s
  | .sath o => Sys2Proof.Machine.execSath o s
  | .paddh o => Sys2Proof.Machine.execPaddh o s
  | .psubh o => Sys2Proof.Machine.execPsubh o s
  | .paddsh o => Sys2Proof.Machine.execPaddsh o s
  | .psubsh o => Sys2Proof.Machine.execPsubsh o s
  | .paddw o => Sys2Proof.Machine.execPaddw o s
  | .psubw o => Sys2Proof.Machine.execPsubw o s
  | .paddsw o => Sys2Proof.Machine.execPaddsw o s
  | .psubsw o => Sys2Proof.Machine.execPsubsw o s
  | .pmaxh o => Sys2Proof.Machine.execPmaxh o s
  | .pminh o => Sys2Proof.Machine.execPminh o s
  | .pabssh o => Sys2Proof.Machine.execPabssh o s
  | .qmul15 o => Sys2Proof.Machine.execQmul15 o s
  | .qmul31 o => Sys2Proof.Machine.execQmul31 o s
  | .qmac31 o => Sys2Proof.Machine.execQmac31 o s
  | .qmsu31 o => Sys2Proof.Machine.execQmsu31 o s
  | .pqmul15 o => Sys2Proof.Machine.execPqmul15 o s
  | .qrnd31 o => Sys2Proof.Machine.execQrnd31 o s
  | .and o => Sys2Proof.Machine.execAnd o s
  | .or o => Sys2Proof.Machine.execOr o s
  | .xor o => Sys2Proof.Machine.execXor o s
  | .andn o => Sys2Proof.Machine.execAndn o s
  | .orn o => Sys2Proof.Machine.execOrn o s
  | .xnor o => Sys2Proof.Machine.execXnor o s
  | .nand o => Sys2Proof.Machine.execNand o s
  | .nor o => Sys2Proof.Machine.execNor o s
  | .andi o => Sys2Proof.Machine.execAndi o s
  | .ori o => Sys2Proof.Machine.execOri o s
  | .xori o => Sys2Proof.Machine.execXori o s
  | .extu o => Sys2Proof.Machine.execExtu o s
  | .exts o => Sys2Proof.Machine.execExts o s
  | .ins o => Sys2Proof.Machine.execIns o s
  | .clz o => Sys2Proof.Machine.execClz o s
  | .ctz o => Sys2Proof.Machine.execCtz o s
  | .popc o => Sys2Proof.Machine.execPopc o s
  | .brev o => Sys2Proof.Machine.execBrev o s
  | .bswap o => Sys2Proof.Machine.execBswap o s
  | .bswapw o => Sys2Proof.Machine.execBswapw o s
  | .sll o => Sys2Proof.Machine.execSll o s
  | .srl o => Sys2Proof.Machine.execSrl o s
  | .sra o => Sys2Proof.Machine.execSra o s
  | .rol o => Sys2Proof.Machine.execRol o s
  | .ror o => Sys2Proof.Machine.execRor o s
  | .sllw o => Sys2Proof.Machine.execSllw o s
  | .srlw o => Sys2Proof.Machine.execSrlw o s
  | .sraw o => Sys2Proof.Machine.execSraw o s
  | .sls o => Sys2Proof.Machine.execSls o s
  | .srar o => Sys2Proof.Machine.execSrar o s
  | .shifti o => Sys2Proof.Machine.execShifti o s
  | .shufb o => Sys2Proof.Machine.execShufb o s
  | .packw o => Sys2Proof.Machine.execPackw o s
  | .ziploh o => Sys2Proof.Machine.execZiploh o s
  | .ziphih o => Sys2Proof.Machine.execZiphih o s
  | .splatb o => Sys2Proof.Machine.execSplatb o s
  | .splath o => Sys2Proof.Machine.execSplath o s
  | .splatw o => Sys2Proof.Machine.execSplatw o s
  | .sextb o => Sys2Proof.Machine.execSextb o s
  | .sexth o => Sys2Proof.Machine.execSexth o s
  | .sextw o => Sys2Proof.Machine.execSextw o s
  | .zextw o => Sys2Proof.Machine.execZextw o s
  | .movi o => Sys2Proof.Machine.execMovi o s
  | .addpc o => Sys2Proof.Machine.execAddpc o s
  | .mfc o => Sys2Proof.Machine.execMfc o s
  | .mtc o => Sys2Proof.Machine.execMtc o s
  | .cmp c o => Sys2Proof.Machine.execCmp c o s
  | .cmpi o => Sys2Proof.Machine.execCmpi o s
  | .cmpiu o => Sys2Proof.Machine.execCmpiu o s
  | .plog f o => Sys2Proof.Machine.execPlog f o s
  | .fcmp c f o => Sys2Proof.Machine.execFcmp c f o s
  | .mul o => Sys2Proof.Machine.execMul o s
  | .mulh o => Sys2Proof.Machine.execMulh o s
  | .mulhu o => Sys2Proof.Machine.execMulhu o s
  | .mulw o => Sys2Proof.Machine.execMulw o s
  | .mulwu o => Sys2Proof.Machine.execMulwu o s
  | .mac o => Sys2Proof.Machine.execMac o s
  | .msu o => Sys2Proof.Machine.execMsu o s
  | .macw o => Sys2Proof.Machine.execMacw o s
  | .pmulh o => Sys2Proof.Machine.execPmulh o s
  | .pdoth o => Sys2Proof.Machine.execPdoth o s
  | .div o => Sys2Proof.Machine.execDiv o s
  | .divu o => Sys2Proof.Machine.execDivu o s
  | .rem o => Sys2Proof.Machine.execRem o s
  | .remu o => Sys2Proof.Machine.execRemu o s
  | .divw o => Sys2Proof.Machine.execDivw o s
  | .divwu o => Sys2Proof.Machine.execDivwu o s
  | .fadd f o => Sys2Proof.Machine.execFadd f o s
  | .fsub f o => Sys2Proof.Machine.execFsub f o s
  | .fmul f o => Sys2Proof.Machine.execFmul f o s
  | .fma f o => Sys2Proof.Machine.execFma f o s
  | .fms f o => Sys2Proof.Machine.execFms f o s
  | .fmin f o => Sys2Proof.Machine.execFmin f o s
  | .fmax f o => Sys2Proof.Machine.execFmax f o s
  | .fdiv f o => Sys2Proof.Machine.execFdiv f o s
  | .fsqrt f o => Sys2Proof.Machine.execFsqrt f o s
  | .fneg f o => Sys2Proof.Machine.execFneg f o s
  | .fabs f o => Sys2Proof.Machine.execFabs f o s
  | .fcpys f o => Sys2Proof.Machine.execFcpys f o s
  | .pfadd f o => Sys2Proof.Machine.execPfadd f o s
  | .pfmul f o => Sys2Proof.Machine.execPfmul f o s
  | .pfma f o => Sys2Proof.Machine.execPfma f o s
  | .cvtSD o => Sys2Proof.Machine.execCvtSD o s
  | .cvtDS o => Sys2Proof.Machine.execCvtDS o s
  | .cvtHS o => Sys2Proof.Machine.execCvtHS o s
  | .cvtSH o => Sys2Proof.Machine.execCvtSH o s
  | .cvtBfS o => Sys2Proof.Machine.execCvtBfS o s
  | .cvtSBf o => Sys2Proof.Machine.execCvtSBf o s
  | .cvtWS o => Sys2Proof.Machine.execCvtWS o s
  | .trcWS o => Sys2Proof.Machine.execTrcWS o s
  | .cvtSW o => Sys2Proof.Machine.execCvtSW o s
  | .cvtLD o => Sys2Proof.Machine.execCvtLD o s
  | .trcLD o => Sys2Proof.Machine.execTrcLD o s
  | .cvtDL o => Sys2Proof.Machine.execCvtDL o s
  | .xmac f o => Sys2Proof.Machine.execXmac f o s
  | .xmsu f o => Sys2Proof.Machine.execXmsu f o s
  | .xdot f o => Sys2Proof.Machine.execXdot f o s
  | .xclr o => Sys2Proof.Machine.execXclr o s
  | .xrd f o => Sys2Proof.Machine.execXrd f o s
  | .ldB o ecc => Sys2Proof.Machine.execLdB o ecc s
  | .ldBu o ecc => Sys2Proof.Machine.execLdBu o ecc s
  | .ldH o ecc => Sys2Proof.Machine.execLdH o ecc s
  | .ldHu o ecc => Sys2Proof.Machine.execLdHu o ecc s
  | .ldW o ecc => Sys2Proof.Machine.execLdW o ecc s
  | .ldWu o ecc => Sys2Proof.Machine.execLdWu o ecc s
  | .ldD o ecc => Sys2Proof.Machine.execLdD o ecc s
  | .stB o => Sys2Proof.Machine.execStB o s
  | .stH o => Sys2Proof.Machine.execStH o s
  | .stW o => Sys2Proof.Machine.execStW o s
  | .stD o => Sys2Proof.Machine.execStD o s
  | .eccWriteback g => Sys2Proof.Machine.execEccWriteback g s
  | .gpop o ecc => Sys2Proof.Machine.execGpop o ecc s
  | .gpopt o ecc => Sys2Proof.Machine.execGpopt o ecc s
  | .gpush o => Sys2Proof.Machine.execGpush o s
  | .gpusht o => Sys2Proof.Machine.execGpusht o s
  | .glevel o => Sys2Proof.Machine.execGlevel o s
  | .gspace o => Sys2Proof.Machine.execGspace o s
  | .spgo o => Sys2Proof.Machine.execSpgo o s
  | .spwait o => Sys2Proof.Machine.execSpwait o s
  | .br o => Sys2Proof.Machine.execBr o s
  | .call o => Sys2Proof.Machine.execCall o s
  | .jr o => Sys2Proof.Machine.execJr o s
  | .jalr o => Sys2Proof.Machine.execJalr o s
  | .loop o => Sys2Proof.Machine.execLoop o s
  | .loopi o => Sys2Proof.Machine.execLoopi o s
  | .settle o => Sys2Proof.Machine.execSettle o s
  | .trap o => Sys2Proof.Machine.execTrap o s
  | .eret o => Sys2Proof.Machine.execEret o s
  | .wait o => Sys2Proof.Machine.execWait o s
  | .odone o => Sys2Proof.Machine.execOdone o s
  | .fence o => Sys2Proof.Machine.execFence o s
  | .nop k o => Sys2Proof.Machine.execNop k o s
  | .dclean o => Sys2Proof.Machine.execDclean o s
  | .dcinv o => Sys2Proof.Machine.execDcinv o s
  | .dcflush o => Sys2Proof.Machine.execDcflush o s
  | .mcall o => Sys2Proof.Machine.execMcall o s
  | .scall o => Sys2Proof.Machine.execScall o s
  | .interruptAccept p fast => Sys2Proof.Machine.execInterruptAccept p fast s
  | .normalClassEntry p => Sys2Proof.Machine.execNormalClassEntry p s
  | .fastClassEntry p => Sys2Proof.Machine.execFastClassEntry p s
  | .eicSourceEdge ix => Sys2Proof.Machine.execEicSourceEdge ix s
  | .eicPendWrite q k => Sys2Proof.Machine.execEicPendWrite q k s
  | .eicClrWrite q k => Sys2Proof.Machine.execEicClrWrite q k s
  | .eicClaimRead q p => Sys2Proof.Machine.execEicClaimRead q p s
  | .eicFclaimRead q p => Sys2Proof.Machine.execEicFclaimRead q p s
  | .eicDoneWrite q p => Sys2Proof.Machine.execEicDoneWrite q p s
  | .eicStrayClear q => Sys2Proof.Machine.execEicStrayClear q s
  | .bungAcquire q n => Sys2Proof.Machine.execBungAcquire q n s
  | .bungRelease q n => Sys2Proof.Machine.execBungRelease q n s
  | .bungBreak q => Sys2Proof.Machine.execBungBreak q s
  | .spargePost q c => Sys2Proof.Machine.execSpargePost q c s
  | .spargeTransferStart c ix => Sys2Proof.Machine.execSpargeTransferStart c ix s
  | .spargeBurst c ix ecc inDst => Sys2Proof.Machine.execSpargeBurst c ix ecc inDst s
  | .spargeGrantWaitEnd c ix => Sys2Proof.Machine.execSpargeGrantWaitEnd c ix s
  | .spargeDescComplete c => Sys2Proof.Machine.execSpargeDescComplete c s
  | .spargeChainNext c ix => Sys2Proof.Machine.execSpargeChainNext c ix s
  | .spargeAbort q c => Sys2Proof.Machine.execSpargeAbort q c s
  | .queueEnable q n => Sys2Proof.Machine.execQueueEnable q n s
  | .queueDisable q n => Sys2Proof.Machine.execQueueDisable q n s
  | .gyleWrite q n => Sys2Proof.Machine.execGyleWrite q n s
  | .orderDoorbell q n => Sys2Proof.Machine.execOrderDoorbell q n s
  | .orderAccept n => Sys2Proof.Machine.execOrderAccept n s
  | .orderClaim t => Sys2Proof.Machine.execOrderClaim t s
  | .attemptStart t => Sys2Proof.Machine.execAttemptStart t s
  | .attemptEnd t => Sys2Proof.Machine.execAttemptEnd t s
  | .attemptWatchdogExpiry t => Sys2Proof.Machine.execAttemptWatchdogExpiry t s
  | .orderRack n ecc jbad => Sys2Proof.Machine.execOrderRack n ecc jbad s
  | .orderRacked n => Sys2Proof.Machine.execOrderRacked n s
  | .orderRun q => Sys2Proof.Machine.execOrderRun q s
  | .steepSwap => Sys2Proof.Machine.execSteepSwap s
  | .steepSelftestStart => Sys2Proof.Machine.execSteepSelftestStart s
  | .steepTestDone pass => Sys2Proof.Machine.execSteepTestDone pass s
  | .steepPause q => Sys2Proof.Machine.execSteepPause q s
  | .steepUnpause q => Sys2Proof.Machine.execSteepUnpause q s
  | .steepDirect q => Sys2Proof.Machine.execSteepDirect q s
  | .grantEnable q n => Sys2Proof.Machine.execGrantEnable q n s
  | .grantDisable q n => Sys2Proof.Machine.execGrantDisable q n s
  | .grantPushWrite q n => Sys2Proof.Machine.execGrantPushWrite q n s
  | .grantPopRead q n ecc => Sys2Proof.Machine.execGrantPopRead q n ecc s
  | .portGrantPush n v side => Sys2Proof.Machine.execPortGrantPush n v side s
  | .portGrantPop n ecc => Sys2Proof.Machine.execPortGrantPop n ecc s
  | .grantPointerCross n toReader => Sys2Proof.Machine.execGrantPointerCross n toReader s
  | .driftWindowEnd n => Sys2Proof.Machine.execDriftWindowEnd n s
  | .dtbNowRead q => Sys2Proof.Machine.execDtbNowRead q s
  | .dtbEpochWrite q => Sys2Proof.Machine.execDtbEpochWrite q s
  | .dtbMeasurement q => Sys2Proof.Machine.execDtbMeasurement q s
  | .dtbRefEdge video => Sys2Proof.Machine.execDtbRefEdge video s
  | .dtbSrcWrite q => Sys2Proof.Machine.execDtbSrcWrite q s
  | .dtbFreqWrite q => Sys2Proof.Machine.execDtbFreqWrite q s
  | .dtbHoldoverTimeout => Sys2Proof.Machine.execDtbHoldoverTimeout s
  | .dtbAlarmFire => Sys2Proof.Machine.execDtbAlarmFire s
  | .sceneGo q => Sys2Proof.Machine.execSceneGo q s
  | .streamStopBoundary n => Sys2Proof.Machine.execStreamStopBoundary n s
  | .streamRestart n => Sys2Proof.Machine.execStreamRestart n s
  | .streamBlockCaptured n => Sys2Proof.Machine.execStreamBlockCaptured n s
  | .streamSubmitRetry n => Sys2Proof.Machine.execStreamSubmitRetry n s
  | .streamRecord n => Sys2Proof.Machine.execStreamRecord n s
  | .sinkBoundary n => Sys2Proof.Machine.execSinkBoundary n s
  | .modeBoil q => Sys2Proof.Machine.execModeBoil q s
  | .modeMash q => Sys2Proof.Machine.execModeMash q s
  | .modeRest q => Sys2Proof.Machine.execModeRest q s
  | .modeCondition q => Sys2Proof.Machine.execModeCondition q s
  | .modeDormant q => Sys2Proof.Machine.execModeDormant q s
  | .modeTransitionDone => Sys2Proof.Machine.execModeTransitionDone s
  | .restWake => Sys2Proof.Machine.execRestWake s
  | .wakeEvent w => Sys2Proof.Machine.execWakeEvent w s
  | .dormantWakeServe => Sys2Proof.Machine.execDormantWakeServe s
  | .ddrSelfRefreshEntry => Sys2Proof.Machine.execDdrSelfRefreshEntry s
  | .gateClockOn q => Sys2Proof.Machine.execGateClockOn q s
  | .gateClockOff q => Sys2Proof.Machine.execGateClockOff q s
  | .gatePowerOff q => Sys2Proof.Machine.execGatePowerOff q s
  | .gatePowerOn q => Sys2Proof.Machine.execGatePowerOn q s
  | .deferGrant q => Sys2Proof.Machine.execDeferGrant q s
  | .deferDeny q => Sys2Proof.Machine.execDeferDeny q s
  | .trimWrite q => Sys2Proof.Machine.execTrimWrite q s
  | .trimApply t => Sys2Proof.Machine.execTrimApply t s
  | .throttleRelease => Sys2Proof.Machine.execThrottleRelease s
  | .monConversion c => Sys2Proof.Machine.execMonConversion c s
  | .logEntryAccept r => Sys2Proof.Machine.execLogEntryAccept r s
  | .logReadAdvance q r ecc => Sys2Proof.Machine.execLogReadAdvance q r ecc s
  | .logRseqWrite q r => Sys2Proof.Machine.execLogRseqWrite q r s
  | .logClear q r => Sys2Proof.Machine.execLogClear q r s
  | .wdtEnable q => Sys2Proof.Machine.execWdtEnable q s
  | .wdtKick q => Sys2Proof.Machine.execWdtKick q s
  | .wdtFirstExpiry => Sys2Proof.Machine.execWdtFirstExpiry s
  | .wdtFinalExpiry => Sys2Proof.Machine.execWdtFinalExpiry s
  | .mclkLost b => Sys2Proof.Machine.execMclkLost b s
  | .sapEnable q p => Sys2Proof.Machine.execSapEnable q p s
  | .sapDisable q p => Sys2Proof.Machine.execSapDisable q p s
  | .sapFrame p slots bits age ecc => Sys2Proof.Machine.execSapFrame p slots bits age ecc s
  | .sapClockLost p => Sys2Proof.Machine.execSapClockLost p s
  | .aes3RxFrame ix a b z age => Sys2Proof.Machine.execAes3RxFrame ix a b z age s
  | .flyFrame src age => Sys2Proof.Machine.execFlyFrame src age s
  | .aes3RxBlockEnd ix freq => Sys2Proof.Machine.execAes3RxBlockEnd ix freq s
  | .aes3Resume q ix => Sys2Proof.Machine.execAes3Resume q ix s
  | .aes3TxEnable q ix => Sys2Proof.Machine.execAes3TxEnable q ix s
  | .aes3TxFrame ix ecc => Sys2Proof.Machine.execAes3TxFrame ix ecc s
  | .aes3TxCommit q ix => Sys2Proof.Machine.execAes3TxCommit q ix s
  | .madiRxFrame sync freq l age => Sys2Proof.Machine.execMadiRxFrame sync freq l age s
  | .madiTxFrame ecc => Sys2Proof.Machine.execMadiTxFrame ecc s
  | .madiLos => Sys2Proof.Machine.execMadiLos s
  | .pdmEnable q => Sys2Proof.Machine.execPdmEnable q s
  | .pdmSample l => Sys2Proof.Machine.execPdmSample l s
  | .pdmStuck c => Sys2Proof.Machine.execPdmStuck c s
  | .sdiRxEnable q p => Sys2Proof.Machine.execSdiRxEnable q p s
  | .sdiRxLock p rate frac code samp => Sys2Proof.Machine.execSdiRxLock p rate frac code samp s
  | .sdiRxLine p l age => Sys2Proof.Machine.execSdiRxLine p l age s
  | .sdiLockLost p age => Sys2Proof.Machine.execSdiLockLost p age s
  | .sdiFlyFrame p age => Sys2Proof.Machine.execSdiFlyFrame p age s
  | .sdiAncPacket p k => Sys2Proof.Machine.execSdiAncPacket p k s
  | .sdiAudioPacket p l => Sys2Proof.Machine.execSdiAudioPacket p l s
  | .sdiTxEnable q p => Sys2Proof.Machine.execSdiTxEnable q p s
  | .sdiTxLine p ecc => Sys2Proof.Machine.execSdiTxLine p ecc s
  | .sdiTxAnc p fits ecc => Sys2Proof.Machine.execSdiTxAnc p fits ecc s
  | .sdiTxAudio p ecc => Sys2Proof.Machine.execSdiTxAudio p ecc s
  | .pixelStageCommit q p => Sys2Proof.Machine.execPixelStageCommit q p s
  | .pixelStageApply p => Sys2Proof.Machine.execPixelStageApply p s
  | .lutDataWrite q p => Sys2Proof.Machine.execLutDataWrite q p s
  | .vrefEdge per => Sys2Proof.Machine.execVrefEdge per s
  | .vrefLost => Sys2Proof.Machine.execVrefLost s
  | .genlockAchieved p => Sys2Proof.Machine.execGenlockAchieved p s
  | .ethEnable q m => Sys2Proof.Machine.execEthEnable q m s
  | .ethMdioStart q m => Sys2Proof.Machine.execEthMdioStart q m s
  | .ethMdioDone m v => Sys2Proof.Machine.execEthMdioDone m v s
  | .ethTxFrame m => Sys2Proof.Machine.execEthTxFrame m s
  | .ethRxFrame m l bad age => Sys2Proof.Machine.execEthRxFrame m l bad age s
  | .ethLinkChange m up rate => Sys2Proof.Machine.execEthLinkChange m up rate s
  | .gateCycleStart m => Sys2Proof.Machine.execGateCycleStart m s
  | .gateEntryEnd m => Sys2Proof.Machine.execGateEntryEnd m s
  | .gateListChange q m => Sys2Proof.Machine.execGateListChange q m s
  | .rtpTxPacket m f ecc => Sys2Proof.Machine.execRtpTxPacket m f ecc s
  | .rtpLaunch m f => Sys2Proof.Machine.execRtpLaunch m f s
  | .rtpRxPacket m f l => Sys2Proof.Machine.execRtpRxPacket m f l s
  | .usbSof frame age ecc => Sys2Proof.Machine.execUsbSof frame age ecc s
  | .usbIsoOutPacket e l ok => Sys2Proof.Machine.execUsbIsoOutPacket e l ok s
  | .usbFeedbackWindow e => Sys2Proof.Machine.execUsbFeedbackWindow e s
  | .usbTransfer e out x => Sys2Proof.Machine.execUsbTransfer e out x s
  | .usbRoleChange r => Sys2Proof.Machine.execUsbRoleChange r s
  | .pcieLinkTrain gen width => Sys2Proof.Machine.execPcieLinkTrain gen width s
  | .pcieInboundRead bar2 off wide v ok => Sys2Proof.Machine.execPcieInboundRead bar2 off wide v ok s
  | .pcieInboundWrite bar2 off wide v ok => Sys2Proof.Machine.execPcieInboundWrite bar2 off wide v ok s
  | .pcieCompletion tag ok data => Sys2Proof.Machine.execPcieCompletion tag ok data s
  | .pcieCompletionTimeout tag => Sys2Proof.Machine.execPcieCompletionTimeout tag s
  | .pcieFlr => Sys2Proof.Machine.execPcieFlr s
  | .sdkPortEnable n => Sys2Proof.Machine.execSdkPortEnable n s
  | .sdkSignalDetect n => Sys2Proof.Machine.execSdkSignalDetect n s
  | .sdkLockTimeout n => Sys2Proof.Machine.execSdkLockTimeout n s
  | .sdkDownWaitEnd n => Sys2Proof.Machine.execSdkDownWaitEnd n s
  | .sdkIdleBlock n => Sys2Proof.Machine.execSdkIdleBlock n s
  | .sdkAlignBlock n => Sys2Proof.Machine.execSdkAlignBlock n s
  | .sdkTs1 n b => Sys2Proof.Machine.execSdkTs1 n b s
  | .sdkTs2 n b => Sys2Proof.Machine.execSdkTs2 n b s
  | .cellNull n c => Sys2Proof.Machine.execCellNull n c s
  | .cellStream n c => Sys2Proof.Machine.execCellStream n c s
  | .cellOrderDoor n c => Sys2Proof.Machine.execCellOrderDoor n c s
  | .cellOrderResult n c => Sys2Proof.Machine.execCellOrderResult n c s
  | .cellMemWrite n c => Sys2Proof.Machine.execCellMemWrite n c s
  | .cellMemRead n c => Sys2Proof.Machine.execCellMemRead n c s
  | .cellMemResp n c => Sys2Proof.Machine.execCellMemResp n c s
  | .cellTimeMark n c => Sys2Proof.Machine.execCellTimeMark n c s
  | .cellDelayReq n c => Sys2Proof.Machine.execCellDelayReq n c s
  | .cellDelayResp n c => Sys2Proof.Machine.execCellDelayResp n c s
  | .cellNak n c => Sys2Proof.Machine.execCellNak n c s
  | .cellAuth n c => Sys2Proof.Machine.execCellAuth n c s
  | .cellBootReq n c => Sys2Proof.Machine.execCellBootReq n c s
  | .cellBootData n c => Sys2Proof.Machine.execCellBootData n c s
  | .sdkReplayTimeout n => Sys2Proof.Machine.execSdkReplayTimeout n s
  | .sdkAckTimeout n => Sys2Proof.Machine.execSdkAckTimeout n s
  | .sdkDelayTimer n => Sys2Proof.Machine.execSdkDelayTimer n s
  | .sdkMarkTimer => Sys2Proof.Machine.execSdkMarkTimer s
  | .sdkRequestTimeout tag => Sys2Proof.Machine.execSdkRequestTimeout tag s
  | .sdkOfwd q => Sys2Proof.Machine.execSdkOfwd q s
  | .sdkBootRetry => Sys2Proof.Machine.execSdkBootRetry s
  | .sdkStreamSend c => Sys2Proof.Machine.execSdkStreamSend c s
  | .tapEnable q e => Sys2Proof.Machine.execTapEnable q e s
  | .tapDisable q e => Sys2Proof.Machine.execTapDisable q e s
  | .tapHalt q e => Sys2Proof.Machine.execTapHalt q e s
  | .tapResume q e => Sys2Proof.Machine.execTapResume q e s
  | .tapRewind q e => Sys2Proof.Machine.execTapRewind q e s
  | .tapPmemWrite q b w => Sys2Proof.Machine.execTapPmemWrite q b w s
  | .tapNop e => Sys2Proof.Machine.execTapNop e s
  | .tapShiftIn e pins => Sys2Proof.Machine.execTapShiftIn e pins s
  | .tapShiftOut e k => Sys2Proof.Machine.execTapShiftOut e k s
  | .tapWaitpin e => Sys2Proof.Machine.execTapWaitpin e s
  | .tapWaitevt e => Sys2Proof.Machine.execTapWaitevt e s
  | .tapWaitMet e => Sys2Proof.Machine.execTapWaitMet e s
  | .tapSetpin e => Sys2Proof.Machine.execTapSetpin e s
  | .tapJumpif e pins => Sys2Proof.Machine.execTapJumpif e pins s
  | .tapCount e => Sys2Proof.Machine.execTapCount e s
  | .tapEmit e => Sys2Proof.Machine.execTapEmit e s
  | .tapDelayExpiry e => Sys2Proof.Machine.execTapDelayExpiry e s
  | .tapStallEnd e => Sys2Proof.Machine.execTapStallEnd e s
  | .gpioFuncWrite q n => Sys2Proof.Machine.execGpioFuncWrite q n s
  | .gpioEdge n high => Sys2Proof.Machine.execGpioEdge n high s
  | .hcpIdent b => Sys2Proof.Machine.execHcpIdent b s
  | .hcpStatus b => Sys2Proof.Machine.execHcpStatus b s
  | .hcpLogread b => Sys2Proof.Machine.execHcpLogread b s
  | .hcpMode b => Sys2Proof.Machine.execHcpMode b s
  | .hcpSelftest b => Sys2Proof.Machine.execHcpSelftest b s
  | .hcpOrder b => Sys2Proof.Machine.execHcpOrder b s
  | .hcpAttest b => Sys2Proof.Machine.execHcpAttest b s
  | .hcpFlashwrite b => Sys2Proof.Machine.execHcpFlashwrite b s
  | .hcpKeevewrite b => Sys2Proof.Machine.execHcpKeevewrite b s
  | .provisionChallenge b => Sys2Proof.Machine.execProvisionChallenge b s
  | .provisionToken b => Sys2Proof.Machine.execProvisionToken b s
  | .provisionLifecycle b => Sys2Proof.Machine.execProvisionLifecycle b s
  | .provisionRoothash b => Sys2Proof.Machine.execProvisionRoothash b s
  | .provisionPolicy b => Sys2Proof.Machine.execProvisionPolicy b s
  | .provisionVendor b => Sys2Proof.Machine.execProvisionVendor b s
  | .provisionRepair b => Sys2Proof.Machine.execProvisionRepair b s
  | .hcpReset b => Sys2Proof.Machine.execHcpReset b s
  | .hcpResetStart => Sys2Proof.Machine.execHcpResetStart s
  | .sessionOpen b => Sys2Proof.Machine.execSessionOpen b s
  | .sessionProve b => Sys2Proof.Machine.execSessionProve b s
  | .sessionClose b => Sys2Proof.Machine.execSessionClose b s
  | .hcpCfgClose q => Sys2Proof.Machine.execHcpCfgClose q s
  | .hcpSessionIdleTimeout => Sys2Proof.Machine.execHcpSessionIdleTimeout s
  | .hcpRead b => Sys2Proof.Machine.execHcpRead b s
  | .hcpWrite b => Sys2Proof.Machine.execHcpWrite b s
  | .loadChunk b => Sys2Proof.Machine.execLoadChunk b s
  | .loadExec b => Sys2Proof.Machine.execLoadExec b s
  | .hcpUnknownFrame b => Sys2Proof.Machine.execHcpUnknownFrame b s
  | .hcpCommandDone flashOk => Sys2Proof.Machine.execHcpCommandDone flashOk s
  | .hcpResponseRead => Sys2Proof.Machine.execHcpResponseRead s
  | .hcpFrameAbort badSync => Sys2Proof.Machine.execHcpFrameAbort badSync s
  | .aonOscFailover => Sys2Proof.Machine.execAonOscFailover s
  | .aonOscReturn => Sys2Proof.Machine.execAonOscReturn s
  | .vddioAonLoss => Sys2Proof.Machine.execVddioAonLoss s
  | .vddSocDischarged => Sys2Proof.Machine.execVddSocDischarged s
  | .debugResume p => Sys2Proof.Machine.execDebugResume p s
  | .pcieLinkDown => Sys2Proof.Machine.execPcieLinkDown s
  | .pcieConfigRequest c => Sys2Proof.Machine.execPcieConfigRequest c s
  | .pcieMalformedTlp poisoned => Sys2Proof.Machine.execPcieMalformedTlp poisoned s
  | .usbVbusChange valid => Sys2Proof.Machine.execUsbVbusChange valid s
  | .sdkInvalidHeader n lane => Sys2Proof.Machine.execSdkInvalidHeader n lane s
  | .cellCrcError n c => Sys2Proof.Machine.execCellCrcError n c s
  | .cellUnknownType n c => Sys2Proof.Machine.execCellUnknownType n c s
  | .sdkAuthVerified n => Sys2Proof.Machine.execSdkAuthVerified n s

end Sys2Proof.Machine
end

