-- ==== Sys2Proof/Machine/Syllable.lean ====
section
/-! DEFINITION. Syllables as words: the formats of R159, the OP and FN values of spec/07_operation_reference.md, K syllables
(R157, R160), and the bundle that memory holds at an address (R154). Nothing here is part of a step: a core's syllables come
as commands (log entry 18); these definitions say which word each of them is. -/
namespace Sys2Proof.Machine

/-- A syllable by its format (R159): OP, FN where the format has one, and the fields. -/
inductive SylForm where
  | t (op : BitVec 6) (fn : BitVec 4) (o : TSyl)
  | i (op : BitVec 6) (o : ISyl)
  | b (op : BitVec 6) (o : BSyl)
  deriving DecidableEq, Repr

/-- The format, OP and FN of an operation; none for a command that is no syllable, and for a K syllable that extends nothing. -/
def sylForm : Instr → Option SylForm
  | .add o => some (.t 0x00 0 o)
  | .sub o => some (.t 0x00 1 o)
  | .addw o => some (.t 0x00 2 o)
  | .subw o => some (.t 0x00 3 o)
  | .min o => some (.t 0x00 4 o)
  | .max o => some (.t 0x00 5 o)
  | .minu o => some (.t 0x00 6 o)
  | .maxu o => some (.t 0x00 7 o)
  | .abs o => some (.t 0x00 8 o)
  | .absd o => some (.t 0x00 9 o)
  | .avg o => some (.t 0x00 10 o)
  | .adds o => some (.t 0x01 0 o)
  | .subs o => some (.t 0x01 1 o)
  | .addsw o => some (.t 0x01 2 o)
  | .subsw o => some (.t 0x01 3 o)
  | .addus o => some (.t 0x01 4 o)
  | .subus o => some (.t 0x01 5 o)
  | .abss o => some (.t 0x01 6 o)
  | .negs o => some (.t 0x01 7 o)
  | .satw o => some (.t 0x01 8 o)
  | .sath o => some (.t 0x01 9 o)
  | .and o => some (.t 0x02 0 o)
  | .or o => some (.t 0x02 1 o)
  | .xor o => some (.t 0x02 2 o)
  | .andn o => some (.t 0x02 3 o)
  | .orn o => some (.t 0x02 4 o)
  | .xnor o => some (.t 0x02 5 o)
  | .nand o => some (.t 0x02 6 o)
  | .nor o => some (.t 0x02 7 o)
  | .paddh o => some (.t 0x03 0 o)
  | .psubh o => some (.t 0x03 1 o)
  | .paddsh o => some (.t 0x03 2 o)
  | .psubsh o => some (.t 0x03 3 o)
  | .paddw o => some (.t 0x03 4 o)
  | .psubw o => some (.t 0x03 5 o)
  | .paddsw o => some (.t 0x03 6 o)
  | .psubsw o => some (.t 0x03 7 o)
  | .pmaxh o => some (.t 0x03 8 o)
  | .pminh o => some (.t 0x03 9 o)
  | .pabssh o => some (.t 0x03 10 o)
  | .sel p o => some (.t 0x0C (p.setWidth 4) o)
  | .cmp .eq o => some (.t 0x04 0 o)
  | .cmp .ne o => some (.t 0x04 1 o)
  | .cmp .lt o => some (.t 0x04 2 o)
  | .cmp .ge o => some (.t 0x04 3 o)
  | .cmp .ltu o => some (.t 0x04 4 o)
  | .cmp .geu o => some (.t 0x04 5 o)
  | .cmp .any o => some (.t 0x04 6 o)
  | .cmp .none o => some (.t 0x04 7 o)
  | .plog .pand o => some (.t 0x07 0 o)
  | .plog .por o => some (.t 0x07 1 o)
  | .plog .pxor o => some (.t 0x07 2 o)
  | .plog .pandn o => some (.t 0x07 3 o)
  | .plog .porn o => some (.t 0x07 4 o)
  | .fcmp .eq .s o => some (.t 0x0D 0 o)
  | .fcmp .eq .d o => some (.t 0x0D 1 o)
  | .fcmp .eq .h o => some (.t 0x0D 2 o)
  | .fcmp .eq .bf o => some (.t 0x0D 3 o)
  | .fcmp .lt .s o => some (.t 0x0D 4 o)
  | .fcmp .lt .d o => some (.t 0x0D 5 o)
  | .fcmp .lt .h o => some (.t 0x0D 6 o)
  | .fcmp .lt .bf o => some (.t 0x0D 7 o)
  | .fcmp .le .s o => some (.t 0x0D 8 o)
  | .fcmp .le .d o => some (.t 0x0D 9 o)
  | .fcmp .le .h o => some (.t 0x0D 10 o)
  | .fcmp .le .bf o => some (.t 0x0D 11 o)
  | .fcmp .un .s o => some (.t 0x0D 12 o)
  | .fcmp .un .d o => some (.t 0x0D 13 o)
  | .fcmp .un .h o => some (.t 0x0D 14 o)
  | .fcmp .un .bf o => some (.t 0x0D 15 o)
  | .mul o => some (.t 0x10 0 o)
  | .mulh o => some (.t 0x10 1 o)
  | .mulhu o => some (.t 0x10 2 o)
  | .mulw o => some (.t 0x10 3 o)
  | .mulwu o => some (.t 0x10 4 o)
  | .mac o => some (.t 0x10 5 o)
  | .msu o => some (.t 0x10 6 o)
  | .macw o => some (.t 0x10 7 o)
  | .pmulh o => some (.t 0x10 8 o)
  | .pdoth o => some (.t 0x10 9 o)
  | .qmul15 o => some (.t 0x11 0 o)
  | .qmul31 o => some (.t 0x11 1 o)
  | .qmac31 o => some (.t 0x11 2 o)
  | .qmsu31 o => some (.t 0x11 3 o)
  | .pqmul15 o => some (.t 0x11 4 o)
  | .qrnd31 o => some (.t 0x11 5 o)
  | .fadd .s o => some (.t 0x12 0 o)
  | .fsub .s o => some (.t 0x12 1 o)
  | .fmul .s o => some (.t 0x12 2 o)
  | .fma .s o => some (.t 0x12 3 o)
  | .fms .s o => some (.t 0x12 4 o)
  | .fmin .s o => some (.t 0x12 5 o)
  | .fmax .s o => some (.t 0x12 6 o)
  | .fdiv .s o => some (.t 0x12 7 o)
  | .fsqrt .s o => some (.t 0x12 8 o)
  | .fneg .s o => some (.t 0x12 9 o)
  | .fabs .s o => some (.t 0x12 10 o)
  | .fcpys .s o => some (.t 0x12 11 o)
  | .fadd .d o => some (.t 0x13 0 o)
  | .fsub .d o => some (.t 0x13 1 o)
  | .fmul .d o => some (.t 0x13 2 o)
  | .fma .d o => some (.t 0x13 3 o)
  | .fms .d o => some (.t 0x13 4 o)
  | .fmin .d o => some (.t 0x13 5 o)
  | .fmax .d o => some (.t 0x13 6 o)
  | .fdiv .d o => some (.t 0x13 7 o)
  | .fsqrt .d o => some (.t 0x13 8 o)
  | .fneg .d o => some (.t 0x13 9 o)
  | .fabs .d o => some (.t 0x13 10 o)
  | .fcpys .d o => some (.t 0x13 11 o)
  | .fadd .h o => some (.t 0x14 0 o)
  | .fsub .h o => some (.t 0x14 1 o)
  | .fmul .h o => some (.t 0x14 2 o)
  | .fma .h o => some (.t 0x14 3 o)
  | .fms .h o => some (.t 0x14 4 o)
  | .fmin .h o => some (.t 0x14 5 o)
  | .fmax .h o => some (.t 0x14 6 o)
  | .fdiv .h o => some (.t 0x14 7 o)
  | .fsqrt .h o => some (.t 0x14 8 o)
  | .fneg .h o => some (.t 0x14 9 o)
  | .fabs .h o => some (.t 0x14 10 o)
  | .fcpys .h o => some (.t 0x14 11 o)
  | .fadd .bf o => some (.t 0x15 0 o)
  | .fsub .bf o => some (.t 0x15 1 o)
  | .fmul .bf o => some (.t 0x15 2 o)
  | .fma .bf o => some (.t 0x15 3 o)
  | .fms .bf o => some (.t 0x15 4 o)
  | .fmin .bf o => some (.t 0x15 5 o)
  | .fmax .bf o => some (.t 0x15 6 o)
  | .fdiv .bf o => some (.t 0x15 7 o)
  | .fsqrt .bf o => some (.t 0x15 8 o)
  | .fneg .bf o => some (.t 0x15 9 o)
  | .fabs .bf o => some (.t 0x15 10 o)
  | .fcpys .bf o => some (.t 0x15 11 o)
  | .pfadd .h o => some (.t 0x16 0 o)
  | .pfmul .h o => some (.t 0x16 1 o)
  | .pfma .h o => some (.t 0x16 2 o)
  | .pfadd .bf o => some (.t 0x16 3 o)
  | .pfmul .bf o => some (.t 0x16 4 o)
  | .pfma .bf o => some (.t 0x16 5 o)
  | .pfadd .s o => some (.t 0x16 6 o)
  | .pfmul .s o => some (.t 0x16 7 o)
  | .pfma .s o => some (.t 0x16 8 o)
  | .cvtSD o => some (.t 0x17 0 o)
  | .cvtDS o => some (.t 0x17 1 o)
  | .cvtHS o => some (.t 0x17 2 o)
  | .cvtSH o => some (.t 0x17 3 o)
  | .cvtBfS o => some (.t 0x17 4 o)
  | .cvtSBf o => some (.t 0x17 5 o)
  | .cvtWS o => some (.t 0x17 6 o)
  | .cvtSW o => some (.t 0x17 7 o)
  | .cvtLD o => some (.t 0x17 8 o)
  | .cvtDL o => some (.t 0x17 9 o)
  | .trcWS o => some (.t 0x17 10 o)
  | .trcLD o => some (.t 0x17 11 o)
  | .xmac .s o => some (.t 0x18 0 o)
  | .xmac .h o => some (.t 0x18 1 o)
  | .xmac .bf o => some (.t 0x18 2 o)
  | .xmsu .s o => some (.t 0x18 3 o)
  | .xmsu .h o => some (.t 0x18 4 o)
  | .xmsu .bf o => some (.t 0x18 5 o)
  | .xdot .h o => some (.t 0x18 6 o)
  | .xdot .bf o => some (.t 0x18 7 o)
  | .xdot .s o => some (.t 0x18 8 o)
  | .xclr o => some (.t 0x18 9 o)
  | .xrd .s o => some (.t 0x18 10 o)
  | .xrd .d o => some (.t 0x18 11 o)
  | .xrd .h o => some (.t 0x18 12 o)
  | .xrd .bf o => some (.t 0x18 13 o)
  | .div o => some (.t 0x19 0 o)
  | .divu o => some (.t 0x19 1 o)
  | .rem o => some (.t 0x19 2 o)
  | .remu o => some (.t 0x19 3 o)
  | .divw o => some (.t 0x19 4 o)
  | .divwu o => some (.t 0x19 5 o)
  | .gpop o _ => some (.t 0x27 0 o)
  | .gpopt o _ => some (.t 0x27 1 o)
  | .gpush o => some (.t 0x27 2 o)
  | .gpusht o => some (.t 0x27 3 o)
  | .glevel o => some (.t 0x27 4 o)
  | .gspace o => some (.t 0x27 5 o)
  | .spgo o => some (.t 0x27 6 o)
  | .spwait o => some (.t 0x27 7 o)
  | .sll o => some (.t 0x28 0 o)
  | .srl o => some (.t 0x28 1 o)
  | .sra o => some (.t 0x28 2 o)
  | .rol o => some (.t 0x28 3 o)
  | .ror o => some (.t 0x28 4 o)
  | .sllw o => some (.t 0x28 5 o)
  | .srlw o => some (.t 0x28 6 o)
  | .sraw o => some (.t 0x28 7 o)
  | .sls o => some (.t 0x28 8 o)
  | .srar o => some (.t 0x28 9 o)
  | .extu o => some (.t 0x2A 0 o)
  | .exts o => some (.t 0x2A 1 o)
  | .ins o => some (.t 0x2A 2 o)
  | .clz o => some (.t 0x2A 3 o)
  | .ctz o => some (.t 0x2A 4 o)
  | .popc o => some (.t 0x2A 5 o)
  | .brev o => some (.t 0x2A 6 o)
  | .bswap o => some (.t 0x2A 7 o)
  | .bswapw o => some (.t 0x2A 8 o)
  | .shufb o => some (.t 0x2C 0 o)
  | .packw o => some (.t 0x2C 1 o)
  | .ziploh o => some (.t 0x2C 2 o)
  | .ziphih o => some (.t 0x2C 3 o)
  | .splatb o => some (.t 0x2C 4 o)
  | .splath o => some (.t 0x2C 5 o)
  | .splatw o => some (.t 0x2C 6 o)
  | .sextb o => some (.t 0x2C 7 o)
  | .sexth o => some (.t 0x2C 8 o)
  | .sextw o => some (.t 0x2C 9 o)
  | .zextw o => some (.t 0x2C 10 o)
  | .jr o => some (.t 0x36 0 o)
  | .jalr o => some (.t 0x36 1 o)
  | .settle o => some (.t 0x39 0 o)
  | .trap o => some (.t 0x39 1 o)
  | .eret o => some (.t 0x39 2 o)
  | .wait o => some (.t 0x39 3 o)
  | .odone o => some (.t 0x39 4 o)
  | .fence o => some (.t 0x39 5 o)
  | .nop .nop o => some (.t 0x39 6 o)
  | .dclean o => some (.t 0x39 7 o)
  | .dcinv o => some (.t 0x39 8 o)
  | .dcflush o => some (.t 0x39 9 o)
  | .mcall o => some (.t 0x39 10 o)
  | .scall o => some (.t 0x39 11 o)
  | .nop (.unlisted op fn) o => if opListed op.toNat fn.toNat then none else some (.t op fn o)
  | .cmpi o => some (.i 0x05 o)
  | .cmpiu o => some (.i 0x06 o)
  | .addi o => some (.i 0x08 o)
  | .andi o => some (.i 0x09 o)
  | .ori o => some (.i 0x0A o)
  | .xori o => some (.i 0x0B o)
  | .shifti o => some (.i 0x29 o)
  | .movi o => some (.i 0x2D o)
  | .mfc o => some (.i 0x2F o)
  | .mtc o => some (.i 0x30 o)
  | .addpc o => some (.i 0x31 o)
  | .loop o => some (.i 0x37 o)
  | .loopi o => some (.i 0x38 o)
  | .ldB o _ => some (.i 0x1C o)
  | .ldBu o _ => some (.i 0x1D o)
  | .ldH o _ => some (.i 0x1E o)
  | .ldHu o _ => some (.i 0x1F o)
  | .ldW o _ => some (.i 0x20 o)
  | .ldWu o _ => some (.i 0x21 o)
  | .ldD o _ => some (.i 0x22 o)
  | .stB o => some (.i 0x23 o)
  | .stH o => some (.i 0x24 o)
  | .stW o => some (.i 0x25 o)
  | .stD o => some (.i 0x26 o)
  | .br o => some (.b 0x34 o)
  | .call o => some (.b 0x35 o)
  | _ => none

/-- What the access of a load or of GPOP finds; it is in no word. -/
def sylEcc : Instr → Option Ecc
  | .ldB _ e | .ldBu _ e | .ldH _ e | .ldHu _ e | .ldW _ e | .ldWu _ e | .ldD _ e => some e
  | .gpop _ e | .gpopt _ e => some e
  | _ => none

/-- The format of an OP value; an OP that no table lists is read as T format (R191). -/
inductive SylFmt where | t | i | b
  deriving DecidableEq, Repr

def opFmt (op : Nat) : SylFmt :=
  match op with
  | 0x05 | 0x06 | 0x08 | 0x09 | 0x0A | 0x0B | 0x29 | 0x2D | 0x2F | 0x30 | 0x31 | 0x37 | 0x38 => .i
  | 0x1C | 0x1D | 0x1E | 0x1F | 0x20 | 0x21 | 0x22 | 0x23 | 0x24 | 0x25 | 0x26 => .i
  | 0x34 | 0x35 => .b
  | _ => .t

/-- The head and the fields of a syllable. -/
def SylForm.head : SylForm → Head
  | .t _ _ o => o.h
  | .i _ o => o.h
  | .b _ o => o.h

/-- The word of a syllable (R159): E [31], OP [30:25], PG [24:22], then D [21:16], S1 [15:10], S2 [9:4] and FN [3:0], or
IMM10 [9:0], or DISP22 [21:0]. -/
def SylForm.word : SylForm → BitVec 32
  | .t op fn o => BitVec.ofBool o.h.e ++ op ++ o.h.pg ++ o.d ++ o.s1 ++ o.s2 ++ fn
  | .i op o => BitVec.ofBool o.h.e ++ op ++ o.h.pg ++ o.d ++ o.s1 ++ o.imm
  | .b op o => BitVec.ofBool o.h.e ++ op ++ o.h.pg ++ o.disp

/-- The word of a K syllable (R157, R160): OP[30:27] all ones, the payload below; never the last of a bundle. -/
def kWord (k : BitVec 27) : BitVec 32 := (0b01111 : BitVec 5) ++ k

/-- The words of an operation, its K syllables first. -/
def encodeSyl (i : Instr) : Option (List (BitVec 32)) :=
  (sylForm i).map fun f => f.head.ks.map kWord ++ [f.word]

/-- A word that is a K syllable (R155). -/
def isK (w : BitVec 32) : Bool := w.extractLsb' 27 4 = 0b1111

/-- The fields of a word on a core, with the payloads of the K syllables before it. -/
def decodeWord (core : Fin 14) (ks : List (BitVec 27)) (w : BitVec 32) : SylForm :=
  let h : Head := ⟨core, w.getLsbD 31, ks, w.extractLsb' 22 3⟩
  let op : BitVec 6 := w.extractLsb' 25 6
  let d : BitVec 6 := w.extractLsb' 16 6
  let s1 : BitVec 6 := w.extractLsb' 10 6
  match opFmt op.toNat with
  | .t => .t op (w.extractLsb' 0 4) ⟨h, d, s1, w.extractLsb' 4 6⟩
  | .i => .i op ⟨h, d, s1, w.extractLsb' 0 10⟩
  | .b => .b op ⟨h, w.extractLsb' 0 22⟩

/-- The syllables that a list of words spells, each with the K syllables before it (R157). -/
def decodeSyls (core : Fin 14) : List (BitVec 27) → List (BitVec 32) → List SylForm
  | _, [] => []
  | ks, w :: r =>
    if isK w then decodeSyls core (ks ++ [w.extractLsb' 0 27]) r
    else decodeWord core ks w :: decodeSyls core [] r

/-- The syllables of the bundle that memory holds at an address: the words up to the first whose E is 1 (R154). -/
def bundleAt (s : State) (core : Fin 14) (a : Nat) : List SylForm :=
  decodeSyls core [] ((List.range (bundleLen s core a / 4)).map fun k =>
    BitVec.ofNat 32 (leNat ((List.range 4).map fun j => readByte s (a + 4 * k + j))))

end Sys2Proof.Machine
end

