-- ==== Sys2Proof/WellFormed.lean ====
section
/-! DEFINITION. Well-formed commands: operands that the types of the commands do not bound already. `exec` does not ask for it;
it says which terms stand for something that the device's surroundings can do. -/
namespace Sys2Proof

/-- A 32-bit access carries 32 bits (R7). -/
def RegAcc.wf (q : RegAcc) : Bool := q.wide || q.value.toNat < 2 ^ 32

/-- A bundle has at most eight syllables (R154), so at most seven K syllables stand before one. -/
def Head.wf (h : Head) : Bool := h.ks.length ≤ 7

/-- An unlisted syllable is none of a listed operation, a K syllable (OP 0x3C to 0x3F) is no unlisted one, and a stray K ends
its bundle (R157, R191). -/
def NopKind.wf (k : NopKind) (o : TSyl) : Bool :=
  o.h.wf && match k with
  | .nop => true
  | .unlisted op fn => op.toNat < 0x3C && !(Machine.opListed op.toNat fn.toNat)
  | .strayK => o.h.e

/-- A cell has 40 bytes (R523). -/
def cellWf (c : List Byte) : Bool := c.length = 40

/-- The body of an HCP frame has at most 8,192 bytes (R577). -/
def bodyWf (b : List Byte) : Bool := b.length ≤ 8192

/-- A well-formed command. -/
def Instr.wf : Instr → Bool
  | .registerWrite q _ => q.wf
  | .vddSocPowerOn => true
  | .brownOut => true
  | .vddioAonPowerOn => true
  | .resetNLow => true
  | .resetNRise _ _ => true
  | .swWarmReset q => q.wf
  | .swColdReset q => q.wf
  | .resetScrubDone => true
  | .partReset _ => true
  | .cc0Release q => q.wf
  | .cc1Release q => q.wf
  | .tunRelease q => q.wf
  | .sealStep1 q => q.wf
  | .sealStep2 q => q.wf
  | .debugChallengeRead q => q.wf
  | .debugTokenGo q => q.wf
  | .debugTokenDone => true
  | .debugLock q => q.wf
  | .jtagInstructionLoad _ => true
  | .debugHaltRequest _ => true
  | .debugHalt _ => true
  | .stage0Start mv => mv.length = 6
  | .bootRetryWaitExpiry => true
  | .bootTimeoutExpiry => true
  | .linkNoServerExpiry => true
  | .bootLoadService => true
  | .bootSignatureDone => true
  | .bootConfirm q => q.wf
  | .contextClaim q => q.wf
  | .ksImport q => q.wf
  | .ksGenerate q => q.wf
  | .ksClear q => q.wf
  | .ksNarrow q => q.wf
  | .cxAbort q _ => q.wf
  | .cxPark q _ => q.wf
  | .cxResume q _ => q.wf
  | .cxRelease q _ => q.wf
  | .aesCbc q _ => q.wf
  | .aesCtr q _ => q.wf
  | .aesGcm q _ => q.wf
  | .aesXts q _ => q.wf
  | .aesCmac q _ => q.wf
  | .aesKw q _ => q.wf
  | .aesKwp q _ => q.wf
  | .sha256 q _ => q.wf
  | .sha384 q _ => q.wf
  | .sha512 q _ => q.wf
  | .sha3256 q _ => q.wf
  | .sha3512 q _ => q.wf
  | .shake128 q _ => q.wf
  | .shake256 q _ => q.wf
  | .hmac q _ => q.wf
  | .kdf q _ => q.wf
  | .deriveDev q _ => q.wf
  | .ecdsaP256Sign q _ => q.wf
  | .ecdsaP256Verify q _ => q.wf
  | .ecdsaP384Sign q _ => q.wf
  | .ecdsaP384Verify q _ => q.wf
  | .ecdhP256 q _ => q.wf
  | .ecdhP384 q _ => q.wf
  | .ecKeyPair q _ => q.wf
  | .ed25519Verify q _ => q.wf
  | .mlDsa65Verify q _ => q.wf
  | .mlKem768Keygen q _ => q.wf
  | .mlKem768Encapsulate q _ => q.wf
  | .mlKem768Decapsulate q _ => q.wf
  | .random q _ => q.wf
  | .wrap q _ => q.wf
  | .unwrap q _ => q.wf
  | .licInstall q _ => q.wf
  | .licRemove q _ => q.wf
  | .attest q _ => q.wf
  | .devicePubkey q _ => q.wf
  | .copperMessageDone _ => true
  | .keeveProgram q => q.wf
  | .keeveErase q => q.wf
  | .keeveRecordWrite q => q.wf
  | .keeveRevoke q => q.wf
  | .keeveOpDone => true
  | .trngHealthFail => true
  | .trngStartupDone => true
  | .drbgReseed => true
  | .trngOutRead q => q.wf
  | .reseal q => q.wf
  | .resealDone _ => true
  | .fkLoad q => q.wf
  | .fkLoadDone => true
  | .fkStart q => q.wf
  | .fkStop q => q.wf
  | .fkDestroy q => q.wf
  | .fkDestroyDone => true
  | .resultWriteback _ => true
  | .longOpStallEnd _ => true
  | .icacheFill _ line _ => line.toNat % 64 = 0
  | .prefetchLine _ line _ => line.toNat % 64 = 0
  | .dcacheFill _ line _ => line.toNat % 64 = 0
  | .add o => o.h.wf
  | .sub o => o.h.wf
  | .addw o => o.h.wf
  | .subw o => o.h.wf
  | .min o => o.h.wf
  | .max o => o.h.wf
  | .minu o => o.h.wf
  | .maxu o => o.h.wf
  | .abs o => o.h.wf
  | .absd o => o.h.wf
  | .avg o => o.h.wf
  | .addi o => o.h.wf
  | .sel _ o => o.h.wf
  | .adds o => o.h.wf
  | .subs o => o.h.wf
  | .addsw o => o.h.wf
  | .subsw o => o.h.wf
  | .addus o => o.h.wf
  | .subus o => o.h.wf
  | .abss o => o.h.wf
  | .negs o => o.h.wf
  | .satw o => o.h.wf
  | .sath o => o.h.wf
  | .paddh o => o.h.wf
  | .psubh o => o.h.wf
  | .paddsh o => o.h.wf
  | .psubsh o => o.h.wf
  | .paddw o => o.h.wf
  | .psubw o => o.h.wf
  | .paddsw o => o.h.wf
  | .psubsw o => o.h.wf
  | .pmaxh o => o.h.wf
  | .pminh o => o.h.wf
  | .pabssh o => o.h.wf
  | .qmul15 o => o.h.wf
  | .qmul31 o => o.h.wf
  | .qmac31 o => o.h.wf
  | .qmsu31 o => o.h.wf
  | .pqmul15 o => o.h.wf
  | .qrnd31 o => o.h.wf
  | .and o => o.h.wf
  | .or o => o.h.wf
  | .xor o => o.h.wf
  | .andn o => o.h.wf
  | .orn o => o.h.wf
  | .xnor o => o.h.wf
  | .nand o => o.h.wf
  | .nor o => o.h.wf
  | .andi o => o.h.wf
  | .ori o => o.h.wf
  | .xori o => o.h.wf
  | .extu o => o.h.wf
  | .exts o => o.h.wf
  | .ins o => o.h.wf
  | .clz o => o.h.wf
  | .ctz o => o.h.wf
  | .popc o => o.h.wf
  | .brev o => o.h.wf
  | .bswap o => o.h.wf
  | .bswapw o => o.h.wf
  | .sll o => o.h.wf
  | .srl o => o.h.wf
  | .sra o => o.h.wf
  | .rol o => o.h.wf
  | .ror o => o.h.wf
  | .sllw o => o.h.wf
  | .srlw o => o.h.wf
  | .sraw o => o.h.wf
  | .sls o => o.h.wf
  | .srar o => o.h.wf
  | .shifti o => o.h.wf
  | .shufb o => o.h.wf
  | .packw o => o.h.wf
  | .ziploh o => o.h.wf
  | .ziphih o => o.h.wf
  | .splatb o => o.h.wf
  | .splath o => o.h.wf
  | .splatw o => o.h.wf
  | .sextb o => o.h.wf
  | .sexth o => o.h.wf
  | .sextw o => o.h.wf
  | .zextw o => o.h.wf
  | .movi o => o.h.wf
  | .addpc o => o.h.wf
  | .mfc o => o.h.wf
  | .mtc o => o.h.wf
  | .cmp _ o => o.h.wf
  | .cmpi o => o.h.wf
  | .cmpiu o => o.h.wf
  | .plog _ o => o.h.wf
  | .fcmp _ _ o => o.h.wf
  | .mul o => o.h.wf
  | .mulh o => o.h.wf
  | .mulhu o => o.h.wf
  | .mulw o => o.h.wf
  | .mulwu o => o.h.wf
  | .mac o => o.h.wf
  | .msu o => o.h.wf
  | .macw o => o.h.wf
  | .pmulh o => o.h.wf
  | .pdoth o => o.h.wf
  | .div o => o.h.wf
  | .divu o => o.h.wf
  | .rem o => o.h.wf
  | .remu o => o.h.wf
  | .divw o => o.h.wf
  | .divwu o => o.h.wf
  | .fadd _ o => o.h.wf
  | .fsub _ o => o.h.wf
  | .fmul _ o => o.h.wf
  | .fma _ o => o.h.wf
  | .fms _ o => o.h.wf
  | .fmin _ o => o.h.wf
  | .fmax _ o => o.h.wf
  | .fdiv _ o => o.h.wf
  | .fsqrt _ o => o.h.wf
  | .fneg _ o => o.h.wf
  | .fabs _ o => o.h.wf
  | .fcpys _ o => o.h.wf
  | .pfadd _ o => o.h.wf
  | .pfmul _ o => o.h.wf
  | .pfma _ o => o.h.wf
  | .cvtSD o => o.h.wf
  | .cvtDS o => o.h.wf
  | .cvtHS o => o.h.wf
  | .cvtSH o => o.h.wf
  | .cvtBfS o => o.h.wf
  | .cvtSBf o => o.h.wf
  | .cvtWS o => o.h.wf
  | .trcWS o => o.h.wf
  | .cvtSW o => o.h.wf
  | .cvtLD o => o.h.wf
  | .trcLD o => o.h.wf
  | .cvtDL o => o.h.wf
  | .xmac _ o => o.h.wf
  | .xmsu _ o => o.h.wf
  | .xdot _ o => o.h.wf
  | .xclr o => o.h.wf
  | .xrd _ o => o.h.wf
  | .ldB o _ => o.h.wf
  | .ldBu o _ => o.h.wf
  | .ldH o _ => o.h.wf
  | .ldHu o _ => o.h.wf
  | .ldW o _ => o.h.wf
  | .ldWu o _ => o.h.wf
  | .ldD o _ => o.h.wf
  | .stB o => o.h.wf
  | .stH o => o.h.wf
  | .stW o => o.h.wf
  | .stD o => o.h.wf
  | .eccWriteback g => g.toNat % 8 = 0
  | .gpop o _ => o.h.wf
  | .gpopt o _ => o.h.wf
  | .gpush o => o.h.wf
  | .gpusht o => o.h.wf
  | .glevel o => o.h.wf
  | .gspace o => o.h.wf
  | .spgo o => o.h.wf
  | .spwait o => o.h.wf
  | .br o => o.h.wf
  | .call o => o.h.wf
  | .jr o => o.h.wf
  | .jalr o => o.h.wf
  | .loop o => o.h.wf
  | .loopi o => o.h.wf
  | .settle o => o.h.wf
  | .trap o => o.h.wf
  | .eret o => o.h.wf
  | .wait o => o.h.wf
  | .odone o => o.h.wf
  | .fence o => o.h.wf
  | .nop k o => k.wf o
  | .dclean o => o.h.wf
  | .dcinv o => o.h.wf
  | .dcflush o => o.h.wf
  | .mcall o => o.h.wf
  | .scall o => o.h.wf
  | .interruptAccept _ _ => true
  | .normalClassEntry _ => true
  | .fastClassEntry _ => true
  | .eicSourceEdge _ => true
  | .eicPendWrite q _ => q.wf
  | .eicClrWrite q _ => q.wf
  | .eicClaimRead q _ => q.wf
  | .eicFclaimRead q _ => q.wf
  | .eicDoneWrite q _ => q.wf
  | .eicStrayClear q => q.wf
  | .bungAcquire q _ => q.wf
  | .bungRelease q _ => q.wf
  | .bungBreak q => q.wf
  | .spargePost q _ => q.wf
  | .spargeTransferStart _ _ => true
  | .spargeBurst _ _ _ _ => true
  | .spargeGrantWaitEnd _ _ => true
  | .spargeDescComplete _ => true
  | .spargeChainNext _ _ => true
  | .spargeAbort q _ => q.wf
  | .queueEnable q _ => q.wf
  | .queueDisable q _ => q.wf
  | .gyleWrite q _ => q.wf
  | .orderDoorbell q _ => q.wf
  | .orderAccept _ => true
  | .orderClaim _ => true
  | .attemptStart _ => true
  | .attemptEnd _ => true
  | .attemptWatchdogExpiry _ => true
  | .orderRack _ _ _ => true
  | .orderRacked _ => true
  | .orderRun q => q.wf
  | .steepSwap => true
  | .steepSelftestStart => true
  | .steepTestDone _ => true
  | .steepPause q => q.wf
  | .steepUnpause q => q.wf
  | .steepDirect q => q.wf
  | .grantEnable q _ => q.wf
  | .grantDisable q _ => q.wf
  | .grantPushWrite q _ => q.wf
  | .grantPopRead q _ _ => q.wf
  | .portGrantPush _ _ _ => true
  | .portGrantPop _ _ => true
  | .grantPointerCross _ _ => true
  | .driftWindowEnd _ => true
  | .dtbNowRead q => q.wf
  | .dtbEpochWrite q => q.wf
  | .dtbMeasurement q => q.wf
  | .dtbRefEdge _ => true
  | .dtbSrcWrite q => q.wf
  | .dtbFreqWrite q => q.wf
  | .dtbHoldoverTimeout => true
  | .dtbAlarmFire => true
  | .sceneGo q => q.wf
  | .streamStopBoundary _ => true
  | .streamRestart _ => true
  | .streamBlockCaptured _ => true
  | .streamSubmitRetry _ => true
  | .streamRecord _ => true
  | .sinkBoundary _ => true
  | .modeBoil q => q.wf
  | .modeMash q => q.wf
  | .modeRest q => q.wf
  | .modeCondition q => q.wf
  | .modeDormant q => q.wf
  | .modeTransitionDone => true
  | .restWake => true
  | .wakeEvent _ => true
  | .dormantWakeServe => true
  | .ddrSelfRefreshEntry => true
  | .gateClockOn q => q.wf
  | .gateClockOff q => q.wf
  | .gatePowerOff q => q.wf
  | .gatePowerOn q => q.wf
  | .deferGrant q => q.wf
  | .deferDeny q => q.wf
  | .trimWrite q => q.wf
  | .trimApply _ => true
  | .throttleRelease => true
  | .monConversion _ => true
  | .logEntryAccept _ => true
  | .logReadAdvance q _ _ => q.wf
  | .logRseqWrite q _ => q.wf
  | .logClear q _ => q.wf
  | .wdtEnable q => q.wf
  | .wdtKick q => q.wf
  | .wdtFirstExpiry => true
  | .wdtFinalExpiry => true
  | .mclkLost _ => true
  | .sapEnable q _ => q.wf
  | .sapDisable q _ => q.wf
  | .sapFrame _ slots _ _ _ => slots.length ≤ 32
  | .sapClockLost _ => true
  | .aes3RxFrame _ _ _ _ _ => true
  | .flyFrame _ _ => true
  | .aes3RxBlockEnd _ _ => true
  | .aes3Resume q _ => q.wf
  | .aes3TxEnable q _ => q.wf
  | .aes3TxFrame _ _ => true
  | .aes3TxCommit q _ => q.wf
  | .madiRxFrame _ _ l _ => l.length ≤ 64
  | .madiTxFrame _ => true
  | .madiLos => true
  | .pdmEnable q => q.wf
  | .pdmSample l => l.length ≤ 8
  | .pdmStuck _ => true
  | .sdiRxEnable q _ => q.wf
  | .sdiRxLock _ _ _ _ _ => true
  | .sdiRxLine _ _ _ => true
  | .sdiLockLost _ _ => true
  | .sdiFlyFrame _ _ => true
  | .sdiAncPacket _ k => k.udw.length ≤ 255
  | .sdiAudioPacket _ l => l.length ≤ 16
  | .sdiTxEnable q _ => q.wf
  | .sdiTxLine _ _ => true
  | .sdiTxAnc _ _ _ => true
  | .sdiTxAudio _ _ => true
  | .pixelStageCommit q _ => q.wf
  | .pixelStageApply _ => true
  | .lutDataWrite q _ => q.wf
  | .vrefEdge _ => true
  | .vrefLost => true
  | .genlockAchieved _ => true
  | .ethEnable q _ => q.wf
  | .ethMdioStart q _ => q.wf
  | .ethMdioDone _ _ => true
  | .ethTxFrame _ => true
  | .ethRxFrame _ _ _ _ => true
  | .ethLinkChange _ _ _ => true
  | .gateCycleStart _ => true
  | .gateEntryEnd _ => true
  | .gateListChange q _ => q.wf
  | .rtpTxPacket _ _ _ => true
  | .rtpLaunch _ _ => true
  | .rtpRxPacket _ _ _ => true
  | .usbSof _ _ _ => true
  | .usbIsoOutPacket _ l _ => l.length ≤ 1024
  | .usbFeedbackWindow _ => true
  | .usbTransfer _ _ _ => true
  | .usbRoleChange _ => true
  | .pcieLinkTrain _ _ => true
  | .pcieInboundRead _ _ _ _ _ => true
  | .pcieInboundWrite _ _ _ _ _ => true
  | .pcieCompletion _ _ _ => true
  | .pcieCompletionTimeout _ => true
  | .pcieFlr => true
  | .sdkPortEnable _ => true
  | .sdkSignalDetect _ => true
  | .sdkLockTimeout _ => true
  | .sdkDownWaitEnd _ => true
  | .sdkIdleBlock _ => true
  | .sdkAlignBlock _ => true
  | .sdkTs1 _ _ => true
  | .sdkTs2 _ _ => true
  | .cellNull _ c => cellWf c
  | .cellStream _ c => cellWf c
  | .cellOrderDoor _ c => cellWf c
  | .cellOrderResult _ c => cellWf c
  | .cellMemWrite _ c => cellWf c
  | .cellMemRead _ c => cellWf c
  | .cellMemResp _ c => cellWf c
  | .cellTimeMark _ c => cellWf c
  | .cellDelayReq _ c => cellWf c
  | .cellDelayResp _ c => cellWf c
  | .cellNak _ c => cellWf c
  | .cellAuth _ c => cellWf c
  | .cellBootReq _ c => cellWf c
  | .cellBootData _ c => cellWf c
  | .sdkReplayTimeout _ => true
  | .sdkAckTimeout _ => true
  | .sdkDelayTimer _ => true
  | .sdkMarkTimer => true
  | .sdkRequestTimeout _ => true
  | .sdkOfwd q => q.wf
  | .sdkBootRetry => true
  | .sdkStreamSend _ => true
  | .tapEnable q _ => q.wf
  | .tapDisable q _ => q.wf
  | .tapHalt q _ => q.wf
  | .tapResume q _ => q.wf
  | .tapRewind q _ => q.wf
  | .tapPmemWrite q _ _ => q.wf
  | .tapNop _ => true
  | .tapShiftIn _ pins => pins.length ≤ 32
  | .tapShiftOut _ _ => true
  | .tapWaitpin _ => true
  | .tapWaitevt _ => true
  | .tapWaitMet _ => true
  | .tapSetpin _ => true
  | .tapJumpif _ _ => true
  | .tapCount _ => true
  | .tapEmit _ => true
  | .tapDelayExpiry _ => true
  | .tapStallEnd _ => true
  | .gpioFuncWrite q _ => q.wf
  | .gpioEdge _ _ => true
  | .hcpIdent b => bodyWf b
  | .hcpStatus b => bodyWf b
  | .hcpLogread b => bodyWf b
  | .hcpMode b => bodyWf b
  | .hcpSelftest b => bodyWf b
  | .hcpOrder b => bodyWf b
  | .hcpAttest b => bodyWf b
  | .hcpFlashwrite b => bodyWf b
  | .hcpKeevewrite b => bodyWf b
  | .provisionChallenge b => bodyWf b
  | .provisionToken b => bodyWf b
  | .provisionLifecycle b => bodyWf b
  | .provisionRoothash b => bodyWf b
  | .provisionPolicy b => bodyWf b
  | .provisionVendor b => bodyWf b
  | .provisionRepair b => bodyWf b
  | .hcpReset b => bodyWf b
  | .hcpResetStart => true
  | .sessionOpen b => bodyWf b
  | .sessionProve b => bodyWf b
  | .sessionClose b => bodyWf b
  | .hcpCfgClose q => q.wf
  | .hcpSessionIdleTimeout => true
  | .hcpRead b => bodyWf b
  | .hcpWrite b => bodyWf b
  | .loadChunk b => bodyWf b
  | .loadExec b => bodyWf b
  | .hcpUnknownFrame b => b.length ≤ 65541
  | .hcpCommandDone _ => true
  | .hcpResponseRead => true
  | .hcpFrameAbort _ => true
  | .aonOscFailover => true
  | .aonOscReturn => true
  | .vddioAonLoss => true
  | .vddSocDischarged => true
  | .debugResume _ => true
  | .pcieLinkDown => true
  | .pcieConfigRequest _ => true
  | .pcieMalformedTlp _ => true
  | .usbVbusChange _ => true
  | .sdkInvalidHeader _ _ => true
  | .cellCrcError _ c => cellWf c
  | .cellUnknownType _ c => cellWf c
  | .sdkAuthVerified _ => true

end Sys2Proof
end

