-- ==== Sys2Proof/Safety.lean ====
section
/-! DEFINITION. What counts as a safe run, in the terms that statements use: a step answers a next state, memory is in canonical
form, a core is ready for a bundle, a bundle has issued. -/
namespace Sys2Proof
open Sys2Proof.Machine

/-- The outcome is a next state. -/
def Answers (o : Host.Outcome State Fault Refusal) : Prop := ∃ t, o = .next t

/-- The outcome is a next state with a property. -/
def Reaches (o : Host.Outcome State Fault Refusal) (p : State → Prop) : Prop := ∃ t, o = .next t ∧ p t

/-- Memory in canonical form: addresses strictly rising, no entry equal to what an unlisted address reads as. -/
abbrev MemInv (s : State) : Prop := Memory.wf s.mem = true

/-- A step from a state with a property, where it answers, keeps the property. -/
def StepKeeps (p : State → Prop) : Prop := ∀ s t, p s → step s = .next t → p t

/-! Cores -/

/-- The state as it stands while core `p` gathers the syllables `b`. -/
def gathering (s : State) (p : Nat) (b : List Staged) : State := setCore s p { coreOf s p with bundle := b }

/-- A core between two bundles takes a syllable that is a bundle of its own: nothing is in flight, no delay window and no loop is
running, the fetch of the bundle is allowed and the bundle fits (R154, R158, R185). -/
structure Solo (s : State) (h : Head) : Prop where
  ready : canStage s h.core.val = true
  bundle : (coreOf s h.core.val).bundle = []
  inflight : (coreOf s h.core.val).inflight = []
  delay : (coreOf s h.core.val).delay = none
  loops : ∀ k, k < 4 → creg h.core.val (coreOf s h.core.val) (14 + 3 * k) = 0
  fetch : ∀ b, fetchGate (gathering s h.core.val b) h.core.val = (gathering s h.core.val b, none)
  last : h.e = true
  room : (coreOf s h.core.val).pc % 64 + 4 * (h.ks.length + 1) ≤ 64
  limit : h.ks.length < bundleLimit h.core.val

/-- The core of a syllable. -/
def Head.c (s : State) (h : Head) : Core := coreOf s h.core.val

/-- The guard of a syllable reads one (R161). -/
def guardOn (s : State) (h : Head) : Prop := pred h.core.val (h.c s) h.pg.toNat = true

/-- A bundle of `n` syllables has issued on core `p` with the results `fl` in flight: the PC is past it, its cycle and BUNDLES
have counted it, a long operation stalls the core. Nothing else has changed. -/
def issued (s : State) (p n : Nat) (fl : List InFlight) (long : Bool) : State :=
  let c := coreOf s p
  setCore s p { c with
    pc := (c.pc + 4 * n) % 2 ^ 40, cycle := c.cycle + 1, inflight := fl, stall := if long then some .long else none,
    creg := mset c.creg 33 (creg p c 33 + 1) }

/-- A value of latency `lat` for G[d], and the FSTAT flags that land with it (R164, R212). -/
def results (slot cycle lat : Nat) (d : BitVec 6) (v : Word × Word) : List InFlight :=
  ⟨slot, .g d, v.1, cycle + lat - 1⟩ :: if v.2 = 0 then [] else [⟨slot, .flags, v.2, cycle + lat - 1⟩]

/-- A T-format operation whose result is `v` of FCTL, s1, s2 and d, in slot `slot`, with latency `lat`. -/
def TResult (f : TSyl → Instr) (slot lat : Nat) (long : Bool) (v : FCtl → Word → Word → Word → Word × Word) : Prop :=
  ∀ (o : TSyl) (s : State), Solo s o.h → guardOn s o.h → o.h.ks = [] →
    exec (f o) s = .next (issued s o.h.core.val 1
      (results slot (o.h.c s).cycle lat o.d (v (fctlOf (creg o.h.core.val (o.h.c s) 4))
        (greg o.h.core.val (o.h.c s) o.s1.toNat) (greg o.h.core.val (o.h.c s) o.s2.toNat) (greg o.h.core.val (o.h.c s) o.d.toNat))) long)

/-- The same of an operation that reads s1 only; S2 must be zero (R193). -/
def TResult1 (f : TSyl → Instr) (slot lat : Nat) (long : Bool) (v : FCtl → Word → Word × Word) : Prop :=
  ∀ (o : TSyl) (s : State), Solo s o.h → guardOn s o.h → o.h.ks = [] → o.s2 = 0 →
    exec (f o) s = .next (issued s o.h.core.val 1
      (results slot (o.h.c s).cycle lat o.d (v (fctlOf (creg o.h.core.val (o.h.c s) 4))
        (greg o.h.core.val (o.h.c s) o.s1.toNat))) long)

/-- An I-format operation whose result is `v` of s1 and the immediate, with up to `k` K syllables; `slot` is its slot behind them. -/
def IResult (f : ISyl → Instr) (slot : Nat → Nat) (k : Nat) (v : Word → Word → Word) : Prop :=
  ∀ (o : ISyl) (s : State), Solo s o.h → guardOn s o.h → o.h.ks.length ≤ k →
    exec (f o) s = .next (issued s o.h.core.val (o.h.ks.length + 1)
      [⟨slot o.h.ks.length, .g o.d, v (greg o.h.core.val (o.h.c s) o.s1.toNat) (immVal o.h.ks o.imm), (o.h.c s).cycle⟩] false)

/-- A word's low 32 bits sign-extended (R194). -/
def sx32 (w : Word) : Word := (w.setWidth 32).signExtend 64

/-- An integer clipped to signed `w` bits, with QSAT where it is (R196, R197). -/
def clipTo (w : Nat) (i : Int) : Word × Word :=
  let hi : Int := 2 ^ (w - 1) - 1
  let lo : Int := -2 ^ (w - 1)
  (BitVec.ofInt 64 (max lo (min hi i)), if i < lo ∨ hi < i then 0x20 else 0)

/-- A load of `n` bytes at `a` by core `p` completes at once, without error, with the bytes that memory holds. -/
def LoadOk (s : State) (p a n : Nat) : Prop :=
  ∀ b, accessStalls (gathering s p b) p a n false [] = (gathering s p b, none) ∧
    coreLoad (gathering s p b) p a n .good = (gathering s p b, .inr (readBytes s a n))

/-- A store by core `p` is allowed where memory lies in the clear: the tun's own local memory, or Cellar outside the data cache of a
control core. -/
structure StoreOk (s : State) (p a n : Nat) (v : Word) : Prop where
  allowed : ∀ b, (coreStore (gathering s p b) p a n v).2 = none
  place : (isTun p = true ∧ ownWindow p a n = true ∧ (∃ off, regionOf s a = .tun (p - 2) off)) ∨
    (isTun p = false ∧ regionOf s a = .cellar ∧ dline (coreOf s p) (coreReq s p).world a = none)

/-- The address rules of R221: naturally aligned and, for a tun, in its own window. -/
def addressed (p a n : Nat) : Prop := a % n = 0 ∧ (isTun p = true → ownWindow p a n = true)

/-- Every byte of memory reads as before. -/
def sameMem (s t : State) : Prop := ∀ a, readByte t a = readByte s a

/-- Every byte of memory outside `n` bytes at `a` reads as before. -/
def sameMemBut (s t : State) (a n : Nat) : Prop := ∀ x, (x < a ∨ a + n ≤ x) → readByte t x = readByte s x

/-- The core takes an exception of a bundle: it waits for its entry with ECAUSE and EADDR, nothing of the bundle has taken effect
(R169, R290). -/
def trapped (s : State) (p : Nat) (e : Exc) (slot : Nat) : State :=
  modCore s p fun c => { c with event := some ⟨e.code, ecauseOf e slot, e.eaddr % 2 ^ 40⟩ }

/-- A core whose exceptions wait for an entry: not in its escalation handler, not in a firkin order (R150, R305). -/
def entersEvents (s : State) (p : Nat) : Prop :=
  bit (creg p (coreOf s p) 1) 7 = false ∧ bit (creg p (coreOf s p) 1) 3 = false

/-- The state after a bundle of `n` syllables without results, its core changed by `f`. -/
def afterBundle (s : State) (p n : Nat) (f : Core → Core) : State := modCore (issued s p n [] false) p f

/-- Two states that differ in how far core `p`'s pipeline has come, and in nothing that an access or a return looks at. -/
def sameButPipe (s t : State) (p : Nat) : Prop :=
  let c := coreOf s p
  ∃ c' : Core, t = setCore s p c' ∧ c'.phase = c.phase ∧ c'.g = c.g ∧ c'.fastG = c.fastG ∧ c'.dcache = c.dcache ∧ c'.order = c.order ∧
    c'.lastFk = c.lastFk ∧ c'.fkLines = c.fkLines ∧ ∀ n, n ≠ 33 → creg p c' n = creg p c n

/-! Register accesses by commands -/

/-- The write that a register command makes, as the register sees it. -/
def RegAcc.wr (q : RegAcc) : Wr :=
  ⟨if q.wide then q.value else q.value &&& 0xFFFFFFFF, if q.wide then ~~~ 0#64 else 0xFFFFFFFF⟩

/-- A write by a register command reaches the register at `a`: its requester exists, the unit is present and powered, and world,
holder and width are allowed (R7, R26, R37, R112, R607). -/
structure WriteOk (s : State) (q : RegAcc) (a : Nat) : Prop where
  live : reqLive s q.who a = true
  there : ∃ k off, regionOf s a = .unit k off
  check : unitCheck s (reqOf s q.who) a (if q.wide then 8 else 4) true = none
  heard : writeIgnored s (reqOf s q.who) a = false
  on : windowOff s a = false

/-- A read by a register command reaches the register at `a`. -/
structure ReadOk (s : State) (q : RegAcc) (a : Nat) : Prop where
  live : reqLive s q.who a = true
  there : ∃ k off, regionOf s a = .unit k off
  check : unitCheck s (reqOf s q.who) a (if q.wide then 8 else 4) false = none
  on : windowOff s a = false

/-- The requester is boot code: CC0 at Machine level before seal (R46). -/
def byBoot (s : State) (q : RegAcc) : Prop := bootCode s (reqOf s q.who) = true

/-- The requester is at Machine level. -/
def byMachine (s : State) (q : RegAcc) : Prop := (reqOf s q.who).machine = true

/-! Resets -/

/-- What a cold reset leaves, of its causes (R20 to R22): OTP, Keeve and the always-on domain are kept; everything else is at its
reset value, memory but Retention RAM and flash included. -/
structure ColdDone (s t : State) (causes : Nat) : Prop where
  cause : rget t R.SYSCON_RESET_CAUSE = word (causes ||| causesDue s)
  cores : t.cores = []
  eic : t.claims = [] ∧ ∀ k, k < 8 → rget t (R.EIC_PEND k) = 0
  bungs : t.bungs = []
  grants : t.grants = []
  sparge : t.sparge = []
  journal : t.journal = [] ∧ ∀ n, n < 32 → rget t (R.ORDER_QGYLE n) = regReset (R.ORDER_QGYLE n)
  rings : t.ring0 = {} ∧ t.ring1.main = [] ∧ t.ring1.guest = []
  time : t.dtb = 0 ∧ t.servo = {}
  keys : t.copper.keys = [] ∧ t.copper.cx = [] ∧ t.copper.fk = []
  phase : rget t R.PART_PHASE = 0 ∧ rget t R.PART_ESC_PC = 0 ∧ rget t R.PART_ESC_SP = 0
  otp : t.otp = s.otp
  keeve : s.keeve.running = none → t.keeve = s.keeve
  always : rget t R.AON_RTC = rget s R.AON_RTC ∧ rget t R.AON_BOOT_ATTEMPTS = rget s R.AON_BOOT_ATTEMPTS
  kept : ∀ a, regionOf s a = .retention ∨ regionOf s a = .xspi → readByte t a = readByte s a
  lost : ∀ a, regionOf s a = .lpddr ∨ regionOf s a = .cellar ∨ (∃ n o, regionOf s a = .tun n o) → readByte t a = memDefault a
  queue : t.pending = s.pending

/-- What a warm reset leaves (R22, R354): what a cold reset keeps, and also DTB, the journal, the gyle counters, the log rings, LPDDR
and Cellar outside firkin data regions. -/
structure WarmDone (s t : State) (causes : Nat) : Prop where
  cause : rget t R.SYSCON_RESET_CAUSE = rget s R.SYSCON_RESET_CAUSE ||| word causes
  cores : t.cores = []
  eic : t.claims = [] ∧ ∀ k, k < 8 → rget t (R.EIC_PEND k) = 0
  bungs : t.bungs = []
  grants : t.grants = []
  journal : t.journal = s.journal.map fun e =>
    (e.1, { e.2 with st := if e.2.st = .running then .accepted else e.2.st, proc := none, replayed := true, record := [] })
  gyles : ∀ n, n < 32 → rget t (R.ORDER_QGYLE n) = rget s (R.ORDER_QGYLE n)
  rings : s.keeve.running = none → t.ring0 = s.ring0 ∧ t.ring1.main = s.ring1.main ∧ t.ring1.guest = s.ring1.guest
  time : t.dtb = s.dtb ∧ t.servo = s.servo
  keys : t.copper.keys = [] ∧ t.copper.cx = [] ∧ t.copper.fk = []
  phase : rget t R.PART_PHASE = 0 ∧ rget t R.PART_ESC_PC = 0
  otp : t.otp = s.otp
  keeve : s.keeve.running = none → t.keeve = s.keeve
  kept : ∀ a, regionOf s a = .retention ∨ regionOf s a = .xspi ∨ regionOf s a = .lpddr → readByte t a = readByte s a
  cellar : ∀ a, regionOf s a = .cellar → readByte t a =
    if (List.range 32).any (fun i => rgnValid s i && rgnKind s i = 4 && rgnLo s i ≤ a && a < rgnHi s i) then memDefault a
    else readByte s a
  tuns : ∀ a, (∃ n o, regionOf s a = .tun n o) → readByte t a = memDefault a
  scrub : t.boot.phase = .scrub

/-! Boot -/

/-- What a verification failure leaves (R83): it is counted, the slot is toggled, its reason stands in AON_BOOT_LAST, LAST_GOOD is kept,
the gate is closed and a cold reset is held. -/
structure BootFailed (s t : State) (reason : Nat) : Prop where
  counted : rbits t R.AON_BOOT_ATTEMPTS 15 0 = min 0xFFFF (rbits s R.AON_BOOT_ATTEMPTS 15 0 + 1)
  slot : rbit t R.AON_BOOT_STATUS 6 = !(rbit s R.AON_BOOT_STATUS 6)
  reason : rbits t R.AON_BOOT_LAST 7 4 = reason
  good : rbit t R.AON_BOOT_LAST 0 = rbit s R.AON_BOOT_LAST 0
  gate : rbit t R.AON_BOOT_STATUS 7 = false
  cause : rbit t R.SYSCON_RESET_CAUSE 7 = true
  held : t.boot.phase = .retry ∧ t.cores = []

/-- `n` bytes of the selected xSPI slot from offset `o` (R65). -/
def slotBytes (s : State) (o n : Nat) : List Byte := (List.range n).map fun i => flashByte s (slotBase s + o + i)

/-- The boot is from xSPI, with bank E readable. -/
def xspiBoot (s : State) : Prop := rbits s R.AON_BOOT_STATUS 2 0 = 0 ∧ rbits s R.SYSCON_PADV 9 8 ≠ 0

/-! Ports -/

/-- Two states that differ in the registers of unit `k` and in the progress of ports, and in nothing that grants, streams, memory,
cores or wires hold. -/
structure PortOnly (s u : State) (k : Nat) : Prop where
  mem : u.mem = s.mem
  cores : u.cores = s.cores
  grants : u.grants = s.grants
  streams : u.streams = s.streams
  time : u.dtb = s.dtb
  wire : u.wire = s.wire
  queued : u.io.outq = s.io.outq ∧ u.io.held = s.io.held
  regs : ∀ a, a / 0x10000 ≠ 0x4000 + k → rget u a = rget s a

/-- What an event of a port leaves alone: memory, cores, grants, streams. -/
def quiet (s t : State) : Prop := t.mem = s.mem ∧ t.cores = s.cores ∧ t.grants = s.grants ∧ t.streams = s.streams

/-- A saturating 32-bit counter has counted one event (R455). -/
def counted (s t : State) (a : Nat) : Prop := (rget t a).toNat = min 0xFFFFFFFF ((rget s a).toNat + 1)

/-! SUNDIK -/

/-- What a port does with an unsequenced cell that its link carries (R528, R532): its ACK passes held cells, its credits are added, and
waiting cells leave. -/
def heardRaw (s : State) (n : Nat) (c : List Byte) : State :=
  let g := goodBlock s n
  portRekey (sdkFlush (setPort g n (sdkCredits (sdkAck (port g n) (fieldAt c 4 2)) (fieldAt c 6 1))) n) n

/-- What a port does with a sequenced cell whose SEQ is X (R528, R532): X advances, ACK and credits as above, and the cell's credit is
used and owed back. -/
def heardSeq (s : State) (n : Nat) (c : List Byte) : State :=
  let g := goodBlock s n
  let u := portRekey (sdkFlush (setPort g n { sdkCredits (sdkAck (port g n) (fieldAt c 4 2)) (fieldAt c 6 1) with
    x := (port g n).x + 1 }) n) n
  let p := port u n
  let k := cellClass (cType c)
  setPort u n { p with peer := mset p.peer k (mget p.peer k 0 - 1), owed := mset p.owed k (mget p.owed k 0 + 1) }

/-- A plain unsequenced cell of type t that port n carries, its zero fields zero. -/
structure RawCell (s : State) (n t : Nat) (c : List Byte) : Prop where
  typ : cType c = t
  unsequenced : cellSeqd t = false
  carried : portCarries (goodBlock s n) n t = true
  plain : cSealed c = false
  zero : cellZeroOk c = true

/-- A plain sequenced cell of type t that port n carries, with credit, its SEQ the one expected, its zero fields zero, for this device. -/
structure SeqCell (s : State) (n t : Nat) (c : List Byte) : Prop where
  typ : cType c = t
  sequenced : cellSeqd t = true
  carried : portCarries (goodBlock s n) n t = true
  plain : cSealed c = false
  zero : cellZeroOk c = true
  inOrder : cSeq c = (port (goodBlock s n) n).x % 65536
  credit : ∀ u, u = portRekey (sdkFlush (setPort (goodBlock s n) n { sdkCredits (sdkAck (port (goodBlock s n) n) (fieldAt c 4 2)) (fieldAt c 6 1) with
    x := (port (goodBlock s n) n).x + 1 }) n) n → mget (port u n).peer (cellClass t) 0 ≠ 0
  mine : cellLocal t = true ∨ cDst c = myDev (heardSeq s n c)

/-! Taps -/

/-- Engine e runs and is about to start a legal instruction of operation `op` (R559, R574). -/
structure TapAt (s : State) (e op : Nat) : Prop where
  runs : tapRuns s e = true
  start : (tap s e).prog = .start
  op : bits (tapInstr s e) 23 20 = op
  legal : tapBad s e (tapInstr s e) = 0

/-- Registers of engine e: PC and the progress of its instruction after it has ended with `next` as its next address (R559, R561): with DELAY 0
the next instruction starts, else the delay runs. Memory, cores, streams, balls, the other engines and program memory are unchanged. -/
structure TapMoved (s t : State) (e next : Nat) : Prop where
  now : bits (tapInstr s e) 19 14 = 0 → tapPc t e = next ∧ (tap t e).prog = .start
  later : bits (tapInstr s e) 19 14 ≠ 0 → tapPc t e = tapPc s e ∧ (tap t e).prog = .delay next
  goes : rbit t (tapR e 0x14) 10 = false ∧ tapHalted t e = tapHalted s e
  others : ∀ k, k ≠ e → tap t k = tap s k
  program : ∀ b w, b < 4 → w < 64 → rget t (tapB b (0x400 + 4 * w)) = rget s (tapB b (0x400 + 4 * w))
  rest : t.mem = s.mem ∧ t.cores = s.cores ∧ t.streams = s.streams ∧ t.balls = s.balls

/-- ISR, OSR, their counts, X and Y of engine e are unchanged but for the registers at offsets `l` of its block. -/
def tapKeeps (s t : State) (e : Nat) (l : List Nat) : Prop :=
  ∀ o, o ∈ [0x18, 0x1C, 0x20, 0x24, 0x28] → o ∉ l → rget t (tapR e o) = rget s (tapR e o)

/-- An engine's pins and FIFOs are unchanged. -/
def tapStill (s t : State) (e : Nat) : Prop :=
  (tap t e).level = (tap s e).level ∧ (tap t e).oe = (tap s e).oe ∧ (tap t e).ififo = (tap s e).ififo ∧ (tap t e).ofifo = (tap s e).ofifo

/-! HCP -/

/-- HCP takes requests, none runs (nor is the boot being reported) and no response is held (R580, R593). -/
def hcpFree (s : State) : Prop := hcpLive s = true ∧ (hcp s).held = none ∧ hcpRunning s = none

/-- A command runs in HCP whose end answers with this code, SEQ, status and response body (R579, R580, R584). -/
def HcpAnswer (t : State) (cmd : Nat) (seq : Option (BitVec 32)) (st : Nat) (body : List Byte) : Prop :=
  ∃ x, (hcp t).run = some x ∧ x.cmd = cmd ∧ x.seq = seq ∧ x.status = BitVec.ofNat 8 st ∧ x.body = body ∧ x.waits = 0 ∧ rbit t R.HCP_STAT 5 = true

/-- The payload of a session request that is accepted (R584): a session is open, unlocked, SEQ is the next, TAG is the AES-CMAC under
the request key of CMD, LEN, SEQ and body. -/
structure HcpAuth (s : State) (cmd : Nat) (b : List Byte) : Prop where
  free : hcpFree s
  unlocked : rbit s R.HCP_CFG 0 = false
  opened : hcpOpen s = true
  long : 20 ≤ b.length
  seq : fieldAt b 0 4 = (hcp s).seq + 1
  tag : aesCmac (hcp s).reqKey (leBytes 1 cmd ++ leBytes 2 b.length ++ b.take (b.length - 16)) = b.drop (b.length - 16)

/-- What an accepted request leaves of its session: the SEQ accepted and when it was used. -/
def hcpTaken (s : State) (b : List Byte) : State :=
  modHcp s fun h => { h with seq := fieldAt b 0 4, used := (dtbNs s).toNat }

/-- The SEQ of a session request, and its command body. -/
def hcpSeq (b : List Byte) : Option (BitVec 32) := some (BitVec.ofNat 32 (fieldAt b 0 4))
def hcpBody (b : List Byte) : List Byte := sub b 4 (b.length - 20)

end Sys2Proof
end

