-- ==== Sys2Proof/Certificates/Slice0/Obligations.lean ====
section
/-! DEFINITION. The statements for the provers. -/
open Sys2Proof Sys2Proof.Machine

/-! The queue -/

/-- A step takes the command at the front of the queue and is its meaning on the state with the queue's rest; on an empty queue it
answers a next state whose queue is empty (log entry 12). -/
def Obligations.StepRunsFront : Prop :=
  (∀ (c : Instr) (l : List Instr) (s : State), step { s with pending := c :: l } = exec c { s with pending := l }) ∧
  (∀ s : State, Reaches (step { s with pending := [] }) fun t => t.pending = [])

/-! Cores: the operations of spec/07_operation_reference.md -/

/-- R195: the integer arithmetic of the A class, latency 1, no flag.

R196, R197: saturating arithmetic clips, and QSAT is set exactly where it does. -/
def Obligations.IntegerArithmeticAndSaturation : Prop :=
  (
  TResult .add 0 1 false (fun _ a b _ => (a + b, 0)) ∧
  TResult .sub 0 1 false (fun _ a b _ => (a - b, 0)) ∧
  TResult .addw 0 1 false (fun _ a b _ => (sx32 (a + b), 0)) ∧
  TResult .subw 0 1 false (fun _ a b _ => (sx32 (a - b), 0)) ∧
  TResult .min 0 1 false (fun _ a b _ => (if a.sle b then a else b, 0)) ∧
  TResult .max 0 1 false (fun _ a b _ => (if a.sle b then b else a, 0)) ∧
  TResult .minu 0 1 false (fun _ a b _ => (if a.ule b then a else b, 0)) ∧
  TResult .maxu 0 1 false (fun _ a b _ => (if a.ule b then b else a, 0)) ∧
  TResult1 .abs 0 1 false (fun _ a => (if a.slt 0 then -a else a, 0)) ∧
  TResult .absd 0 1 false (fun _ a b _ => (BitVec.ofNat 64 (a.toInt - b.toInt).natAbs, 0)) ∧
  TResult .avg 0 1 false (fun _ a b _ => (BitVec.ofInt 64 ((a.toInt + b.toInt + 1) / 2), 0)) ∧
  IResult .addi id 1 (fun a i => a + i) ∧
  (∀ (p : BitVec 3) (o : TSyl) (s : State), Solo s o.h → guardOn s o.h → o.h.ks = [] →
    exec (.sel p o) s = .next (issued s o.h.core.val 1
      (results 0 (o.h.c s).cycle 1 o.d
        (if pred o.h.core.val (o.h.c s) p.toNat then greg o.h.core.val (o.h.c s) o.s1.toNat
         else greg o.h.core.val (o.h.c s) o.s2.toNat, 0)) false))) ∧
  (
  TResult .adds 0 1 false (fun _ a b _ => clipTo 64 (a.toInt + b.toInt)) ∧
  TResult .subs 0 1 false (fun _ a b _ => clipTo 64 (a.toInt - b.toInt)) ∧
  TResult .addsw 0 1 false (fun _ a b _ => clipTo 32 ((a.setWidth 32).toInt + (b.setWidth 32).toInt)) ∧
  TResult .subsw 0 1 false (fun _ a b _ => clipTo 32 ((a.setWidth 32).toInt - (b.setWidth 32).toInt)) ∧
  TResult .addus 0 1 false (fun _ a b _ =>
    if a.toNat + b.toNat < 2 ^ 64 then (a + b, 0) else (BitVec.allOnes 64, 0x20)) ∧
  TResult .subus 0 1 false (fun _ a b _ => if b.ule a then (a - b, 0) else (0, 0x20)) ∧
  TResult1 .abss 0 1 false (fun _ a => clipTo 64 (a.toInt.natAbs : Int)) ∧
  TResult1 .negs 0 1 false (fun _ a => clipTo 64 (-a.toInt)) ∧
  TResult1 .satw 0 1 false (fun _ a => clipTo 32 a.toInt) ∧
  TResult1 .sath 0 1 false (fun _ a => clipTo 16 a.toInt))

/-- R198, R199, R202, R210 in lanes: lane i of a packed result is the operation on lane i of the operands, reduced to the lane or
clipped to it, and QSAT is set exactly where a lane clips.

R198, R199: packed and fixed-point operations complete with their results. -/
def Obligations.PackedOperations : Prop :=
  (
  ∀ (w : Nat), w = 16 ∨ w = 32 → ∀ (f : Int → Int → Int) (a b : Word) (i : Nat), i < 64 / w →
    lane w (lanes2 w f a b).1 i = uint w (f (laneS w a i) (laneS w b i)) ∧
    (lanes2 w f a b).2 = 0 ∧
    laneS w (lanes2S w f a b).1 i =
      max (-2 ^ (w - 1)) (min (2 ^ (w - 1) - 1) (f (laneS w a i) (laneS w b i))) ∧
    (lanes2S w f a b).2 =
      (if ∃ j, j < 64 / w ∧ (f (laneS w a j) (laneS w b j) < -2 ^ (w - 1) ∨ 2 ^ (w - 1) - 1 < f (laneS w a j) (laneS w b j))
       then 0x20 else 0)) ∧
  (
  TResult .paddh 0 1 false (fun _ a b _ => lanes2 16 (fun x y => x + y) a b) ∧
  TResult .psubh 0 1 false (fun _ a b _ => lanes2 16 (fun x y => x - y) a b) ∧
  TResult .paddsh 0 1 false (fun _ a b _ => lanes2S 16 (fun x y => x + y) a b) ∧
  TResult .psubsh 0 1 false (fun _ a b _ => lanes2S 16 (fun x y => x - y) a b) ∧
  TResult .paddw 0 1 false (fun _ a b _ => lanes2 32 (fun x y => x + y) a b) ∧
  TResult .psubw 0 1 false (fun _ a b _ => lanes2 32 (fun x y => x - y) a b) ∧
  TResult .paddsw 0 1 false (fun _ a b _ => lanes2S 32 (fun x y => x + y) a b) ∧
  TResult .psubsw 0 1 false (fun _ a b _ => lanes2S 32 (fun x y => x - y) a b) ∧
  TResult .pmaxh 0 1 false (fun _ a b _ => lanes2 16 max a b) ∧
  TResult .pminh 0 1 false (fun _ a b _ => lanes2 16 min a b) ∧
  TResult1 .pabssh 0 1 false (fun _ a => lanes2S 16 (fun x _ => (x.natAbs : Int)) a a) ∧
  TResult .qmul15 2 3 false (fun _ a b _ => clipTo 16 (((a.setWidth 16).toInt * (b.setWidth 16).toInt + 2 ^ 14) / 2 ^ 15)) ∧
  TResult .qmul31 2 3 false (fun _ a b _ => clipTo 32 (((a.setWidth 32).toInt * (b.setWidth 32).toInt + 2 ^ 30) / 2 ^ 31)) ∧
  TResult .qmac31 2 3 false (fun _ a b d => clipTo 64 (d.toInt + (a.setWidth 32).toInt * (b.setWidth 32).toInt)) ∧
  TResult .qmsu31 2 3 false (fun _ a b d => clipTo 64 (d.toInt - (a.setWidth 32).toInt * (b.setWidth 32).toInt)) ∧
  TResult .pqmul15 2 3 false (fun _ a b _ => lanes2S 16 (fun x y => (x * y + 2 ^ 14) / 2 ^ 15) a b) ∧
  TResult1 .qrnd31 2 3 false (fun _ a => clipTo 32 ((a.toInt + 2 ^ 30) / 2 ^ 31)))

/-- R200, R204, R205: logic, permutes and constants.

R201 to R203: bit fields and shifts. -/
def Obligations.LogicShiftsAndBitFields : Prop :=
  (
  TResult .and 0 1 false (fun _ a b _ => (a &&& b, 0)) ∧
  TResult .or 0 1 false (fun _ a b _ => (a ||| b, 0)) ∧
  TResult .xor 0 1 false (fun _ a b _ => (a ^^^ b, 0)) ∧
  TResult .andn 0 1 false (fun _ a b _ => (a &&& ~~~b, 0)) ∧
  TResult .orn 0 1 false (fun _ a b _ => (a ||| ~~~b, 0)) ∧
  TResult .xnor 0 1 false (fun _ a b _ => (~~~(a ^^^ b), 0)) ∧
  TResult .nand 0 1 false (fun _ a b _ => (~~~(a &&& b), 0)) ∧
  TResult .nor 0 1 false (fun _ a b _ => (~~~(a ||| b), 0)) ∧
  IResult .andi id 1 (fun a i => a &&& i) ∧
  IResult .ori id 1 (fun a i => a ||| i) ∧
  IResult .xori id 1 (fun a i => a ^^^ i) ∧
  TResult .packw 6 1 false (fun _ a b _ => ((b.extractLsb' 0 32 : BitVec 32) ++ (a.extractLsb' 0 32 : BitVec 32), 0)) ∧
  TResult .ziploh 6 1 false (fun _ a b _ =>
    ((b.extractLsb' 16 16 : BitVec 16) ++ (a.extractLsb' 16 16 : BitVec 16) ++ (b.extractLsb' 0 16 : BitVec 16) ++
      (a.extractLsb' 0 16 : BitVec 16), 0)) ∧
  TResult .ziphih 6 1 false (fun _ a b _ =>
    ((b.extractLsb' 48 16 : BitVec 16) ++ (a.extractLsb' 48 16 : BitVec 16) ++ (b.extractLsb' 32 16 : BitVec 16) ++
      (a.extractLsb' 32 16 : BitVec 16), 0)) ∧
  TResult .shufb 6 1 false (fun _ a b _ => (BitVec.ofNat 64 (leNat ((List.range 8).map fun i =>
    if b.getLsbD (4 * i + 3) then 0 else a.extractLsb' (8 * (b.extractLsb' (4 * i) 3).toNat) 8)), 0)) ∧
  TResult1 .splatb 6 1 false (fun _ a => (BitVec.ofNat 64 (0x0101010101010101 * (a.toNat % 2 ^ 8)), 0)) ∧
  TResult1 .splath 6 1 false (fun _ a => (BitVec.ofNat 64 (0x0001000100010001 * (a.toNat % 2 ^ 16)), 0)) ∧
  TResult1 .splatw 6 1 false (fun _ a => (BitVec.ofNat 64 (0x0000000100000001 * (a.toNat % 2 ^ 32)), 0)) ∧
  TResult1 .sextb 6 1 false (fun _ a => ((a.setWidth 8).signExtend 64, 0)) ∧
  TResult1 .sexth 6 1 false (fun _ a => ((a.setWidth 16).signExtend 64, 0)) ∧
  TResult1 .sextw 6 1 false (fun _ a => (sx32 a, 0)) ∧
  TResult1 .zextw 6 1 false (fun _ a => ((a.setWidth 32).setWidth 64, 0)) ∧
  (∀ (o : ISyl) (s : State), Solo s o.h → guardOn s o.h → o.h.ks.length ≤ 2 → o.s1 = 0 →
    exec (.movi o) s = .next (issued s o.h.core.val (o.h.ks.length + 1)
      [⟨6, .g o.d, immVal o.h.ks o.imm, (o.h.c s).cycle⟩] false) ∧
    exec (.addpc o) s = .next (issued s o.h.core.val (o.h.ks.length + 1)
      [⟨6, .g o.d, BitVec.ofNat 64 (o.h.c s).pc + immVal o.h.ks o.imm * 4, (o.h.c s).cycle⟩] false))) ∧
  (
  TResult .sll 6 1 false (fun _ a b _ => (a <<< (b.toNat % 64), 0)) ∧
  TResult .srl 6 1 false (fun _ a b _ => (a >>> (b.toNat % 64), 0)) ∧
  TResult .sra 6 1 false (fun _ a b _ => (a.sshiftRight (b.toNat % 64), 0)) ∧
  TResult .rol 6 1 false (fun _ a b _ => (a.rotateLeft (b.toNat % 64), 0)) ∧
  TResult .ror 6 1 false (fun _ a b _ => (a.rotateRight (b.toNat % 64), 0)) ∧
  TResult .sllw 6 1 false (fun _ a b _ => (((a.setWidth 32) <<< (b.toNat % 32)).signExtend 64, 0)) ∧
  TResult .srlw 6 1 false (fun _ a b _ => (((a.setWidth 32) >>> (b.toNat % 32)).signExtend 64, 0)) ∧
  TResult .sraw 6 1 false (fun _ a b _ => (((a.setWidth 32).sshiftRight (b.toNat % 32)).signExtend 64, 0)) ∧
  TResult .sls 6 1 false (fun _ a b _ => clipTo 64 (a.toInt * 2 ^ (b.toNat % 64))) ∧
  TResult .srar 6 1 false (fun _ a b _ =>
    (BitVec.ofInt 64 (if b.toNat % 64 = 0 then a.toInt else (a.toInt + 2 ^ (b.toNat % 64 - 1)) / 2 ^ (b.toNat % 64)), 0)) ∧
  (∀ (o : ISyl) (s : State), Solo s o.h → guardOn s o.h → o.h.ks = [] → o.imm.toNat / 64 < 10 →
    ¬ (5 ≤ o.imm.toNat / 64 ∧ o.imm.toNat / 64 ≤ 7 ∧ o.imm.getLsbD 5) →
    exec (.shifti o) s = .next (issued s o.h.core.val 1 (results 6 (o.h.c s).cycle 1 o.d
      (shiftOp (o.imm.toNat / 64) (greg o.h.core.val (o.h.c s) o.s1.toNat) (o.imm.toNat % 64))) false)) ∧
  TResult .extu 6 1 false (fun _ a b _ =>
    let pos := b.toNat % 64
    (BitVec.ofNat 64 ((a.toNat / 2 ^ pos) % 2 ^ min (b.toNat / 64 % 128) (64 - pos)), 0)) ∧
  TResult .exts 6 1 false (fun _ a b _ => (bfExtS a b, 0)) ∧
  TResult .ins 6 1 false (fun _ a b d => (bfIns d a b, 0)) ∧
  TResult1 .clz 6 1 false (fun _ a => (BitVec.ofNat 64 (if a = 0 then 64 else 63 - a.toNat.log2), 0)) ∧
  TResult1 .ctz 6 1 false (fun _ a => (word (ctz64 a), 0)) ∧
  TResult1 .popc 6 1 false (fun _ a => (word (popc64 a), 0)) ∧
  TResult1 .brev 6 1 false (fun _ a => (a.reverse, 0)) ∧
  TResult1 .bswap 6 1 false (fun _ a => (bswap64 a, 0)) ∧
  TResult1 .bswapw 6 1 false (fun _ a => (bswap32 a, 0)))

/-- R207 to R209: a compare, FCMP or PLOG writes Pd, and its partner's complement where D[3] is 1.

R208: CMPI and CMPIU compare s1 with the immediate under the condition of D[5:4]. -/
def Obligations.ComparesWritePredicates : Prop :=
  (
  ∀ (o : TSyl) (s : State), Solo s o.h → guardOn s o.h → o.h.ks = [] → o.d.toNat < 16 → bits (creg o.h.core.val (o.h.c s) 8) 1 0 = 0 →
    let p := o.h.core.val
    let c := o.h.c s
    let wr (v : Bool) : List InFlight :=
      ⟨0, .p (o.d.setWidth 3), if v then 1 else 0, c.cycle⟩ ::
        if o.d.getLsbD 3 then [⟨0, .p (o.d.setWidth 3 ^^^ 1), if v then 0 else 1, c.cycle⟩] else []
    let a := greg p c o.s1.toNat
    let b := greg p c o.s2.toNat
    (∀ k, exec (.cmp k o) s = .next (issued s p 1 (wr (match k with
      | .eq => a == b | .ne => a != b | .lt => a.slt b | .ge => b.sle a | .ltu => a.ult b | .geu => b.ule a
      | .any => a &&& b != 0 | .none => a &&& b == 0)) false)) ∧
    (o.s1.toNat < 8 → o.s2.toNat < 8 → ∀ f, exec (.plog f o) s = .next (issued s p 1 (wr (
      let x := pred p c o.s1.toNat
      let y := pred p c o.s2.toNat
      match f with | .pand => x && y | .por => x || y | .pxor => x ^^ y | .pandn => x && !y | .porn => x || !y)) false)) ∧
    (∀ k f, exec (.fcmp k f o) s = .next (issued s p 1
      (let r := fcmpVal k (fmtOf f) (fctlOf (creg p c 4)) a.toNat b.toNat
       wr r.1 ++ if r.2 = 0 then [] else [⟨0, .flags, r.2, c.cycle⟩]) false))) ∧
  (
  ∀ (o : ISyl) (s : State), Solo s o.h → guardOn s o.h → o.h.ks.length ≤ 1 → bits (creg o.h.core.val (o.h.c s) 8) 1 0 = 0 →
    let p := o.h.core.val
    let c := o.h.c s
    let k := o.h.ks.length
    let wr (v : Bool) : List InFlight :=
      ⟨k, .p (o.d.setWidth 3), if v then 1 else 0, c.cycle⟩ ::
        if o.d.getLsbD 3 then [⟨k, .p (o.d.setWidth 3 ^^^ 1), if v then 0 else 1, c.cycle⟩] else []
    let a := greg p c o.s1.toNat
    let b := immVal o.h.ks o.imm
    exec (.cmpi o) s = .next (issued s p (k + 1) (wr (match o.d.toNat / 16 with
      | 0 => a == b | 1 => a != b | 2 => a.slt b | _ => b.sle a)) false) ∧
    exec (.cmpiu o) s = .next (issued s p (k + 1) (wr (match o.d.toNat / 16 with
      | 0 => a.ult b | 1 => b.ule a | 2 => a &&& b != 0 | _ => a &&& b == 0)) false))

/-- R210, R211: multiply, accumulate and divide; a divide stalls its core, and its result is fixed for every operand.

Where the spec is silent it rests on the model's choices of log entry 27. -/
def Obligations.MultiplyAndDivide : Prop :=
  TResult .mul 2 3 false (fun _ a b _ => (a * b, 0)) ∧
  TResult .mulh 2 3 false (fun _ a b _ => (BitVec.ofInt 64 (a.toInt * b.toInt / 2 ^ 64), 0)) ∧
  TResult .mulhu 2 3 false (fun _ a b _ => (BitVec.ofNat 64 (a.toNat * b.toNat / 2 ^ 64), 0)) ∧
  TResult .mulw 2 3 false (fun _ a b _ => (BitVec.ofInt 64 ((a.setWidth 32).toInt * (b.setWidth 32).toInt), 0)) ∧
  TResult .mulwu 2 3 false (fun _ a b _ => (BitVec.ofNat 64 ((a.toNat % 2 ^ 32) * (b.toNat % 2 ^ 32)), 0)) ∧
  TResult .mac 2 3 false (fun _ a b d => (d + a * b, 0)) ∧
  TResult .msu 2 3 false (fun _ a b d => (d - a * b, 0)) ∧
  TResult .macw 2 3 false (fun _ a b d => (d + BitVec.ofInt 64 ((a.setWidth 32).toInt * (b.setWidth 32).toInt), 0)) ∧
  TResult .pmulh 2 3 false (fun _ a b _ => lanes2 16 (fun x y => x * y) a b) ∧
  TResult .pdoth 2 3 false (fun _ a b d => (d + BitVec.ofInt 64 (laneS 16 a 0 * laneS 16 b 0 + laneS 16 a 1 * laneS 16 b 1 +
    laneS 16 a 2 * laneS 16 b 2 + laneS 16 a 3 * laneS 16 b 3), 0)) ∧
  TResult .div 2 1 true (fun _ a b _ => (if b = 0 then BitVec.allOnes 64 else a.sdiv b, 0)) ∧
  TResult .divu 2 1 true (fun _ a b _ => (if b = 0 then BitVec.allOnes 64 else a.udiv b, 0)) ∧
  TResult .rem 2 1 true (fun _ a b _ => (if b = 0 then a else a.srem b, 0)) ∧
  TResult .remu 2 1 true (fun _ a b _ => (if b = 0 then a else a.umod b, 0)) ∧
  TResult .divw 2 1 true (fun _ a b _ =>
    (if b.setWidth 32 = 0#32 then BitVec.allOnes 64 else ((a.setWidth 32).sdiv (b.setWidth 32)).signExtend 64, 0)) ∧
  TResult .divwu 2 1 true (fun _ a b _ =>
    (if b.setWidth 32 = 0#32 then BitVec.allOnes 64 else ((a.setWidth 32).udiv (b.setWidth 32)).signExtend 64, 0))

/-- R212 to R217: floating point completes with its value and flags: scalar operations, packed ones lane by lane, conversions. A
divide or square root stalls its core.

R213, R214, R241: FNEG, FABS and FCPYS change the sign bit only and raise no flag, in every format, whatever the operand
holds, a NaN as well; a sum, difference or product that is a NaN is the canonical one.

Where the spec is silent it rests on the model's choices of log entry 27. -/
def Obligations.FloatingPointOperations : Prop :=
  (
  (∀ f : Fmt,
    let lat := if f = .d then 5 else 4
    let r (n : Nat) : FCtl → Word → Word → Word → Word × Word := fun c a b d =>
      let x := fop n (fmtOf f) c d.toNat a.toNat b.toNat
      (BitVec.ofNat 64 x.1, x.2)
    TResult (.fadd f) 2 lat false (r 0) ∧ TResult (.fsub f) 2 lat false (r 1) ∧ TResult (.fmul f) 2 lat false (r 2) ∧
    TResult (.fma f) 2 lat false (r 3) ∧ TResult (.fms f) 2 lat false (r 4) ∧ TResult (.fmin f) 2 lat false (r 5) ∧
    TResult (.fmax f) 2 lat false (r 6) ∧ TResult (.fdiv f) 2 1 true (r 7) ∧
    TResult1 (.fsqrt f) 2 1 true (fun c a => r 8 c a 0 0) ∧ TResult1 (.fneg f) 2 lat false (fun c a => r 9 c a 0 0) ∧
    TResult1 (.fabs f) 2 lat false (fun c a => r 10 c a 0 0) ∧ TResult (.fcpys f) 2 lat false (r 11)) ∧
  (∀ f : PFmt,
    TResult (.pfadd f) 2 4 false (fun c a b d => plop 0 (pfmtOf f) c d a b) ∧
    TResult (.pfmul f) 2 4 false (fun c a b d => plop 2 (pfmtOf f) c d a b) ∧
    TResult (.pfma f) 2 4 false (fun c a b d => plop 3 (pfmtOf f) c d a b)) ∧
  (let cv (g h : FloatFmt) : FCtl → Word → Word × Word := fun c a =>
      let x := fcvt g h c a.toNat
      (BitVec.ofNat 64 x.1, x.2)
   TResult1 .cvtSD 2 4 false (cv ⟨11, 52⟩ ⟨8, 23⟩) ∧ TResult1 .cvtDS 2 4 false (cv ⟨8, 23⟩ ⟨11, 52⟩) ∧
   TResult1 .cvtHS 2 4 false (cv ⟨8, 23⟩ ⟨5, 10⟩) ∧ TResult1 .cvtSH 2 4 false (cv ⟨5, 10⟩ ⟨8, 23⟩) ∧
   TResult1 .cvtBfS 2 4 false (cv ⟨8, 23⟩ ⟨8, 7⟩) ∧ TResult1 .cvtSBf 2 4 false (cv ⟨8, 7⟩ ⟨8, 23⟩) ∧
   TResult1 .cvtWS 2 4 false (fun c a => fToInt ⟨8, 23⟩ c c.rm 32 a.toNat) ∧
   TResult1 .trcWS 2 4 false (fun c a => fToInt ⟨8, 23⟩ c 1 32 a.toNat) ∧
   TResult1 .cvtLD 2 4 false (fun c a => fToInt ⟨11, 52⟩ c c.rm 64 a.toNat) ∧
   TResult1 .trcLD 2 4 false (fun c a => fToInt ⟨11, 52⟩ c 1 64 a.toNat) ∧
   TResult1 .cvtSW 2 4 false (fun c a => let x := fOfInt ⟨8, 23⟩ c (a.setWidth 32).toInt; (BitVec.ofNat 64 x.1, x.2)) ∧
   TResult1 .cvtDL 2 4 false (fun c a => let x := fOfInt ⟨11, 52⟩ c a.toInt; (BitVec.ofNat 64 x.1, x.2)))) ∧
  (
  ∀ (f : Fmt) (c : FCtl) (d x y : Nat),
    let g := fmtOf f
    let w := 1 + g.ew + g.fw
    let m := x % 2 ^ (w - 1)
    fop 9 g c d x y = (m + (if x.testBit (w - 1) then 0 else 2 ^ (w - 1)), 0) ∧
    fop 10 g c d x y = (m, 0) ∧
    fop 11 g c d x y = (m + (if y.testBit (w - 1) then 2 ^ (w - 1) else 0), 0) ∧
    (∀ n, n ≤ 2 → ((fop n g c d x y).1 / 2 ^ g.fw) % 2 ^ g.ew = 2 ^ g.ew - 1 → (fop n g c d x y).1 % 2 ^ g.fw ≠ 0 →
      (fop n g c d x y).1 = (2 ^ g.ew - 1) * 2 ^ g.fw + 2 ^ (g.fw - 1)))

/-- R218, R219, R253 to R256: exact accumulation on a tun that has it: the exact sum of products is on its way to XAn with the
record bits of special operands, XCLR clears both, and XRD rounds what has landed once; an accumulation that lands wraps modulo 2^704 and
sets OVF exactly where the exact sum leaves the range.

Where the spec is silent it rests on the model's choices of log entry 26. -/
def Obligations.ExactAccumulate : Prop :=
  (∀ (o : TSyl) (s : State), Solo s o.h → guardOn s o.h → o.h.ks = [] → 2 ≤ o.h.core.val → hasExa s = true → o.d.toNat < 4 →
    let p := o.h.core.val
    let c := o.h.c s
    let a := (greg p c o.s1.toNat).toNat
    let b := (greg p c o.s2.toNat).toNat
    let n : BitVec 2 := o.d.setWidth 2
    let acc (r : Int × BitVec 5) : List InFlight :=
      ⟨2, .xadd n (BitVec.ofInt 704 r.1), 0, c.cycle + 3⟩ :: if r.2 = 0 then [] else [⟨2, .xrec n r.2, 0, c.cycle + 3⟩]
    (∀ f, exec (.xmac f o) s = .next (issued s p 1 (acc (xprod (pfmtOf f) false a b)) false)) ∧
    (∀ f, exec (.xmsu f o) s = .next (issued s p 1 (acc (xprod (pfmtOf f) true a b)) false)) ∧
    (∀ f, exec (.xdot f o) s = .next (issued s p 1 (acc (xsum (pfmtOf f) false
      ((List.range (64 / (pfmtOf f).width)).map fun i =>
        (lane (pfmtOf f).width (greg p c o.s1.toNat) i, lane (pfmtOf f).width (greg p c o.s2.toNat) i)))) false)) ∧
    (o.s1 = 0 → o.s2 = 0 → exec (.xclr o) s = .next (issued s p 1 [⟨2, .xclr n, 0, c.cycle + 3⟩, ⟨2, .xrecClr n, 0, c.cycle + 3⟩] false))) ∧
  (∀ (f : Fmt) (o : TSyl) (s : State), Solo s o.h → guardOn s o.h → o.h.ks = [] → 2 ≤ o.h.core.val → hasExa s = true →
    o.s1.toNat < 4 → o.s2 = 0 →
    let c := o.h.c s
    let r := xread (fmtOf f) (fctlOf (creg o.h.core.val c 4)) (mget c.xa o.s1.toNat 0) ((creg o.h.core.val c 48 >>> (8 * o.s1.toNat)).setWidth 5)
    exec (.xrd f o) s = .next (issued s o.h.core.val 1 (results 2 c.cycle 1 o.d (BitVec.ofNat 64 r.1, r.2)) true)) ∧
  (∀ a x : Xacc, (xacc a x).1 = a + x ∧
    ((xacc a x).2 = 0 ↔ -2 ^ 703 ≤ a.toInt + x.toInt ∧ a.toInt + x.toInt < 2 ^ 703))

/-- R161: a syllable whose guard reads zero has no effect but the issue of its bundle.

R193: a field that a row marks zero and that is not zero makes the core take ILLEGAL_OP, cause BAD_OPCODE.

Where the spec is silent it rests on the model's choices of log entry 24. -/
def Obligations.GuardsAndZeroFields : Prop :=
  (
  ∀ (o : TSyl) (s : State), Solo s o.h → pred o.h.core.val (o.h.c s) o.h.pg.toNat = false → o.h.ks = [] →
    let t := issued s o.h.core.val 1 [] false
    exec (.add o) s = .next t ∧ exec (.adds o) s = .next t ∧ exec (.mul o) s = .next t ∧ exec (.div o) s = .next t ∧
    exec (.fadd .s o) s = .next t ∧ exec (.xmac .h o) s = .next t ∧ exec (.sll o) s = .next t ∧ exec (.gpush o) s = .next t ∧
    exec (.spgo o) s = .next t ∧ exec (.jr o) s = .next t ∧ exec (.trap o) s = .next t ∧ exec (.eret o) s = .next t ∧
    exec (.odone o) s = .next t ∧ exec (.mcall o) s = .next t) ∧
  (
  ∀ (o : TSyl) (s : State), Solo s o.h → guardOn s o.h → o.h.ks = [] → entersEvents s o.h.core.val → o.s2 ≠ 0 →
    let t (slot : Nat) := trapped s o.h.core.val { code := 0x02, sub := 1 } slot
    exec (.abs o) s = .next (t 0) ∧ exec (.negs o) s = .next (t 0) ∧ exec (.pabssh o) s = .next (t 0) ∧
    exec (.qrnd31 o) s = .next (t 2) ∧ exec (.fsqrt .s o) s = .next (t 2) ∧ exec (.cvtSD o) s = .next (t 2) ∧
    exec (.clz o) s = .next (t 6) ∧ exec (.sextb o) s = .next (t 6) ∧ exec (.jr o) s = .next (t 7) ∧
    exec (.settle o) s = .next (t 7) ∧ exec (.eret o) s = .next (t 7))

/-- R220, R221: a load reads n bytes at s1 + OFF × n, sign- or zero-extended, with latency 4.

Where the spec is silent it rests on the model's choices of log entries 15 and 16. -/
def Obligations.Loads : Prop :=
  ∀ (o : ISyl) (s : State), Solo s o.h → guardOn s o.h → o.h.ks.length ≤ 2 →
    let p := o.h.core.val
    let c := o.h.c s
    let ea (n : Nat) : Nat := (greg p c o.s1.toNat + immVal o.h.ks o.imm * BitVec.ofNat 64 n).toNat
    let ok (n : Nat) : Prop := addressed p (ea n) n ∧ LoadOk s p (ea n) n
    let got (v : Word) : Host.Outcome State Fault Refusal :=
      .next (issued s p (o.h.ks.length + 1) [⟨4, .g o.d, v, c.cycle + 3⟩] false)
    let raw (n : Nat) : BitVec (8 * n) := BitVec.ofNat (8 * n) (leNat (readBytes s (ea n) n))
    (ok 1 → exec (.ldB o .good) s = got ((raw 1).signExtend 64) ∧ exec (.ldBu o .good) s = got ((raw 1).setWidth 64)) ∧
    (ok 2 → exec (.ldH o .good) s = got ((raw 2).signExtend 64) ∧ exec (.ldHu o .good) s = got ((raw 2).setWidth 64)) ∧
    (ok 4 → exec (.ldW o .good) s = got ((raw 4).signExtend 64) ∧ exec (.ldWu o .good) s = got ((raw 4).setWidth 64)) ∧
    (ok 8 → exec (.ldD o .good) s = got ((raw 8).setWidth 64))

/-- R220, R221: a store writes the low n bytes of d at s1 + OFF × n, G0 storing zero, and no other byte; the registers of its core
are as before.

R221: an address that is not a multiple of the size takes ALIGN with EADDR the address, on every core and wherever it lies; nothing
else changes.

Where the spec is silent it rests on the model's choices of log entries 15 and 16. -/
def Obligations.StoresAndAlignment : Prop :=
  (
  ∀ (o : ISyl) (s : State), Solo s o.h → guardOn s o.h → o.h.ks.length ≤ 2 →
    let p := o.h.core.val
    let c := o.h.c s
    let ea (n : Nat) : Nat := (greg p c o.s1.toNat + immVal o.h.ks o.imm * BitVec.ofNat 64 n).toNat
    let v := greg p c o.d.toNat
    let ok (n : Nat) : Prop := addressed p (ea n) n ∧ StoreOk s p (ea n) n v
    let done (n : Nat) (r : Host.Outcome State Fault Refusal) : Prop := Reaches r fun t =>
      readBytes t (ea n) n = leBytes n v.toNat ∧ sameMemBut s t (ea n) n ∧ t.regs = s.regs ∧
      (coreOf t p).g = c.g ∧ (coreOf t p).p = c.p ∧ (coreOf t p).inflight = [] ∧
      (coreOf t p).pc = (c.pc + 4 * (o.h.ks.length + 1)) % 2 ^ 40 ∧ ∀ q, q ≠ p → coreOf t q = coreOf s q
    (ok 1 → done 1 (exec (.stB o) s)) ∧ (ok 2 → done 2 (exec (.stH o) s)) ∧
    (ok 4 → done 4 (exec (.stW o) s)) ∧ (ok 8 → done 8 (exec (.stD o) s))) ∧
  (
  ∀ (o : ISyl) (s : State), Solo s o.h → guardOn s o.h → o.h.ks.length ≤ 2 → entersEvents s o.h.core.val →
    let p := o.h.core.val
    let ea (n : Nat) : Nat := (greg p (o.h.c s) o.s1.toNat + immVal o.h.ks o.imm * BitVec.ofNat 64 n).toNat
    let t (n : Nat) := trapped s p { code := 0x05, eaddr := ea n } 4
    (ea 2 % 2 ≠ 0 → exec (.ldH o .good) s = .next (t 2) ∧ exec (.ldHu o .good) s = .next (t 2) ∧ exec (.stH o) s = .next (t 2)) ∧
    (ea 4 % 4 ≠ 0 → exec (.ldW o .good) s = .next (t 4) ∧ exec (.ldWu o .good) s = .next (t 4) ∧ exec (.stW o) s = .next (t 4)) ∧
    (ea 8 % 8 ≠ 0 → exec (.ldD o .good) s = .next (t 8) ∧ exec (.stD o) s = .next (t 8)))

/-- R222, R223: grant operations of a tun that is the side of the grant they name: a pop takes the oldest entry into D, with its
sideband into S1, a push adds s1 with its sideband, GLEVEL and GSPACE read the two levels. Memory does not change.

R222 to R224, R268, R276: a pop of an empty grant and a push to a full one leave their bundle waiting; SPWAIT completes where the tun
has nothing outstanding on the channel and waits otherwise; SPGO posts to a channel with room.

Where the spec is silent it rests on the model's choices of log entries 27 and 28. -/
def Obligations.GrantAndWaitingOperations : Prop :=
  (
  ∀ (o : TSyl) (s : State), Solo s o.h → guardOn s o.h → o.h.ks = [] → 2 ≤ o.h.core.val →
    let p := o.h.core.val
    let c := o.h.c s
    let n := o.s2.toNat
    let q := (grantOf s n).q
    let same (t : State) : Prop := t.mem = s.mem ∧ (coreOf t p).g = c.g ∧ (coreOf t p).pc = (c.pc + 4) % 2 ^ 40
    grantOn s n = true → ¬ (coreWorld p c = .normal ∧ grantSecure s n = true) →
    (grantReader s n = p → 1 ≤ rlevel s n → ∀ e r, q = e :: r →
      (o.s1 = 0 → Reaches (exec (.gpop o .good) s) fun t =>
        (grantOf t n).q = r ∧ (coreOf t p).inflight = [⟨4, .g o.d, e.val, c.cycle + 3⟩] ∧ same t) ∧
      (grantTs s n = true → Reaches (exec (.gpopt o .good) s) fun t =>
        (grantOf t n).q = r ∧
        (coreOf t p).inflight = [⟨4, .g o.d, e.val, c.cycle + 3⟩, ⟨4, .g o.s1, e.side, c.cycle + 3⟩] ∧ same t)) ∧
    (grantReader s n = p → o.s1 = 0 →
      exec (.glevel o) s = .next (issued s p 1 [⟨4, .g o.d, BitVec.ofNat 64 (rlevel s n), c.cycle + 3⟩] false)) ∧
    (grantWriter s n = p → wlevel s n + 1 ≤ grantDepth s n →
      (o.d = 0 → Reaches (exec (.gpush o) s) fun t =>
        (grantOf t n).q.length = q.length + 1 ∧ (grantOf t n).q.take q.length = q ∧
        ((grantOf t n).q.getLast?.map GEntry.val) = some (greg p c o.s1.toNat) ∧ (coreOf t p).inflight = [] ∧ same t) ∧
      Reaches (exec (.gpusht o) s) fun t =>
        (grantOf t n).q.take q.length = q ∧
        (grantOf t n).q.getLast? = some ⟨greg p c o.s1.toNat, if grantTs s n then greg p c o.d.toNat else 0, s.dtb.toNat⟩ ∧
        (coreOf t p).inflight = [] ∧ same t) ∧
    (grantWriter s n = p → o.s1 = 0 →
      exec (.gspace o) s = .next (issued s p 1 [⟨4, .g o.d, BitVec.ofNat 64 (grantDepth s n - wlevel s n), c.cycle + 3⟩] false))) ∧
  (
  ∀ (o : TSyl) (s : State), Solo s o.h → guardOn s o.h → o.h.ks = [] → 2 ≤ o.h.core.val →
    let p := o.h.core.val
    let c := o.h.c s
    let n := o.s2.toNat
    let stalls (w : StallWhy) (r : Host.Outcome State Fault Refusal) : Prop := Reaches r fun t =>
      (coreOf t p).stall = some w ∧ (coreOf t p).pc = c.pc ∧ (coreOf t p).g = c.g ∧ (coreOf t p).inflight = [] ∧
      t.mem = s.mem ∧ t.grants = s.grants ∧ t.regs = s.regs
    (grantOn s n = true → ¬ (coreWorld p c = .normal ∧ grantSecure s n = true) →
      (grantReader s n = p → rlevel s n = 0 → o.s1 = 0 → stalls (.grant o.s2) (exec (.gpop o .good) s)) ∧
      (grantWriter s n = p → grantDepth s n ≤ wlevel s n → o.d = 0 → stalls (.grant o.s2) (exec (.gpush o) s))) ∧
    (n < spargeChannels s → ¬ (coreWorld p c = .normal ∧ spSecure s n = true) →
      (o.d = 0 → o.s1 = 0 → spOutstanding s n (p - 2) = false → exec (.spwait o) s = .next (issued s p 1 [] false)) ∧
      (o.d = 0 → o.s1 = 0 → spOutstanding s n (p - 2) = true → stalls (.spWait (o.s2.setWidth 5)) (exec (.spwait o) s)) ∧
      (o.d = 0 → (greg p c o.s1.toNat).toNat % 64 = 0 → ownWindow p (tunAddr p (greg p c o.s1.toNat).toNat) 64 = true →
        (spQueue s n).length < 8 → Reaches (exec (.spgo o) s) fun t =>
          (spQueue t n).length = (spQueue s n).length + 1 ∧ (spQueue t n).take (spQueue s n).length = spQueue s n ∧
          (coreOf t p).pc = (c.pc + 4) % 2 ^ 40 ∧ (coreOf t p).g = c.g ∧ (coreOf t p).inflight = [])))

/-- R168, R225 to R228: a taken branch opens a delay window of two bundles with its target, CALL linking G62 and JALR G[D]; LOOP and LOOPI arm
their level with the next bundle as its start; a control transfer inside a delay window is refused.

R174, R229, R230: SETTLE applies the pending control-register writes, FENCE and NOP only issue, WAIT ends at once while an interrupt is pending
for its core and waits otherwise, ODONE opens the last delay window of an order's attempt with its status; TRAP, MCALL and SCALL take
their exceptions.

Where the spec is silent it rests on the model's choices of log entries 18, 27 and 32. -/
def Obligations.BranchesAndSystemOperations : Prop :=
  (
  (∀ (o : BSyl) (s : State), Solo s o.h → guardOn s o.h → o.h.ks.length ≤ 1 →
    let p := o.h.core.val
    let k := o.h.ks.length + 1
    let target := (BitVec.ofNat 64 (o.h.c s).pc + dispVal o.h.ks o.disp * 4).toNat % 2 ^ 40
    exec (.br o) s = .next (afterBundle s p k fun c => { c with delay := some ⟨target, 2, none, none⟩ }) ∧
    exec (.call o) s = .next (afterBundle s p k fun c => { c with delay := some ⟨target, 2, some 62, none⟩ })) ∧
  (∀ (o : TSyl) (s : State), Solo s o.h → guardOn s o.h → o.h.ks = [] → o.s2 = 0 →
    let p := o.h.core.val
    let a := (greg p (o.h.c s) o.s1.toNat).toNat
    (a % 4 = 0 →
      (o.d = 0 → exec (.jr o) s = .next (afterBundle s p 1 fun c => { c with delay := some ⟨a % 2 ^ 40, 2, none, none⟩ })) ∧
      exec (.jalr o) s = .next (afterBundle s p 1 fun c => { c with delay := some ⟨a % 2 ^ 40, 2, some o.d, none⟩ })) ∧
    (a % 4 ≠ 0 → entersEvents s p → exec (.jalr o) s = .next (trapped s p { code := 0x02, sub := 8 } 7))) ∧
  (∀ (o : ISyl) (s : State), Solo s o.h → guardOn s o.h → o.d.toNat < 4 →
    let p := o.h.core.val
    let c := o.h.c s
    let k := o.h.ks.length + 1
    let i := immVal o.h.ks o.imm
    let lend := (BitVec.ofNat 64 c.pc + i * 4).toNat % 2 ^ 40
    let start := (c.pc + 4 * k) % 2 ^ 40
    let arm (n : Word) (c : Core) : Core :=
      setCreg (setCreg (setCreg c (12 + 3 * o.d.toNat) (BitVec.ofNat 64 start)) (13 + 3 * o.d.toNat) (BitVec.ofNat 64 lend))
        (14 + 3 * o.d.toNat) n
    0 < i.toInt → start ≤ lend → c.pc < start → c.pc < 2 ^ 40 →
    (let n := (greg p c o.s1.toNat).setWidth 32
     o.h.ks.length ≤ 2 → n ≠ 0 → exec (.loop o) s = .next (afterBundle s p k (arm (n.setWidth 64)))) ∧
    (o.h.ks = [] → o.s1 ≠ 0 → exec (.loopi o) s = .next (afterBundle s p k (arm (o.s1.setWidth 64)))))) ∧
  (
  ∀ (o : TSyl) (s : State), Solo s o.h → guardOn s o.h → o.h.ks = [] →
    let p := o.h.core.val
    (o.d = 0 → o.s1 = 0 → o.s2 = 0 →
      exec (.settle o) s = .next (afterBundle s p 1 (applySettle p)) ∧
      exec (.fence o) s = .next (issued s p 1 [] false) ∧
      exec (.nop .nop o) s = .next (issued s p 1 [] false) ∧
      (p < 2 → (∀ b, eicAnyRequest (gathering s p b) p = true) → exec (.wait o) s = .next (issued s p 1 [] false)) ∧
      (p < 2 → (∀ b, eicAnyRequest (gathering s p b) p = false) → Reaches (exec (.wait o) s) fun t =>
        (coreOf t p).stall = some .wait ∧ (coreOf t p).pc = (o.h.c s).pc ∧ (coreOf t p).g = (o.h.c s).g ∧ t.mem = s.mem) ∧
      (entersEvents s p → p < 2 → exec (.mcall o) s = .next (trapped s p { code := 0x0E } 7) ∧
        exec (.scall o) s = .next (trapped s p { code := 0x0D } 7))) ∧
    (o.d = 0 → o.s1 = 0 → entersEvents s p → exec (.trap o) s = .next (trapped s p { code := 0x0C, trapno := o.s2 } 7)) ∧
    (o.d = 0 → o.s2 = 0 → 2 ≤ p → exec (.odone o) s = .next (afterBundle s p 1 fun c =>
      { c with delay := some ⟨0, 2, none, some ((greg p (o.h.c s) o.s1.toNat).setWidth 8)⟩ })))

/-- R299, R300, R304: ERET at a level above T, with an image that it may restore, continues at the image's PC, level, enables and delay window; in
the fast bank the image is G48 to G50, else the frame at G63.

R206: MFC reads a control register that its level may read, the others take BAD_CREG or PRIV_CREG; MTC to a register marked SETTLE is pending
until SETTLE.

Where the spec is silent it rests on the model's choices of log entries 14, 19 and 30. -/
def Obligations.ReturnsAndControlRegisters : Prop :=
  (
  ∀ (o : TSyl) (s : State) (im : RetImage), Solo s o.h → guardOn s o.h → o.h.ks = [] → o.d = 0 → o.s1 = 0 → o.s2 = 0 →
    let p := o.h.core.val
    let c := o.h.c s
    coreLevel p c ≠ .t →
    (∀ t, sameButPipe s t p → eretImage t p = (t, .inr im)) →
    eretDenied p c im.status = false → c.settle = [] →
    Reaches (exec (.eret o) s) fun t =>
      (coreOf t p).pc = bits im.pc 39 2 * 4 ∧
      coreLevel p (coreOf t p) = levelOf (bits im.status 1 0) ∧
      bits (creg p (coreOf t p) 1) 5 4 = bits im.status 5 4 ∧
      ((coreOf t p).delay.map Delay.left = if bits im.dst 1 0 = 0 then none else some (bits im.dst 1 0)) ∧
      ((coreOf t p).delay.map Delay.target = if bits im.dst 1 0 = 0 then none else some (bits im.dst 39 2 * 4)) ∧
      (∀ f, im.rest = some f → ∀ r, 1 ≤ r → r ≤ 8 → mget (coreOf t p).g r 0 = f.getD (7 + r) 0) ∧
      t.mem = s.mem ∧ t.regs = s.regs) ∧
  (
  ∀ (o : ISyl) (s : State), Solo s o.h → guardOn s o.h → o.h.ks = [] →
    let p := o.h.core.val
    let c := o.h.c s
    let n := o.imm.toNat
    let v := levelNum (coreLevel p c)
    (o.s1 = 0 →
      (cregAssigned p n = true → cregReadLevel p n ≤ v → n ≠ 32 → n ≠ 34 → n ≠ 36 →
        (∀ b, cregRead (gathering s p b) p c n = cregRead s p c n) →
        exec (.mfc o) s = .next (issued s p 1 [⟨6, .g o.d, cregRead s p c n, c.cycle⟩] false)) ∧
      (cregAssigned p n = false → entersEvents s p → exec (.mfc o) s = .next (trapped s p { code := 0x02, sub := 4 } 6)) ∧
      (cregAssigned p n = true → v < cregReadLevel p n → entersEvents s p →
        exec (.mfc o) s = .next (trapped s p { code := 0x03 } 6))) ∧
    (o.d = 0 →
      (cregSettles n = true → cregAssigned p n = true → cregWriteLevel p n ≤ v →
        exec (.mtc o) s = .next (afterBundle s p 1 fun c => { c with settle := mset c.settle n (greg p c o.s1.toNat) })) ∧
      (n = 5 → exec (.mtc o) s = .next (issued s p 1 [⟨6, .fstat, greg p c o.s1.toNat, c.cycle⟩] false))))

/-! Syllables as words -/

/-- R159, R191, R157: the word of a syllable gives back the syllable, whatever its fields hold; it is never taken for a K syllable;
and two operations with one encoding and one error finding are one operation.

Where the spec is silent it rests on the model's choices of log entries 1 and 18. -/
def Obligations.SyllableRoundTrip : Prop :=
  (∀ (i : Instr) (f : SylForm), sylForm i = some f →
    decodeWord f.head.core f.head.ks f.word = f ∧ isK f.word = false) ∧
  (∀ (i j : Instr) (f : SylForm), sylForm i = some f → sylForm j = some f → sylEcc i = sylEcc j → i = j)

/-- R154, R157, R160: a list of syllables is read back from its words, every K syllable going to the syllable behind it.

Words written out from the encodings of R159 and the tables of spec/07_operation_reference.md.

Where the spec is silent it rests on the model's choices of log entry 18. -/
def Obligations.WordsOfBundles : Prop :=
  (
  ∀ (core : Fin 14) (l : List Instr) (fs : List SylForm), l.map sylForm = fs.map some → (∀ f ∈ fs, f.head.core = core) →
    decodeSyls core [] (fs.flatMap fun f => f.head.ks.map kWord ++ [f.word]) = fs) ∧
  (
  let h : Head := { core := 2, e := true, ks := [], pg := 0 }
  encodeSyl (.addsw { h := { h with pg := 3 }, d := 5, s1 := 6, s2 := 7 }) = some [0x82C51872] ∧
  encodeSyl (.add { h := h, d := 1, s1 := 2, s2 := 3 }) = some [0x80010830] ∧
  encodeSyl (.ldD { h := h, d := 4, s1 := 5, imm := 0x3FF } .good) = some [0xC40417FF] ∧
  encodeSyl (.call { h := h, disp := 0x3FFFFE }) = some [0xEA3FFFFE] ∧
  encodeSyl (.movi { h := { h with ks := [0x7FFFFFF] }, d := 9, s1 := 0, imm := 1 }) = some [0x7FFFFFFF, 0xDA090001])

/-! Invariants -/

/-- From every state with memory in canonical form, a step leaves memory in canonical form.

Where the spec is silent it rests on the model's choices of log entry 7. -/
def Obligations.MemoryStaysCanonical : Prop := StepKeeps MemInv

/-- No command stops the block: every step answers a next state.

Where the spec is silent it rests on the model's choices of log entry 10. -/
def Obligations.EveryStepAnswers : Prop := ∀ s : State, Answers (step s)

/-- What the spec says that reset leaves: memory in canonical form, DTB zero, BOOT_PHASE 0, every core held, the register values that
the tables give, and no command waiting. -/
def Obligations.AfterReset : Prop :=
  let s := State.reset
  MemInv s ∧ s.pending = [] ∧ s.dtb = 0 ∧ (∀ p, (coreOf s p).phase = .held) ∧
  rget s R.PART_PHASE = 0 ∧ rget s R.PART_UNIT_OWN = 0x0000000FFFFFE385 ∧ rget s R.PART_OQ_OWN = 0xFFFFFFFF ∧
  rget s R.PART_GT_OWN = 0xFFFFFFFFFFFFFFFF ∧ rget s R.PART_ESC_PC = 0 ∧ rget s R.SYSCON_RESET_REQ = 0 ∧
  rget s R.SYSCON_ABSENT_HITS = 0 ∧ rget s R.SYSCON_TUN_RELEASE = 0 ∧ rget s R.DTB_INC = 0x140000000 ∧
  (∀ k, k < 8 → rget s (R.EIC_PEND k) = 0) ∧
  (∀ p, p < 2 → levelOf (bits (creg p (coreOf s p) 1) 1 0) = .m) ∧ (∀ p, 2 ≤ p → p < 14 → levelOf (bits (creg p (coreOf s p) 1) 1 0) = .t)

/-! What happens in a core between bundles -/

/-- R164, R166, R171: a result whose latency has passed is written to its register at RESULT_WRITEBACK and at the end of a long
operation's stall, which lets the core issue again; a result still in flight stays there.

R183, R184: a line that PART lets the core fetch enters the instruction cache, by a fill or, with FETCH.PFEN 1, as the prefetch of the
next line; nothing else changes. R185, R52: the line of a data-cache miss enters the data cache with the world that asked for it,
and the bundle that waited for it comes to issue.

R229, R185: cache maintenance of a control core: DCINV drops the line of its address, DCLEAN writes a dirty line back and keeps it, DCFLUSH does
both; without the line nothing happens.

Where the spec is silent it rests on the model's choices of log entries 15, 25 and 27. -/
def Obligations.ResultsAndCaches : Prop :=
  (
  ∀ (p : Fin 14) (s : State) (slot due : Nat) (r : BitVec 6) (v : Word), let c := coreOf s p
    procPresent s p = true → c.inflight = [⟨slot, .g r, v, due⟩] →
    (due < c.cycle → exec (.resultWriteback p) s = .next (setCore s p (setGreg p { c with inflight := [] } r.toNat v))) ∧
    (c.cycle ≤ due → exec (.resultWriteback p) s = .next (setCore s p c)) ∧
    (coreLive s p = true → c.stall = some .long → due < c.cycle →
      exec (.longOpStallEnd p) s = .next (setCore s p { setGreg p { c with inflight := [] } r.toNat v with stall := none }))) ∧
  (
  ∀ (p : Fin 14) (s : State) (line : BitVec 40) (l : List Byte),
    let c := coreOf s p
    let r := coreReq s p
    let a := line.toNat / 64 * 64
    coreLive s p = true →
    (c.fetching = false → c.event = none → fetchCheck s r a = none → memRead s r a 64 .fetch = (s, .inr l) →
      let t := setCore s p { c with icache := if ikey r a ∈ c.icache then c.icache else ikey r a :: c.icache,
                                    fetchErr := mdel c.fetchErr (ikey r a) }
      exec (.icacheFill p line .good) s = .next t ∧
      (bit (creg p c 28) 0 = true → line.toNat / 64 = c.pc / 64 + 1 → exec (.prefetchLine p line .good) s = .next t)) ∧
    (c.stall = some (.dcache (a / 64)) → memRead s r a 64 .read = (s, .inr l) →
      exec (.dcacheFill p line .good) s = .next
        (issue (setCore s p { c with stall := none, dcache := mset c.dcache (dkey r.world a) ⟨r.world, false, l⟩ }) p))) ∧
  (
  ∀ (o : TSyl) (s : State), Solo s o.h → guardOn s o.h → o.h.ks = [] → o.h.core.val < 2 → o.d = 0 → o.s2 = 0 →
    let p := o.h.core.val
    let c := o.h.c s
    let a := (greg p c o.s1.toNat).toNat
    let w := (coreReq s p).world
    (dline c w a = none →
      exec (.dclean o) s = .next (issued s p 1 [] false) ∧ exec (.dcinv o) s = .next (issued s p 1 [] false) ∧
      exec (.dcflush o) s = .next (issued s p 1 [] false)) ∧
    (∀ d, dline c w a = some d →
      (Reaches (exec (.dcinv o) s) fun t => dline (coreOf t p) w a = none ∧ t.mem = s.mem) ∧
      (d.dirty = true → d.bytes.length = 64 → regionOf s (a / 64 * 64) = .cellar →
        (∀ t, sameButPipe s t p → accessCheck t (coreReq t p) (a / 64 * 64) .write = none) →
        (Reaches (exec (.dclean o) s) fun t =>
          dline (coreOf t p) w a = some { d with dirty := false } ∧ readBytes t (a / 64 * 64) 64 = d.bytes ∧
          sameMemBut s t (a / 64 * 64) 64) ∧
        (Reaches (exec (.dcflush o) s) fun t =>
          dline (coreOf t p) w a = none ∧ readBytes t (a / 64 * 64) 64 = d.bytes ∧ sameMemBut s t (a / 64 * 64) 64))))

/-- R290, R291: a normal-class entry writes the 128-byte frame below the stack pointer of level H and then sets G63 of H, G1, G2, EPC,
ECAUSE, EADDR and STATUS, and issue goes on at HANDLER; every other register of the core is as the drain left it.

R291: the layout of the frame, counted from the new G63.

Where the spec is silent it rests on the model's choices of log entries 19 and 33. -/
def Obligations.NormalEntryAndItsFrame : Prop :=
  (
  ∀ (p : Fin 14) (s r u : State) (ev : EventRec) (e : EdtEntry),
    let t := beforeEntry s p
    let v := eventLevel p (coreOf t p) ev.code.toNat
    let sp : Word := (if e.sp ≠ 0 then word e.sp else mget (coreOf r p).g (64 + v) 0) - 0x80
    coreLive s p = true → (coreOf s p).event = some ev → readEdt t p v ev.code.toNat = (r, .inr e) → e.fastBank = false →
    coreWrite r p (reqAt r p v) (if isTun p then tunAddr p sp.toNat else sp.toNat) (frameOf p (coreOf r p)) = (u, true) →
    Reaches (exec (.normalClassEntry p) s) fun x =>
      let c := coreOf u p
      let d := coreOf x p
      d.pc = e.handler ∧ d.event = none ∧ d.delay = none ∧ d.bundle = [] ∧ d.stall = none ∧
      coreLevel p d = levelOf v ∧ coreWorld p d = levelWorld p c v ∧
      bit (creg p d 1) 4 = (bit (creg p c 1) 4 && !e.maskNormal) ∧ bit (creg p d 1) 5 = (bit (creg p c 1) 5 && !e.maskFast) ∧
      bit (creg p d 1) 6 = false ∧ bit (creg p d 1) 7 = bit (creg p c 1) 7 ∧ bit (creg p d 1) 3 = bit (creg p c 1) 3 ∧
      creg p d 2 = word c.pc ∧ creg p d 3 = ev.ecause ∧ creg p d 6 = word ev.eaddr ∧
      mget d.g (64 + v) 0 = sp ∧ mget d.g 1 0 = ev.ecause ∧ mget d.g 2 0 = word ev.eaddr ∧
      (∀ k, k ≠ 1 → k ≠ 2 → k ≠ 64 + v → mget d.g k 0 = mget c.g k 0) ∧
      (∀ n, n ≠ 1 → n ≠ 2 → n ≠ 3 → n ≠ 6 → creg p d n = creg p c n) ∧ d.p = c.p ∧ d.xa = c.xa ∧
      x.mem = u.mem ∧ x.regs = u.regs ∧ ∀ q, q ≠ p.val → coreOf x q = coreOf u q) ∧
  (
  ∀ (p : Nat) (c : Core), c.pc < 2 ^ 64 →
    let l := frameOf p c
    l.length = 128 ∧ fieldAt l 0x00 8 = c.pc ∧ fieldAt l 0x08 8 = (creg p c 1).toNat ∧ fieldAt l 0x10 8 = (preds p c).toNat ∧
    fieldAt l 0x18 8 = (creg p c 5).toNat ∧ fieldAt l 0x20 8 = (creg p c 12).toNat ∧ fieldAt l 0x28 8 = (creg p c 13).toNat ∧
    fieldAt l 0x30 8 = (creg p c 14).toNat ∧ fieldAt l 0x38 8 = (dstate c).toNat ∧
    ∀ i, i < 8 → fieldAt l (0x40 + 8 * i) 8 = (greg p c (i + 1)).toNat)

/-- R293: a fast-class entry stacks nothing: the bank's G48, G49 and G50 hold the PC, STATUS and DSTATE, its G63 the entry's SP where that
is nonzero, STATUS.FAST selects the bank, and issue goes on at HANDLER; G2 holds the claim result (R317).

R303, R304, R308: an entry that faults escalates. The frame lies below the escalation stack pointer, ECAUSE has ESC, ORIG and ESUB,
STATUS has level M, ESC 1, IEN 0 and IEF 0, and issue goes on at PART_ESC_PC; with PART_ESC_PC zero, or in the escalation handler, the
core wedges.

Where the spec is silent it rests on the model's choices of log entries 19, 23 and 30. -/
def Obligations.FastEntryAndEscalation : Prop :=
  (
  ∀ (p : Fin 14) (s r : State) (ev : EventRec) (e : EdtEntry),
    let t := beforeEntry s p
    let v := eventLevel p (coreOf t p) ev.code.toNat
    let c := coreOf r p
    coreLive s p = true → (coreOf s p).event = some ev → readEdt t p v ev.code.toNat = (r, .inr e) → e.fastBank = true →
    coreFast p (coreOf r p) = false →
    Reaches (exec (.fastClassEntry p) s) fun x =>
      let d := coreOf x p
      d.pc = e.handler ∧ d.event = none ∧ d.delay = none ∧ d.bundle = [] ∧ d.stall = none ∧
      coreLevel p d = levelOf v ∧ coreWorld p d = levelWorld p c v ∧ coreFast p d = true ∧
      bit (creg p d 1) 4 = (bit (creg p c 1) 4 && !e.maskNormal) ∧ bit (creg p d 1) 5 = (bit (creg p c 1) 5 && !e.maskFast) ∧
      mget d.fastG 48 0 = word c.pc ∧ mget d.fastG 49 0 = creg p c 1 ∧ mget d.fastG 50 0 = dstate c ∧
      (e.sp ≠ 0 → mget d.fastG 63 0 = word e.sp) ∧
      mget d.g 2 0 = word ev.eaddr ∧ (∀ k, k ≠ 2 → mget d.g k 0 = mget c.g k 0) ∧
      (∀ n, n ≠ 1 → creg p d n = creg p c n) ∧ d.p = c.p ∧ x.mem = r.mem ∧ x.regs = r.regs ∧ ∀ q, q ≠ p.val → coreOf x q = coreOf r q) ∧
  (
  ∀ (p : Fin 14) (cls : Bool) (s r u : State) (ev : EventRec) (esub : Nat),
    let t := beforeEntry s p
    let v := eventLevel p (coreOf t p) ev.code.toNat
    let pc := rbits r R.PART_ESC_PC 39 2 * 4
    let sp := if isTun p then tunBase p + rbits r R.PART_ESC_SPT 17 4 * 16 else escSp r p
    let ec := setBits (setBits (setBit ev.ecause 31 true) 39 32 ev.code.toNat) 47 40 esub
    coreLive s p = true → (coreOf s p).event = some ev → readEdt t p v ev.code.toNat = (r, .inl esub) →
    (bit (creg p (coreOf r p) 1) 7 = true ∨ pc = 0 →
      exec (if cls then .fastClassEntry p else .normalClassEntry p) s = .next (wedge r p ec)) ∧
    (bit (creg p (coreOf r p) 1) 7 = false → pc ≠ 0 →
      coreWrite r p { reqAt r p 3 with world := levelWorld p (coreOf r p) 3 } (sp - 0x80) (frameOf p (coreOf r p)) = (u, true) →
      Reaches (exec (if cls then .fastClassEntry p else .normalClassEntry p) s) fun x =>
        let d := coreOf x p
        d.pc = pc ∧ d.event = none ∧ coreLevel p d = .m ∧ bit (creg p d 1) 7 = true ∧ bit (creg p d 1) 4 = false ∧
        bit (creg p d 1) 5 = false ∧ creg p d 2 = word (coreOf u p).pc ∧ creg p d 3 = ec ∧ creg p d 6 = word ev.eaddr ∧
        mget d.g 67 0 = word (sp - 0x80) ∧ x.mem = u.mem ∧ ∀ q, q ≠ p.val → coreOf x q = coreOf u q))

/-- R295, R317: between two bundles a core accepts the class that its enables allow; the source of lowest number is claimed, its ID
is the event's EADDR, and the event waits for its entry; the gathered bundle has not issued.

R310 to R313: an edge of a present source, or a one written to its EIC_PENDk bit by a world that may, sets its PENDING; EIC_CLRk
clears it; every other source is as before. A source that is absent never pends.

Where the spec is silent it rests on the model's choices of log entries 27 and 70. -/
def Obligations.InterruptDelivery : Prop :=
  (
  ∀ (p : Fin 14) (fast : Bool) (w : World) (i : Nat) (s : State), let c := coreOf s p
    canAccept s p = true → c.stall = none → c.inflight = [] → requestClass s p = some (fast, w) →
    eicCandidate s p fast w = some i →
    Reaches (exec (.interruptAccept p fast) s) fun t =>
      let code : Byte := (if fast then 0x22 else 0x20) + (if w = .secure then 1 else 0)
      (coreOf t p).event = some ⟨code, code.setWidth 64, i⟩ ∧ (coreOf t p).bundle = [] ∧ (coreOf t p).pc = c.pc ∧
      eicPending t i = false ∧ (∀ j, j < 256 → j ≠ i → eicPending t j = eicPending s j ∧ eicActive t j = eicActive s j) ∧
      (rbit s (R.EIC_CFG i) 29 = true ∨ 2 ≤ p.val → eicActive t i = eicActive s i) ∧
      (rbit s (R.EIC_CFG i) 29 = false → p.val < 2 → eicActive t i = true ∧ t.claims = mset s.claims i ⟨p, w⟩) ∧
      t.mem = s.mem ∧ ∀ q, q ≠ p.val → coreOf t q = coreOf s q) ∧
  (
  (∀ (i : Fin 256) (s : State), Reaches (exec (.eicSourceEdge i) s) fun t =>
    (∀ j, j < 256 → eicPending t j = (eicPending s j || (decide (j = i.val) && decide (i.val < 224) && eicPresent s i))) ∧
    t.cores = s.cores ∧ t.claims = s.claims ∧ sameMem s t) ∧
  (∀ (q : RegAcc) (k : Fin 8) (s : State), WriteOk s q (R.EIC_PEND k) → Reaches (exec (.eicPendWrite q k) s) fun t =>
    (∀ j, j < 256 → eicPending t j = (eicPending s j || (decide (j / 32 = k.val) && q.wr.one (j % 32) && eicPresent s j &&
      (decide ((reqOf s q.who).world = .secure) || !(eicSecure s j))))) ∧ t.cores = s.cores ∧ t.claims = s.claims ∧ sameMem s t) ∧
  (∀ (q : RegAcc) (k : Fin 8) (s : State), WriteOk s q (R.EIC_CLR k) → Reaches (exec (.eicClrWrite q k) s) fun t =>
    (∀ j, j < 256 → eicPending t j = (eicPending s j && !(decide (j / 32 = k.val) && q.wr.one (j % 32) &&
      (decide ((reqOf s q.who).world = .secure) || !(eicSecure s j))))) ∧ t.cores = s.cores ∧ t.claims = s.claims ∧ sameMem s t))

/-! EIC and BUNG -/

/-- R318, R319: control core p's read of its claim register takes the lowest deliverable source of the class and of its world: PENDING
clears, ACTIVE is set with the claimant unless AUTO is 1, and the read returns the ID; with none it returns 0x1FF and claims
nothing.

R321, R322: the claimant's completion in the world of its claim clears ACTIVE; any other completion is stray: it changes no source,
is counted and recorded.

Where the spec is silent it rests on the model's choices of log entry 36. -/
def Obligations.ClaimsAndCompletions : Prop :=
  (
  ∀ (q : RegAcc) (p : Fin 2) (fast : Bool) (s : State), q.who = .cc p →
    ReadOk s q (if fast then R.EIC_FCLAIM p else R.EIC_CLAIM p) →
    let w := (reqOf s q.who).world
    let o := exec (if fast then .eicFclaimRead q p else .eicClaimRead q p) s
    (eicCandidate s p fast w = none → o = .next { s with lastRead := 0x1FF }) ∧
    (∀ i, eicCandidate s p fast w = some i → Reaches o fun t =>
      t.lastRead = word i ∧ eicPending t i = false ∧
      (rbit s (R.EIC_CFG i) 29 = true → eicActive t i = eicActive s i ∧ t.claims = s.claims) ∧
      (rbit s (R.EIC_CFG i) 29 = false → eicActive t i = true ∧ t.claims = mset s.claims i ⟨p, w⟩) ∧
      (∀ j, j < 256 → j ≠ i → eicPending t j = eicPending s j ∧ eicActive t j = eicActive s j) ∧
      t.cores = s.cores ∧ sameMem s t)) ∧
  (
  ∀ (q : RegAcc) (p : Fin 2) (s : State), WriteOk s q (R.EIC_DONE p) →
    let i := q.wr.bits 7 0
    let r := reqOf s q.who
    (∀ c : Claim, q.who = .cc p → s.claims.find? (fun e => e.1 = i) = some (i, c) → c.core = p.val → c.world = r.world →
      eicActive s i = true → Reaches (exec (.eicDoneWrite q p) s) fun t =>
        eicActive t i = false ∧ t.claims = mdel s.claims i ∧ rget t R.EIC_STRAY = rget s R.EIC_STRAY ∧
        (∀ j, j < 256 → eicPending t j = eicPending s j) ∧ ∀ j, j < 256 → j ≠ i → eicActive t j = eicActive s j) ∧
    (q.who ≠ .cc p ∨ eicActive s i = false → Reaches (exec (.eicDoneWrite q p) s) fun t =>
      t.claims = s.claims ∧ (∀ j, j < 256 → eicPending t j = eicPending s j ∧ eicActive t j = eicActive s j) ∧
      rget t R.EIC_STRAY = word (min 0xFFFF ((rget s R.EIC_STRAY).toNat + 1)) ∧
      rget t R.EIC_STRAY_LAST = word (b2n (r.world = .secure) <<< 16 + r.id.toNat <<< 8 + i)) ∧
    (∀ q' : RegAcc, WriteOk s q' R.EIC_STRAY → (reqOf s q'.who).world = .secure → q'.wr.one 31 = true →
      exec (.eicStrayClear q') s = .next (rset s R.EIC_STRAY 0)))

/-- R323 to R328: a read of BUNGn by a control core, the PCIe host or HCP acquires a bung that is free or free-broken and returns CODE,
HOLDER and WORLD; a held one is BUSY; the holder's RELEASE frees it, any other is logged; BUNG_BREAK at Machine level breaks it.

Where the spec is silent it rests on the model's choices of log entry 36. -/
def Obligations.Bungs : Prop :=
  ∀ (q : RegAcc) (n : Fin 64) (s : State), let r := reqOf s q.who
    (ReadOk s q (R.BUNG n) → bungTaker q.who = true →
      let own : Nat := b2n (r.world = .secure) <<< 16 + r.id.toNat <<< 8
      let shown (id : Byte) (w : World) : Nat :=
        if r.world = .normal ∧ w = .secure then 0x1FF00 else b2n (w = .secure) <<< 16 + id.toNat <<< 8
      let held (v : Nat) : Out := .next { setBung s n (.held r.id r.world) with lastRead := word v }
      (bung s n = .free → exec (.bungAcquire q n) s = held own) ∧
      (∀ id w, bung s n = .broken id w → exec (.bungAcquire q n) s = held (shown id w + 1)) ∧
      (∀ id w, bung s n = .held id w → exec (.bungAcquire q n) s = .next { s with lastRead := word (shown id w + 2) })) ∧
    (WriteOk s q (R.BUNG n) → q.wr.one 31 = true →
      (bung s n = .held r.id r.world → exec (.bungRelease q n) s = .next (setBung s n .free)) ∧
      (bung s n ≠ .held r.id r.world → exec (.bungRelease q n) s =
        .next (logReq s (worldRing r.world) Code.BUNG_BAD_RELEASE r (word n.val) 0))) ∧
    (WriteOk s q R.BUNG_BREAK → q.wr.one 31 = true → q.wr.bits 5 0 = n.val →
      (byMachine s q → ∀ id w, bung s n = .held id w → exec (.bungBreak q) s =
        .next (logReq (setBung s n (.broken id w)) (b2n (rbit s R.PART_BUNG_OWN n)) Code.BUNG_FORCED r (word n.val) 0)) ∧
      (¬ byMachine s q → exec (.bungBreak q) s = .next (logReq s 1 Code.SEALED_WRITE r (word R.BUNG_BREAK) 0)))

/-! Resets, releases, SYSCON and PART -/

/-- R20 to R23: what starts a cold reset, and what it leaves.

R20, R22, R671: VDDIO_AON power-on and its loss are cold resets that clear the always-on domain too.

Where the spec is silent it rests on the model's choices of log entries 11 and 62. -/
def Obligations.ColdResetsAndPower : Prop :=
  (
  ∀ s : State,
    (s.boot.soc = false → s.boot.aon = true → Reaches (exec .vddSocPowerOn s) fun t => ColdDone s t Cause.POR ∧ t.boot.soc = true) ∧
    (s.boot.soc = true → s.boot.dormant = false → Reaches (exec .brownOut s) fun t =>
      ColdDone s t Cause.POR ∧ t.boot.soc = false ∧ t.boot.phase = .held) ∧
    (s.boot.dormant = false → Reaches (exec .resetNLow s) fun t =>
      ColdDone s t Cause.PIN ∧ t.boot.resetN = false ∧ t.boot.phase = .held) ∧
    (∀ q, WriteOk s q R.SYSCON_RESET_REQ → byMachine s q → q.wr.bits 31 16 = 0x5A17 → q.wr.bits 1 0 = 2 →
      Reaches (exec (.swColdReset q) s) fun t => ColdDone s t Cause.SW_COLD)) ∧
  (
  ∀ s : State,
    let cleared (t : State) : Prop := rget t R.AON_RTC = 0 ∧ (∀ a, regionOf s a = .retention → readByte t a = memDefault a) ∧
      t.ring0 = {} ∧ t.ring1.main = [] ∧ t.ring1.guest = [] ∧ t.cores = [] ∧ t.grants = [] ∧ t.journal = [] ∧ t.dtb = 0 ∧ t.otp = s.otp ∧
      t.ring2.main = [] ∧ rget t R.PART_PHASE = 0
    (s.boot.aon = false → Reaches (exec .vddioAonPowerOn s) fun t =>
      cleared t ∧ t.boot.aon = true ∧ rbit t R.SYSCON_RESET_CAUSE 1 = true) ∧
    (s.boot.aon = true → Reaches (exec .vddioAonLoss s) fun t => cleared t ∧ t.boot.aon = false ∧ t.boot.phase = .held))

/-- R20, R22, R23, R354: what starts a warm reset and what it leaves; its scrubs end before Stage 0 starts.

The table of SYSCON_RESET_REQ: a write below Machine level or with a wrong KEY is ignored and logs RESET_REFUSED. R64, R84, R666: the
rise of RESET_N samples the straps, and Stage 0 may start unless TEST_MODE is high.

Where the spec is silent it rests on the model's choices of log entries 11 and 62. -/
def Obligations.WarmResetsAndGates : Prop :=
  (
  ∀ s : State, s.boot.phase = .running →
    (∀ q, WriteOk s q R.SYSCON_RESET_REQ → byMachine s q → q.wr.bits 31 16 = 0x5A17 → q.wr.bits 1 0 = 1 →
      Reaches (exec (.swWarmReset q) s) fun t => WarmDone s t Cause.SW_WARM) ∧
    (rbit s R.WDT_CTRL 0 = true → rbit s R.WDT_STAT 2 = true → wdtPaused s = false →
      Reaches (exec .wdtFinalExpiry s) fun t => WarmDone (logUnit s true Code.WDT_FINAL 0 0) t Cause.WDT) ∧
    (∀ p : Fin 2, (coreOf s p).phase = .wedged →
      (coreOf s (1 - p.val)).phase = .partReset ∨ (coreOf s (1 - p.val)).phase = .wedged →
      Reaches (exec (.partReset (p.castLE (by decide))) s) fun t => WarmDone s t Cause.WEDGE_WARM) ∧
    (∀ t : State, t.boot.phase = .scrub →
      exec .resetScrubDone t = .next { t with boot := { t.boot with phase := .ready } })) ∧
  (
  (∀ (q : RegAcc) (s : State), WriteOk s q R.SYSCON_RESET_REQ → ¬ byMachine s q ∨ q.wr.bits 31 16 ≠ 0x5A17 →
    let t := logReq s 1 Code.RESET_REFUSED (reqOf s q.who) (word R.SYSCON_RESET_REQ) 0
    exec (.swWarmReset q) s = .next t ∧ exec (.swColdReset q) s = .next t) ∧
  (∀ (straps : BitVec 6) (testMode : Bool) (s : State), s.boot.resetN = false → s.boot.soc = true → s.boot.aon = true →
    s.boot.dormant = false → s.boot.phase = .held → Reaches (exec (.resetNRise straps testMode) s) fun t =>
      t.boot.resetN = true ∧ t.boot.phase = (if testMode then .held else .ready) ∧
      rbits t R.AON_BOOT_STATUS 2 0 = straps.toNat % 8 ∧ t.cores = s.cores ∧ sameMem s t))

/-- R22, R24, R326, R330: the part reset of a wedged control core clears its registers, frees its bungs as broken and pends again every
source active under its claims; nothing of the other core changes.

R24, R307: a part-reset control core that the other one releases restarts at PART_ESC_PC at Machine level with ESC 1, IEN and IEF 0,
EPC zero, ECAUSE with PRESET 1, and its stack pointer from PART_ESC_SP. The first release of CC1 starts it at SYSCON_CC1_VECTOR. -/
def Obligations.ControlCoreResets : Prop :=
  (
  ∀ (p : Fin 2) (s : State), (coreOf s p).phase = .wedged → (coreOf s (1 - p.val)).phase ≠ .partReset →
    (coreOf s (1 - p.val)).phase ≠ .wedged → Reaches (exec (.partReset (p.castLE (by decide))) s) fun t =>
      coreOf t p = { phase := .partReset } ∧ rbit t R.SYSCON_CC_RELEASE p = false ∧
      (∀ n, n < 64 → bung t n = match bung s n with
        | .held id w => if id = BitVec.ofNat 8 p then .broken id w else .held id w
        | b => b) ∧
      (∀ e ∈ t.claims, e.2.core ≠ p.val) ∧ (∀ n, n < 8 → ∀ h, (mget t.copper.cx n {}).holder = some h → h.id ≠ BitVec.ofNat 8 p) ∧
      (∀ q, q ≠ p.val → coreOf t q = coreOf s q) ∧ sameMem s t ∧ t.journal = s.journal ∧ t.grants = s.grants) ∧
  (
  ∀ (q : RegAcc) (s : State), WriteOk s q R.SYSCON_CC_RELEASE →
    let esc (p : Nat) : Core :=
     { phase := .running, pc := rbits s R.PART_ESC_PC 39 2 * 4, g := [(67, word (rbits s R.PART_ESC_SP 39 4 * 16 - p * 0x1000))],
       creg := [(1, 0x87), (2, 0), (3, 0x40000000)] }
    (q.who = .cc 1 → q.wr.v = 1 → (coreOf s 0).phase = .partReset →
      exec (.cc0Release q) s = .next (rputb (setCore s 0 (esc 0)) R.SYSCON_CC_RELEASE 0 true)) ∧
    (q.who = .cc 0 → q.wr.v = 2 → (coreOf s 1).phase = .partReset →
      exec (.cc1Release q) s = .next (rputb (setCore s 1 (esc 1)) R.SYSCON_CC_RELEASE 1 true)) ∧
    (q.wr.v = 2 → (coreOf s 1).phase = .held → rbit s R.SYSCON_CC_RELEASE 1 = false →
      exec (.cc1Release q) s = .next
        (rputb (setCore s 1 { phase := .running, pc := rbits s R.SYSCON_CC1_VECTOR 39 2 * 4 }) R.SYSCON_CC_RELEASE 1 true)))

/-- R46, R47: BOOT_PHASE goes from 0 to 1 by CC0 at Machine level from Boot ROM and from 1 to 2 by boot code, each with KEY 0x5EA1 and
its STEP; every other write of PART_SEAL is ignored and logs SEALED_WRITE.

R1, R34, R46, R48: writes to SYSCON registers act by the access code of their fields: RW takes the value, RO keeps its own, W1C clears
where a one is written, WB takes the value from boot code and otherwise keeps its own and logs SEALED_WRITE.

R7, R26, R27, R37: what stands against a register write. The normal world's write to a secure unit is refused and logged
in the normal ring; a misplaced one changes nothing; one to an absent unit is counted, and the first of each unit is logged.

Where the spec is silent it rests on the model's choices of log entries 34 and 36. -/
def Obligations.SealingAndRegisterAccesses : Prop :=
  (
  ∀ (q : RegAcc) (s : State), WriteOk s q R.PART_SEAL →
    let key := q.wr.bits 31 16
    let step := q.wr.bits 1 0
    let ph := rbits s R.PART_PHASE 1 0
    let first : Prop := key = 0x5EA1 ∧ step = 1 ∧ ph = 0 ∧ q.who = .cc 0 ∧ byMachine s q ∧ (coreOf s 0).pc < 0x20000
    let second : Prop := key = 0x5EA1 ∧ step = 2 ∧ ph = 1 ∧ byBoot s q
    (first → exec (.sealStep1 q) s = .next (rput s R.PART_PHASE 1 0 1)) ∧
    (second → Reaches (exec (.sealStep2 q) s) fun t => rbits t R.PART_PHASE 1 0 = 2 ∧ t.cores = s.cores ∧
      (s.boot.called = false → rbit t R.AON_BOOT_STATUS 7 = true)) ∧
    (¬ first → ¬ second →
      let t := logReq s 1 Code.SEALED_WRITE (reqOf s q.who) (word R.PART_SEAL) 0
      exec (.sealStep1 q) s = .next t ∧ exec (.sealStep2 q) s = .next t)) ∧
  (
  ∀ (q : RegAcc) (s : State),
    let w := q.wr
    let to40 (a : Nat) : BitVec 40 := BitVec.ofNat 40 a
    let put (old new m : Word) : Word := (old &&& ~~~ (m &&& w.m)) ||| (new &&& m &&& w.m)
    (WriteOk s q R.SYSCON_TUN_VECTOR → exec (.registerWrite q (to40 R.SYSCON_TUN_VECTOR)) s =
      .next (rset s R.SYSCON_TUN_VECTOR (put (rget s R.SYSCON_TUN_VECTOR) w.v (mask 39 2)))) ∧
    (WriteOk s q R.SYSCON_RESET_CAUSE → exec (.registerWrite q (to40 R.SYSCON_RESET_CAUSE)) s =
      .next (rset s R.SYSCON_RESET_CAUSE (rget s R.SYSCON_RESET_CAUSE &&& ~~~ (w.v &&& w.m &&& mask 8 0)))) ∧
    (WriteOk s q R.SYSCON_PROMISE → Reaches (exec (.registerWrite q (to40 R.SYSCON_PROMISE)) s) fun t =>
      ∀ a, rget t a = rget s a) ∧
    (WriteOk s q R.SYSCON_CC1_VECTOR → byBoot s q → exec (.registerWrite q (to40 R.SYSCON_CC1_VECTOR)) s =
      .next (rset s R.SYSCON_CC1_VECTOR (put (rget s R.SYSCON_CC1_VECTOR) w.v (mask 39 2)))) ∧
    (WriteOk s q R.SYSCON_CC1_VECTOR → ¬ byBoot s q → Reaches (exec (.registerWrite q (to40 R.SYSCON_CC1_VECTOR)) s) fun t =>
      rget t R.SYSCON_CC1_VECTOR = rget s R.SYSCON_CC1_VECTOR ∧
      t = logReq (rset s R.SYSCON_CC1_VECTOR (rget s R.SYSCON_CC1_VECTOR)) 1 Code.SEALED_WRITE (reqOf s q.who)
        (word R.SYSCON_CC1_VECTOR) 0)) ∧
  (
  ∀ (q : RegAcc) (a : BitVec 40) (s : State), reqLive s q.who a.toNat = true →
    let r := reqOf s q.who
    (∀ k off, regionOf s a.toNat = .unit k off → r.world = .normal → q.who ≠ .debug → regOwner s a.toNat = .secure →
      exec (.registerWrite q a) s = .next (logReq s 0 Code.WORLD_DENIED r (word a.toNat) 4)) ∧
    (∀ k off, regionOf s a.toNat = .unit k off → r.world = .secure → (a.toNat < 0x40061000 ∨ 0x40061800 ≤ a.toNat) →
      a.toNat % (if q.wide then 8 else 4) ≠ 0 → exec (.registerWrite q a) s = .next s) ∧
    (∀ k, regionOf s a.toNat = .absent k → 0x40000000 ≤ a.toNat → a.toNat < 0x40240000 →
      Reaches (exec (.registerWrite q a) s) fun t =>
        (rget t R.SYSCON_ABSENT_HITS).toNat = min 0xFFFFFFFF ((rget s R.SYSCON_ABSENT_HITS).toNat + 1) ∧
        rbit t R.SYSCON_ABSENT_SEEN k = true ∧ t.cores = s.cores ∧ sameMem s t ∧
        (rbit s R.SYSCON_ABSENT_SEEN k = true → t = rcount s R.SYSCON_ABSENT_HITS 1)))

/-- R58 to R63: a read of DEBUG_CHALLENGE0 issues a challenge and withdraws what the previous one held; DEBUG_TOKEN_GO starts a
verification unless LOCKED; an accepted token opens debug by the lifecycle, a rejected one withdraws the challenge and counts
FAILS, the eighth locking; DEBUG_LOCK closes debug.

R61, R63, R666: a halt request stops a core of a world that debug has opened; of a tun in firkin code it is held until its order has
ended; the core runs on when DEBUG resumes it. EXTEST and INTEST load as BYPASS and log JTAG_REFUSED in MAKER and FIELD outside KILN.

Where the spec is silent it rests on the model's choices of log entries 3 and 6. -/
def Obligations.DebugAccess : Prop :=
  (
  (∀ (q : RegAcc) (s : State), ReadOk s q (R.DEBUG_CHALLENGE 0) → Reaches (exec (.debugChallengeRead q) s) fun t =>
    t.dbg.valid = true ∧ rbits t R.DEBUG_STATUS 3 2 = 0 ∧ t.lastRead = rget t (R.DEBUG_CHALLENGE 0) ∧ t.freeIx = s.freeIx + 16 ∧
    t.cores = s.cores ∧ sameMem s t) ∧
  (∀ (q : RegAcc) (s : State), WriteOk s q R.DEBUG_TOKEN_GO → q.wr.one 0 = true → exec (.debugTokenGo q) s =
    .next (if rbit s R.DEBUG_STATUS 8 then s else { s with dbg := { s.dbg with busy := true } })) ∧
  (∀ s : State, s.dbg.busy = true →
    (tokenOk { s with dbg := { s.dbg with busy := false } } (dbgToken s) = true → Reaches (exec .debugTokenDone s) fun t =>
      rbit t R.DEBUG_STATUS (1 + fieldAt (dbgToken s) 4 1) = true ∧ t.dbg.busy = false ∧
      rbits t R.DEBUG_STATUS 1 0 = openFor (lifecycle s) (rbit t R.DEBUG_STATUS 2) (rbit t R.DEBUG_STATUS 3) ∧
      rbits t R.DEBUG_STATUS 7 4 = rbits s R.DEBUG_STATUS 7 4) ∧
    (tokenOk { s with dbg := { s.dbg with busy := false } } (dbgToken s) = false → Reaches (exec .debugTokenDone s) fun t =>
      t.dbg.valid = false ∧ rbits t R.DEBUG_STATUS 7 4 = min 8 (rbits s R.DEBUG_STATUS 7 4 + 1) ∧
      rbits t R.DEBUG_STATUS 3 2 = 0 ∧ rbits t R.DEBUG_STATUS 1 0 = rbits s R.DEBUG_STATUS 1 0 ∧
      (rbits s R.DEBUG_STATUS 7 4 = 7 → rbit t R.DEBUG_STATUS 8 = true))) ∧
  (∀ (q : RegAcc) (s : State), WriteOk s q R.DEBUG_LOCK → q.wr.one 0 = true → exec (.debugLock q) s =
    .next (rput (rput s R.DEBUG_STATUS 1 0 0) R.DEBUG_STATUS 3 2 0))) ∧
  (
  (∀ (p : Fin 14) (s : State), let c := coreOf s p
    debugOpen s ≠ 0 → c.phase = .running →
    (2 ≤ p.val → bit (creg p c 1) 3 = true → exec (.debugHaltRequest p) s = .next (setCore s p { c with haltHeld := true })) ∧
    (bit (creg p c 1) 3 = false → debugWorld s = .secure ∨ coreWorld p c = .normal →
      exec (.debugHaltRequest p) s = .next (setCore s p { c with phase := .halted })) ∧
    (c.haltHeld = true → c.order = none →
      exec (.debugHalt p) s = .next (setCore s p { c with phase := .halted, haltHeld := false }))) ∧
  (∀ (p : Fin 14) (s : State), (coreOf s p).phase = .halted →
    exec (.debugResume p) s = .next (setCore s p { coreOf s p with phase := .running })) ∧
  (∀ (j : JtagI) (s : State), s.boot.testMode = false →
    let load (n : Nat) : State := { s with dbg := { s.dbg with ir := n } }
    let free : Prop := rbit s R.AON_BOOT_STATUS 2 = true ∨ lifecycle s = 0 ∨ lifecycle s = 1 ∨ lifecycle s = 4
    (j = .bypass → exec (.jtagInstructionLoad j) s = .next (load 0)) ∧ (j = .idcode → exec (.jtagInstructionLoad j) s = .next (load 1)) ∧
    (j = .sample → exec (.jtagInstructionLoad j) s = .next (load 2)) ∧
    (j = .extest → free → exec (.jtagInstructionLoad j) s = .next (load 3)) ∧
    (j = .intest → free → exec (.jtagInstructionLoad j) s = .next (load 4)) ∧
    (j = .extest ∨ j = .intest → ¬ free →
      exec (.jtagInstructionLoad j) s = .next (logUnit (load 0) true Code.JTAG_REFUSED 0 0))))

/-! The chain of trust -/

/-- R64 to R69, R75: from xSPI, Stage 0 copies the header and body of the selected slot into boot SRAM, verifies the copy, extends MEAS0,
sets BOOT_PHASE 1 and enters Stage 1 on CC0, every other core held; a check or a signature that fails, or a BLANK part, is a
verification failure with its reason; in KILN no image runs.

Where the spec is silent it rests on the model's choices of log entries 10 and 62. -/
def Obligations.StageZero : Prop :=
  ∀ (mv : List Nat) (s : State) (h body : List Byte), s.boot.phase = .ready →
    (rbit s R.AON_BOOT_STATUS 2 = true → Reaches (exec (.stage0Start mv) s) fun t =>
      t.boot.phase = .running ∧ rbits t R.PCC_STAT 2 0 = 5 ∧ t.cores = s.cores ∧ sameMem s t) ∧
    (rbit s R.AON_BOOT_STATUS 2 = false → lifecycle s = 0 → Reaches (exec (.stage0Start mv) s) fun t => BootFailed s t 10) ∧
    (s.boot.cold = false → s.boot.wake = false → lifecycle s ≠ 0 → xspiBoot s → h = slotBytes s 0 0x1600 →
      fieldAt h 8 4 ≤ 0x80000 → body = slotBytes s 0x1600 (fieldAt h 8 4) →
      (headerCheck s h body 1 ≠ 0 → Reaches (exec (.stage0Start mv) s) fun t => BootFailed s t (headerCheck s h body 1)) ∧
      (headerCheck s h body 1 = 0 → headerSigs h ≠ 0 → Reaches (exec (.stage0Start mv) s) fun t => BootFailed s t (headerSigs h)) ∧
      (headerCheck s h body 1 = 0 → headerSigs h = 0 → Reaches (exec (.stage0Start mv) s) fun t =>
        coreOf t 0 = { phase := .running, pc := fieldAt h 0x18 8 } ∧ (∀ p, p ≠ 0 → coreOf t p = coreOf s p) ∧
        rbits t R.PART_PHASE 1 0 = 1 ∧ t.boot.phase = .running ∧
        readBytes t 0x10000000 (0x1600 + fieldAt h 8 4) = h ++ body ∧ sameMemBut s t 0x10000000 (0x1600 + fieldAt h 8 4) ∧
        measBytes t 0 = sha384 (measBytes s 0 ++ sha384 (h.take 0x860)) ∧
        rget t (R.PART_RGN_BASE 31) = 0x10000000 ∧ rget t (R.PART_RGN_LIMIT 31) = 0x100FF000 ∧ rget t (R.PART_RGN_ATTR 31) = 0x1B ∧
        rbit t R.AON_BOOT_STATUS 12 = rbit s R.AON_BOOT_CONFIRM 0 ∧ rbit t R.AON_BOOT_CONFIRM 0 = false ∧
        rbit t R.AON_BOOT_STATUS 7 = rbit s R.AON_BOOT_STATUS 7))

/-- R78, R83, R85, R86: the gate not open within BOOT_TIMEOUT, no server of a link boot, and a signature that fails after the service's
return are verification failures with their reasons; the wait of the retry ends with the next start.

R74, R77: the gate opens when the signature checks have passed; the secure world's confirm with the gate open and BOOT_PHASE 2 latches the
tag of the running images, records the slot and clears the count, and at any other time is ignored.

Where the spec is silent it rests on the model's choices of log entries 11 and 62. -/
def Obligations.RetriesGateAndConfirm : Prop :=
  (
  ∀ s : State,
    (s.boot.phase = .running ∨ s.boot.phase = .link → rbit s R.AON_BOOT_STATUS 7 = false → rbit s R.AON_BOOT_STATUS 2 = false →
      Reaches (exec .bootTimeoutExpiry s) fun t => BootFailed s t 7) ∧
    (s.boot.phase = .link → s.boot.linkBuf = [] → Reaches (exec .linkNoServerExpiry s) fun t => BootFailed s t 9) ∧
    (∀ r, s.boot.sigs = some r → r ≠ 0 → r < 16 → Reaches (exec .bootSignatureDone s) fun t => BootFailed s t r) ∧
    (s.boot.phase = .retry → startOk s = true →
      exec .bootRetryWaitExpiry s = .next { s with boot := { s.boot with phase := .ready } })) ∧
  (
  (∀ s : State, s.boot.sigs = some 0 → Reaches (exec .bootSignatureDone s) fun t =>
    rbit t R.AON_BOOT_STATUS 7 = true ∧ rbits t R.AON_BOOT_STATUS 9 8 = 3 ∧ t.boot.sigs = none ∧ t.cores = s.cores) ∧
  (∀ (q : RegAcc) (s : State), WriteOk s q R.AON_BOOT_CONFIRM → q.wr.one 0 = true →
    let go : Prop := (reqOf s q.who).world = .secure ∧ rbit s R.AON_BOOT_STATUS 7 = true ∧ rbits s R.PART_PHASE 1 0 = 2
    (go → Reaches (exec (.bootConfirm q) s) fun t =>
      rbit t R.AON_BOOT_CONFIRM 0 = true ∧ rbit t R.AON_BOOT_LAST 0 = rbit s R.AON_BOOT_STATUS 6 ∧
      rbits t R.AON_BOOT_ATTEMPTS 15 0 = 0 ∧
      rget t R.AON_BOOT_CONFIRM_TAG = word (fieldAt (measBytes s 0) 0 8) ^^^ word (fieldAt (measBytes s 1) 0 8) ∧
      t.cores = s.cores ∧ t.mem = s.mem) ∧
    (¬ go → exec (.bootConfirm q) s = .next s)))

/-- R70, R71, R75: the boot load service, called once, copies each image of the manifest through sealing, compares its hash and extends
its measurement, and returns HASHED with the signature checks running and PREV_CONFIRMED set by the confirm rule; a field, key or
hash that does not match is a verification failure; a second call returns LOAD_REPEAT and does nothing else.

R71: one manifest entry whose region's slot was filled before and whose image matches its HASH: the image is in memory through the
sealing of its region, and its MEAS is extended by the digest; one that does not match is a failure with reason HASH_MISMATCH.

Where the spec is silent it rests on the model's choices of log entries 3 and 62. -/
def Obligations.LoadServiceCopiesImages : Prop :=
  (
  ∀ (s : State) (h body : List Byte), atService s = true → s.boot.waiting = none →
    (s.boot.called = true → exec .bootLoadService s = .next (serviceReturn (logUnit s true Code.LOAD_REPEAT 0 0) 2)) ∧
    (let o := (greg 0 (coreOf s 0) 1).toNat % 2 ^ 32
     let b : Boot := { s.boot with called := true, waiting := none, need := none }
     let n := if headerFields h 2 ∧ fieldAt h 8 4 ≤ 16 + 80 * 32 then fieldAt h 8 4 else 0
     s.boot.called = false → xspiBoot s → rbit s R.AON_BOOT_STATUS 10 = false → h = slotBytes s o 0x1600 → body = slotBytes s (o + 0x1600) n →
     (headerCheck s h body 2 ≠ 0 → Reaches (exec .bootLoadService s) fun t => BootFailed s t (headerCheck s h body 2)) ∧
     (headerCheck s h body 2 = 0 → preambleOk h body = true →
       let s1 : State := { rput (measExtend { s with boot := b } 1 (headerDigest h)) R.AON_BOOT_STATUS 9 8 1 with
         boot := { b with manifest := some (fieldAt h 0x0C 1, fieldAt h 0x10 4), digest1 := headerDigest h } }
       let x := ((manifestEntries body).zip ((manifestEntries body).map fun e => slotBytes s (fieldAt e 0 4) (fieldAt e 4 4))).foldl
         (fun x e => loadEntry x e.1 e.2) ⟨s1, 0, []⟩
       (x.bad ≠ 0 → x.bad < 16 → Reaches (exec .bootLoadService s) fun t => BootFailed s t x.bad) ∧
       (x.bad = 0 → Reaches (exec .bootLoadService s) fun t =>
         greg 0 (coreOf t 0) 1 = Config.loadStatus 0 ∧ (coreOf t 0).pc = (greg 0 (coreOf s 0) 62).toNat / 4 * 4 ∧
         t.boot.called = true ∧ t.boot.sigs = some (headerSigs h) ∧ t.boot.images = x.images ∧ rbits t R.AON_BOOT_STATUS 9 8 = 2 ∧
         rbit t R.AON_BOOT_STATUS 11 = (rbit t R.AON_BOOT_STATUS 12 && rget t R.AON_BOOT_CONFIRM_TAG == confirmTag t) ∧
         t.mem = x.s.mem ∧ t.copper.keys = x.s.copper.keys ∧ (∀ n, n < 8 → measBytes t n = measBytes x.s n) ∧
         ∀ p, p ≠ 0 → coreOf t p = coreOf s p)))) ∧
  (
  ∀ (x : LoadRun) (e src : List Byte) (i : Nat), x.bad = 0 → entryRegion x.s e = some i →
    rgnSealed x.s i = false ∨ x.s.boot.filled.contains (rgnKey x.s i) = true →
    let y := loadEntry x e src
    (sha384 src = sub e 0x20 48 → y.bad = 0 ∧ y.images = x.images ++ [sha384 src] ∧
      measBytes y.s (fieldAt e 0x10 1) = sha384 (measBytes x.s (fieldAt e 0x10 1) ++ sha384 src) ∧ y.s.copper = x.s.copper ∧
      y.s.cores = x.s.cores) ∧
    (sha384 src ≠ sub e 0x20 48 → y.bad = 4 ∧ y.images = x.images))

/-! Keys, Keeve and Copper -/

/-- R104, R111, R121: a START that passes its checks binds the message of its context: STATE is RUNNING, DONE zero; a START over an open
message ends MSG_OPEN; an operation whose key slot is empty ends KEY_EMPTY. No memory changes before the message is carried
out.

R111, R121, R122, R123: a bound message reads its input, writes its output and ends with its result, its context idle and its
source pending: digests, counter mode, authenticated decryption (a tag that does not match leaves zeros), signatures, licences.

Where the spec is silent it rests on the model's choices of log entries 6 and 20. -/
def Obligations.CopperOperations : Prop :=
  (
  ∀ (q : RegAcc) (n : Fin 8) (s : State) (h : Req), WriteOk s q (R.CX_CTRL n) → q.wr.bits 4 0 = 1 → (cx s n).holder = some h →
    let op := rget s (R.CX_OP n)
    let row (f : RegAcc → Fin 8 → Instr) (alg : Nat) : Prop := bits op 7 0 = alg →
      ((cx s n).msg = none → cxStartCheck s n h = 0 → Reaches (exec (f q n) s) fun t =>
        cx t n = { cx s n with msg := some (cxMsgOf op) } ∧ rget t (R.CX_RESULT n) = 0x100 ∧ rget t (R.CX_DONE n) = 0 ∧
        rget t (R.CX_OP n) = op ∧ (∀ m, m ≠ n.val → cx t m = cx s m) ∧ t.mem = s.mem ∧ t.cores = s.cores ∧
        t.copper.keys = s.copper.keys) ∧
      ((cx s n).msg ≠ none → exec (f q n) s = .next (rset s (R.CX_RESULT n) 0x109)) ∧
      ((cx s n).msg = none → algKeyed alg = true → ksType s (bits op 20 16) = 0 → Reaches (exec (f q n) s) fun t =>
        rget t (R.CX_RESULT n) = 0x203 ∧ (∀ m, cx t m = cx s m) ∧ t.mem = s.mem ∧ t.cores = s.cores)
    row .aesCbc 0x01 ∧ row .aesCtr 0x02 ∧ row .aesGcm 0x03 ∧ row .aesXts 0x04 ∧ row .aesCmac 0x05 ∧ row .aesKw 0x06 ∧
    row .aesKwp 0x07 ∧ row .sha256 0x10 ∧ row .sha384 0x11 ∧ row .sha512 0x12 ∧ row .sha3256 0x13 ∧ row .sha3512 0x14 ∧
    row .shake128 0x15 ∧ row .shake256 0x16 ∧ row .hmac 0x18 ∧ row .kdf 0x19 ∧ row .deriveDev 0x1A ∧ row .ecdsaP256Sign 0x20 ∧
    row .ecdsaP256Verify 0x21 ∧ row .ecdsaP384Sign 0x22 ∧ row .ecdsaP384Verify 0x23 ∧ row .ecdhP256 0x24 ∧ row .ecdhP384 0x25 ∧
    row .ecKeyPair 0x26 ∧ row .ed25519Verify 0x28 ∧ row .mlDsa65Verify 0x30 ∧ row .mlKem768Keygen 0x38 ∧
    row .mlKem768Encapsulate 0x39 ∧ row .mlKem768Decapsulate 0x3A ∧ row .random 0x40 ∧ row .licInstall 0x50 ∧ row .licRemove 0x51 ∧
    row .attest 0x58 ∧ row .devicePubkey 0x59 ∧ (bit op 8 = false → row .wrap 0x48) ∧ (bit op 8 = true → row .unwrap 0x48)) ∧
  (
  (∀ (n : Fin 8) (s : State) (h : Req) (m : CxMsg), (cx s n).holder = some h → (cx s n).msg = some m →
    let x := cxArgs s n h
    let done (u : State) (len code : Nat) : Prop :=
      exec (.copperMessageDone n) s = .next (cxEnd (rset u (R.CX_DONE n) (word len)) n code)
    let digest (alg : Nat) (f : List Byte → List Byte) : Prop := ∀ l u, x.alg = alg → memRead s h x.src x.len .read = (s, .inr l) →
      memWrite s h x.dst (f l) = (u, none) → done u x.len 0
    digest 0x10 sha256 ∧ digest 0x11 sha384 ∧ digest 0x12 sha512 ∧ digest 0x13 sha3_256 ∧ digest 0x14 sha3_512 ∧
    (∀ e u, 0x10 ≤ x.alg → x.alg ≤ 0x14 → memRead s h x.src x.len .read = (u, .inl e) → done u 0 20) ∧
    (∀ a l u, x.alg = 2 → memRead s h x.aux 16 .read = (s, .inr a) → memRead s h x.src x.len .read = (s, .inr l) →
      memWrite s h x.dst (aesCtr x.key (a.take 16) 16 (l.take x.len)) = (u, none) → done u x.len 0) ∧
    (∀ a aux l u, x.alg = 3 → x.dir = true → memRead s h x.aux 16 .read = (s, .inr a) →
      memRead s h x.aux (16 + fieldAt a 12 4) .read = (s, .inr aux) → memRead s h x.src (x.len + x.param) .read = (s, .inr l) →
      let pt := gcmCrypt x.key (aux.take 12) (l.take x.len)
      let tag := (gcmTag x.key (aux.take 12) (aux.drop 16) (l.take x.len)).take x.param
      (tag = l.drop x.len → memWrite s h x.dst pt = (u, none) → done u x.len 0) ∧
      (tag ≠ l.drop x.len → memWrite s h x.dst (List.replicate pt.length 0) = (u, none) → done u 0 6)) ∧
    (∀ l a, x.alg = 0x23 → memRead s h x.src x.len .read = (s, .inr l) → memRead s h x.aux 193 .read = (s, .inr a) →
      (Config.ecdsaVerify 384 (a.take 97) l (a.drop 97) = true → done s x.len 0) ∧
      (Config.ecdsaVerify 384 (a.take 97) l (a.drop 97) = false → done s 0 7)) ∧
    (∀ l, x.alg = 0x50 → memRead s h x.aux 6656 .read = (s, .inr l) → fieldAt l 0 4 = 0x4C494331 → fieldAt l 4 2 = 1 →
      isZero (sub l 6 2) = true → 1 ≤ fieldAt l 0x28 4 → fieldAt l 0x28 4 ≤ 16 → isZero (sub l 0x2C 4) = true →
      isZero (sub l 0x498 8) = true → isZero (sub l 0x501 7) = true → isZero (sub l 0x19F5 11) = true →
      sub l 8 8 ≠ deviceId s → done (logReq s 1 Code.LIC_REJECT h (word x.aux) 14) 0 14)) ∧
  (∀ (n : Fin 8) (u : State) (m : CxMsg) (code : Nat), (cx u n).msg = some m → code < 256 →
    let t := cxEnd u n code
    cx t n = { cx u n with msg := none } ∧ rget t (R.CX_RESULT n) = word (0x200 + code) ∧ eicPending t (8 + n.val) = true ∧
    t.mem = u.mem ∧ t.cores = u.cores) ∧
  (∀ (n : Fin 8) (s : State), (cx s n).msg = none → exec (.copperMessageDone n) s = .next s))

/-- R105 to R108, R125: IMPORT and GENERATE fill an empty slot with the buffer or with DRBG output under a policy the world may
load, and refuse a filled one; CLEAR zeroes the slot and ends the messages that use it; NARROW only clears policy bits. R115,
R111, R119: a claim gives the lowest free context; ABORT and RELEASE end its message ABORTED; PARK stores the message and frees the context,
which RESUME refuses for a serial that is not outstanding.

Where the spec is silent it rests on the model's choices of log entries 3, 21 and 22. -/
def Obligations.KeySlotsAndContexts : Prop :=
  (∀ (q : RegAcc) (s : State), WriteOk s q R.COPPER_KS_CMD →
    let p : Word := word (q.wr.bits 63 32)
    let k := q.wr.bits 20 16
    let op := q.wr.bits 3 0
    let may : Prop := 1 ≤ bits p 27 24 ∧ bits p 27 24 ≤ 8 ∧ ksLenOk p = true ∧ ksMayLoad s (reqOf s q.who).world k p = true
    let rest (t : State) : Prop := (∀ j, j < 32 → j ≠ k → ksSecret t j = ksSecret s j ∧ ksPolicy t j = ksPolicy s j) ∧ t.mem = s.mem ∧
      t.cores = s.cores
    let data := ((List.range 8).map fun i => leBytes 8 (rget s (R.COPPER_KS_DATA i)).toNat).flatten
    (op = 1 → may → ksType s k = 0 → Reaches (exec (.ksImport q) s) fun t => ksSecret t k = sub data 0 (ksLen p) ∧
      bits (ksPolicy t k) 27 24 = bits p 27 24 ∧ bits (ksPolicy t k) 31 28 = 0 ∧ rget t R.COPPER_KS_RESULT = 0 ∧ rest t) ∧
    (op = 1 → may → ksType s k ≠ 0 → exec (.ksImport q) s = .next (rset s R.COPPER_KS_RESULT 1)) ∧
    (op = 2 → may → ksType s k = 0 → drbgReady s = true → Reaches (exec (.ksGenerate q) s) fun t =>
      ksSecret t k = sub (drbgGen s (ksLen p)).1 0 (ksLen p) ∧ bits (ksPolicy t k) 27 24 = bits p 27 24 ∧
      bits (ksPolicy t k) 31 28 = 1 ∧ rget t R.COPPER_KS_RESULT = 0 ∧ rest t) ∧
    (op = 2 → may → ksType s k = 0 → drbgReady s = false → exec (.ksGenerate q) s = .next (rset s R.COPPER_KS_RESULT 8)) ∧
    (op = 3 → Reaches (exec (.ksClear q) s) fun t => ksSecret t k = [] ∧ ksPolicy t k = 0 ∧ rget t R.COPPER_KS_RESULT = 0 ∧
      (∀ n m, n < 8 → (cx s n).msg = some m → m.key = some k → (cx t n).msg = none ∧ rget t (R.CX_RESULT n) = 0x204) ∧ rest t) ∧
    (op = 4 → ksType s k ≠ 0 → Reaches (exec (.ksNarrow q) s) fun t =>
      ksPolicy t k = setBits (ksPolicy s k &&& p) 27 24 (bits (ksPolicy s k) 27 24) ∧ ksSecret t k = ksSecret s k ∧
      rget t R.COPPER_KS_RESULT = 0 ∧ rest t)) ∧
  (∀ (q : RegAcc) (s : State), ReadOk s q R.COPPER_CLAIM → q.who ≠ .debug →
    let r := reqOf s q.who
    let may : Prop := r.world = .secure ∨ rbits s R.COPPER_CX_RESERVE 3 0 < (freeCx s).length
    (∀ n l, freeCx s = n :: l → may → Reaches (exec (.contextClaim q) s) fun t =>
      (cx t n).holder = some r ∧ t.lastRead = word (0xFF000000 + n) ∧ (∀ m, m ≠ n → cx t m = cx s m) ∧ t.regs = s.regs ∧
      t.mem = s.mem) ∧
    (freeCx s = [] ∨ ¬ may → Reaches (exec (.contextClaim q) s) fun t => bits t.lastRead 3 0 = 15 ∧
      t = { s with lastRead := t.lastRead })) ∧
  (∀ (q : RegAcc) (n : Fin 8) (s : State) (h : Req) (m : CxMsg), WriteOk s q (R.CX_CTRL n) → (cx s n).holder = some h →
    (q.wr.bits 4 0 = 2 → (cx s n).msg = some m → exec (.cxAbort q n) s = .next (cxEnd s n 24)) ∧
    (q.wr.bits 4 0 = 16 → Reaches (exec (.cxRelease q n) s) fun t => cx t n = {} ∧ rget t (R.CX_RESULT n) = 0 ∧
      rget t (R.CX_SRC n) = 0 ∧ (∀ j, j ≠ n.val → cx t j = cx s j) ∧ t.mem = s.mem) ∧
    (let a := rbits s (R.CX_PARK n) 39 0
     let u : State := { s with freeIx := s.freeIx + 12 }
     let ct := gcmCrypt s.copper.parkKey (freeBytes s 12).1 (cxState s n)
     let blob := (freeBytes s 12).1 ++ ct ++ gcmTag s.copper.parkKey (freeBytes s 12).1
       (parkAad h.world s.copper.nextSerial (rbits s (R.CX_OP n) 20 16)) ct
     q.wr.bits 4 0 = 4 → (cx s n).msg = some m →
     (parkAllowed s h.world a = false → exec (.cxPark q n) s = .next (rset s (R.CX_RESULT n) 0x10A)) ∧
     (∀ v, parkAllowed s h.world a = true → s.copper.serials.length < 64 → memWrite u h a blob = (v, none) →
       v.copper = s.copper → Reaches (exec (.cxPark q n) s) fun t =>
         cx t n = {} ∧ rget t (R.CX_STATUS n) = word s.copper.nextSerial ∧
         t.copper.serials = s.copper.serials ++ [s.copper.nextSerial] ∧ t.mem = v.mem)) ∧
    (q.wr.bits 4 0 = 8 → (cx s n).msg = none → rbits s (R.CX_PARK n) 63 32 ∉ s.copper.serials →
      exec (.cxResume q n) s = .next (rset s (R.CX_RESULT n) 0x20B)))

/-- R94 to R99, R127: a command of Keeve is taken and BUSY until its end, when its effect stands and source 6 pends; while one runs another
is refused BUSY; a program needs erased bytes, a counter and a root slot their conditions. R100 to R103, R693: a health failure stops the
DRBG and is recorded, the third in a row for good; a start-up test that passes lets output out again; TRNG_OUT reads fresh
bytes while READY, zero otherwise.

Where the spec is silent it rests on the model's choices of log entries 3, 35 and 64. -/
def Obligations.KeeveAndRandomness : Prop :=
  (∀ (q : RegAcc) (s : State), WriteOk s q R.KEEVE_CMD →
    let off := rbits s R.KEEVE_ADDR 17 3 * 8
    let len := rbits s R.KEEVE_LEN 8 0
    let ix := q.wr.bits 15 8
    let cmd := q.wr.bits 3 0
    let taken (k : KeeveReq) (o : Out) : Prop := o = .next (rputb { s with keeve := { s.keeve with running := some k } } R.KEEVE_STATUS 8 true)
    let refused (n : Nat) (o : Out) : Prop := o = .next (rput s R.KEEVE_STATUS 7 0 n)
    (s.keeve.running ≠ none → refused 1 (exec (.keeveProgram q) s) ∧ refused 1 (exec (.keeveErase q) s) ∧
      refused 1 (exec (.keeveRecordWrite q) s) ∧ refused 1 (exec (.keeveRevoke q) s)) ∧
    (s.keeve.running = none →
      (cmd = 1 → 0xC000 ≤ off → off + len ≤ 0x40000 → 8 ≤ len → len ≤ 256 → len % 8 = 0 →
        ((∀ i, i < len → mget s.keeve.data (off + i) 0xFF = 0xFF) → taken (.program off (keeveBuf s len)) (exec (.keeveProgram q) s)) ∧
        ((∃ i, i < len ∧ mget s.keeve.data (off + i) 0xFF ≠ 0xFF) → refused 2 (exec (.keeveProgram q) s))) ∧
      (cmd = 1 → off < 0xC000 → refused 3 (exec (.keeveProgram q) s)) ∧
      (cmd = 2 → 0xC000 ≤ off → taken (.erase (off / 4096)) (exec (.keeveErase q) s)) ∧
      (cmd = 2 → off < 0xC000 → refused 3 (exec (.keeveErase q) s)) ∧
      (cmd = 3 → off / 4096 = 1 → ix < 16 → rbits s R.PART_PHASE 1 0 = 1 → byBoot s q → rbit s R.AON_BOOT_STATUS 11 = true →
        let v := fieldAt (keeveBuf s 4) 0 4
        (keeveCounter s ix < v → ix = 0 → v ≤ s.boot.ver1 → taken (.counter ix v) (exec (.keeveRecordWrite q) s)) ∧
        (v ≤ keeveCounter s ix → exec (.keeveRecordWrite q) s =
          .next (rput (logReq s 1 Code.VERSION_HOLD (reqOf s q.who) (word ix) 0) R.KEEVE_STATUS 7 0 5))) ∧
      (cmd = 4 → (¬ byBoot s q ∨ ix = s.boot.root) → refused 3 (exec (.keeveRevoke q) s)) ∧
      (cmd = 4 → byBoot s q → ix < 4 → ix ≠ s.boot.root → s.boot.root < 4 → s.boot.root ∈ liveRoots s →
        taken (.revoke ix) (exec (.keeveRevoke q) s)))) ∧
  (∀ (s : State) (k : KeeveReq), s.keeve.running = some k → s.keeve.queue = [] → Reaches (exec .keeveOpDone s) fun t =>
    t.keeve.running = none ∧ rbits t R.KEEVE_STATUS 8 0 = 0 ∧ eicPending t 6 = true ∧ t.mem = s.mem ∧ t.cores = s.cores ∧
    (∀ sec, k = .erase sec → ∀ a, mget t.keeve.data a 0xFF = if a / 4096 = sec then 0xFF else mget s.keeve.data a 0xFF) ∧
    (∀ off l, k = .program off l → ∀ a, mget t.keeve.data a 0xFF =
      if off ≤ a ∧ a < off + l.length then l.getD (a - off) 0 else mget s.keeve.data a 0xFF) ∧
    (∀ i v, k = .counter i v → mget t.keeve.counters i 0 = v)) ∧
  (∀ s : State,
    (rbit s R.TRNG_STATUS 3 = false → Reaches (exec .trngHealthFail s) fun t => drbgReady t = false ∧ rbit t R.TRNG_STATUS 2 = true ∧
      t.trng.row = s.trng.row + 1 ∧ rbit t R.TRNG_STATUS 3 = decide (2 ≤ s.trng.row) ∧ eicPending t 7 = true ∧
      (rget t R.TRNG_FAILS).toNat = min 0xFFFFFFFF ((rget s R.TRNG_FAILS).toNat + 1) ∧ t.cores = s.cores ∧ t.mem = s.mem) ∧
    (rbit s R.TRNG_STATUS 3 = true → exec .trngHealthFail s = .next s ∧ exec .trngStartupDone s = .next s) ∧
    (rbit s R.TRNG_STATUS 3 = false → drbgReady s = false → Reaches (exec .trngStartupDone s) fun t =>
      drbgReady t = true ∧ t.trng.row = 0 ∧ t.trng.requests = 0 ∧ t.cores = s.cores ∧ t.mem = s.mem) ∧
    exec .drbgReseed s = .next { s with trng := { s.trng with requests := 0, reseeds := s.trng.reseeds + 1 } } ∧
    (∀ q, ReadOk s q R.TRNG_OUT → q.who ≠ .debug →
      (drbgReady s = false → exec (.trngOutRead q) s = .next { s with lastRead := 0 }) ∧
      (drbgReady s = true → Reaches (exec (.trngOutRead q) s) fun t => t.freeIx = s.freeIx + 8 ∧
        t.lastRead = word (leNat (freeBytes s 8).1) ∧ t.regs = s.regs ∧ t.mem = s.mem)))

/-- R137: RESEAL of an LPDDR region advances its epoch, zeroes its lines and clears REVOKED when it is carried out; of an xSPI region it advances the
epoch at once and writes nothing. R138 to R143: firkin commands at Machine level move a slot through its states, one at a time; a command
below Machine level is ignored and logged.

Where the spec is silent it rests on the model's choices of log entries 35 and 64. -/
def Obligations.FirkinsAndResealing : Prop :=
  (∀ (q : RegAcc) (s : State), WriteOk s q R.COPPER_SEAL_CMD → byMachine s q → q.wr.one 8 = true →
    let i := q.wr.bits 4 0
    rgnValid s i = true → rgnSealed s i = true →
    (regionOf s (rgnLo s i) = .xspi → sealEpoch s i < 0xFFFFFFFF → exec (.reseal q) s =
      .next (rputb (rset s (R.COPPER_SEAL_EPOCH i) (word (sealEpoch s i + 1))) R.COPPER_SEAL_REVOKED i false)) ∧
    (regionOf s (rgnLo s i) = .xspi → sealEpoch s i = 0xFFFFFFFF → exec (.reseal q) s =
      .next (logReq s 1 Code.SEAL_EPOCH_END (reqOf s q.who) (word i) 0)) ∧
    (regionOf s (rgnLo s i) ≠ .xspi → i ∉ s.copper.reseals → exec (.reseal q) s =
      .next { s with copper := { s.copper with reseals := s.copper.reseals ++ [i] } })) ∧
  (∀ (i : Fin 32) (s : State), i.val ∈ s.copper.reseals → sealEpoch s i < 0xFFFFFFFF →
    Reaches (exec (.resealDone i) s) fun t => sealEpoch t i = sealEpoch s i + 1 ∧ rbit t R.COPPER_SEAL_REVOKED i = false ∧
      i.val ∉ t.copper.reseals ∧ t.cores = s.cores) ∧
  (∀ (q : RegAcc) (s : State), WriteOk s q R.COPPER_FK_CMD →
    let f := q.wr.bits 11 8
    let op := q.wr.bits 2 0
    let fin (u : State) (code : Nat) : Out := .next (edge (rset u R.COPPER_FK_RESULT (word code)) 16)
    (¬ byMachine s q →
      let t := logReq s 1 Code.FK_CMD_DENIED (reqOf s q.who) (word f) 0
      exec (.fkLoad q) s = .next t ∧ exec (.fkStart q) s = .next t ∧ exec (.fkStop q) s = .next t ∧ exec (.fkDestroy q) s = .next t) ∧
    (byMachine s q → s.copper.fkJob = none →
      (op = 2 → fkState s f = 2 ∨ fkState s f = 4 → exec (.fkStart q) s = fin (rput s R.COPPER_FK_STATE (4 * f + 2) (4 * f) 3) 0) ∧
      (op = 2 → fkState s f ≠ 2 → fkState s f ≠ 4 → exec (.fkStart q) s = fin s 2) ∧
      (op = 3 → fkState s f = 3 → exec (.fkStop q) s = fin (rput s R.COPPER_FK_STATE (4 * f + 2) (4 * f) 4) 0) ∧
      (op = 3 → fkState s f ≠ 3 → exec (.fkStop q) s = fin s 2) ∧
      (op = 1 → lifecycle s ≠ 4 → fkRegions s f 3 ≠ [] → fkState s f = 0 →
        let src := rbits s R.COPPER_FK_SRC 39 0
        let r := { reqOf s q.who with firkin := none }
        ∀ h u rec, memRead s r src 0x1600 .read = (u, .inr h) → licRecord u (q.wr.bits 21 16) = (u, rec) → drbgReady u = true →
        (fkCheck u f h rec ≠ 0 → exec (.fkLoad q) s =
            fin (logReq u 1 Code.FK_REJECT (reqOf s q.who) 0 (word (fkCheck u f h rec))) (fkCheck u f h rec)) ∧
        (fkCheck u f h rec = 0 → Reaches (exec (.fkLoad q) s) fun t => fkState t f = 1 ∧ rget t R.COPPER_FK_RESULT = 0x100 ∧
          t.copper.fkJob = some ⟨f, true, h, q.wr.bits 21 16, src⟩ ∧ t.mem = u.mem ∧ t.cores = u.cores ∧
          (∀ j, j ∈ fkRegions u f 3 → rgnSealed u j = true → sealEpoch t j = 1))) ∧
      (op = 4 → fkState s f ≠ 0 → Reaches (exec (.fkDestroy q) s) fun t => fkState t f = 4 ∧ rget t R.COPPER_FK_RESULT = 0x100 ∧
        t.copper.fkJob = some { slot := f, load := false })) ∧
    (byMachine s q → ∀ j, s.copper.fkJob = some j → ¬ (op = 4 ∧ j.load = true ∧ j.slot = f) →
      let t := edge (rput s R.COPPER_FK_RESULT 7 0 1) 16
      exec (.fkLoad q) s = .next t ∧ exec (.fkStart q) s = .next t ∧ exec (.fkStop q) s = .next t ∧ exec (.fkDestroy q) s = .next t)) ∧
  (∀ (s : State) (j : FkJob), s.copper.fkJob = some j → j.slot < 16 →
    (j.load = false → Reaches (exec .fkDestroyDone s) fun t => fkState t j.slot = 0 ∧ t.copper.fkJob = none ∧
      rget t R.COPPER_FK_RESULT = 0 ∧ eicPending t 16 = true ∧ t.cores = s.cores) ∧
    (j.load = true → ∀ ct lic, 
      memRead { s with copper := { s.copper with fkJob := none } } { reqOf s .own with level := .m, firkin := none } (j.src + 0x1600)
        (fieldAt j.hdr 0x20 4 + fieldAt j.hdr 0x24 4) .read = ({ s with copper := { s.copper with fkJob := none } }, .inr ct) →
      keeveLicence s j.licence = some lic →
      let key := (kwOpen false (storeKw s) (sub lic 0x58 40)).getD []
      sha384 ct = sub j.hdr 0x50 48 → gcmTag key (sub j.hdr 0x30 12) (j.hdr.take 0x40) ct = sub j.hdr 0x40 16 →
      Reaches (exec .fkLoadDone s) fun t => fkState t j.slot = 2 ∧ t.copper.fkJob = none ∧ rget t R.COPPER_FK_RESULT = 0 ∧
        eicPending t 16 = true ∧
        measBytes t (4 + j.slot / 4) = sha384 (measBytes s (4 + j.slot / 4) ++ sha384 (BitVec.ofNat 8 j.slot :: j.hdr.take 0x888))))

/-! Sparge -/

/-- R266, R269, R271, R272, R274, R701: a post reads its descriptor and takes the last place in its channel, refused DESC_BAD where a field marked zero is
not; a full channel ignores it; a value that is no aligned address is refused and moves nothing. A descriptor begins in its turn, the next of a
chain is read when the one before has ended, and ABORT ends every descriptor of the channel ABORTED, bytes already written staying.

R272 to R275, R277, R281, R283: a burst moves the next bytes of its descriptor's row from source to destination, the last ends it OK; FILL writes byte
a mod 8 of its pattern at a; a popped entry's 8 bytes go to the destination once a wait has ended; a rackable order's transfer outside its window and
staging ends STAGING_ONLY; an uncorrectable source ends it ECC_ERROR with nothing written. The oldest finished descriptor completes with
LAST and DONE, and with its completion entry, which waits while the grant is full.

Where the spec is silent it rests on the model's choices of log entry 48. -/
def Obligations.SpargeChannels : Prop :=
  (
  (∀ (q : RegAcc) (c : Fin 32) (s : State), WriteOk s q (R.SPARGE_POST c) → c.val < spargeChannels s →
    let v := q.wr.v
    let l0 := spQueue s c
    (8 ≤ l0.length → exec (.spargePost q c) s = .next (rputb s (R.SPARGE_CHSTAT c) 5 true)) ∧
    (l0.length < 8 → bits v 5 0 ≠ 0 ∨ bits v 63 40 ≠ 0 → Reaches (exec (.spargePost q c) s) fun t =>
      spQueue t c = l0 ∧ rbits t (R.SPARGE_CHSTAT c) 15 8 = 6 ∧ eicPending t (120 + c.val) = true ∧ t.mem = s.mem ∧ t.grants = s.grants) ∧
    (l0.length < 8 → bits v 5 0 = 0 → bits v 63 40 = 0 → ∀ l u, memRead s (reqOf s q.who) v.toNat 64 .read = (u, .inr l) →
      u.sparge = s.sparge → Reaches (exec (.spargePost q c) s) fun t => ∃ e, spQueue t c = l0 ++ [e] ∧ e.desc = spDesc l ∧
        e.post = reqOf s q.who ∧ e.tun = none ∧ t.mem = u.mem ∧ t.cores = u.cores ∧
        ((spDesc l).fieldsBad = true → e.phase = .ended ∧ e.fin.map (fun x => x.2.1) = [6]) ∧
        ((spDesc l).fieldsBad = false → (spDesc l).flags.toNat % 128 / 32 = 0 → (spDesc l).donePush = false →
          e.phase = .queued ∧ e.moved = 0 ∧ e.fin = []))) ∧
  (∀ (c : Fin 32) (i : Fin 8) (s : State) (e : SpEntry), (spQueue s c)[i.val]? = some e → e.phase = .queued →
    rbit s (R.SPARGE_CHCTL c) 0 = true → e.desc.fence = false ∨ i.val = 0 → (∀ x ∈ (spQueue s c).take i, x.phase ≠ .queued) →
    (e.desc.total ≠ 0 → exec (.spargeTransferStart c i) s = .next (setSpQueue s c ((spQueue s c).set i { e with phase := .running }))) ∧
    (e.desc.total = 0 → exec (.spargeTransferStart c i) s = .next (setSpQueue s c ((spQueue s c).set i
      { e with fin := e.fin ++ [(e.desc, 0, false)], phase := if e.desc.chain then .chain else .ended })))) ∧
  (∀ (c : Fin 32) (i : Fin 8) (s : State) (e : SpEntry), (spQueue s c)[i.val]? = some e → e.phase = .chain →
    (∀ l, memRead s e.post (bits e.desc.next 39 0) 64 .read = (s, .inr l) → (spDesc l).fieldsBad = false →
      (spDesc l).flags.toNat % 128 / 32 = 0 → (spDesc l).donePush = false → exec (.spargeChainNext c i) s =
        .next (setSpQueue s c ((spQueue s c).set i { e with desc := spDesc l, moved := 0, phase := .queued }))) ∧
    (∀ x, memRead s e.post (bits e.desc.next 39 0) 64 .read = (s, .inl x) → spStatus x = 1 → Reaches (exec (.spargeChainNext c i) s) fun t =>
      rbits t (R.SPARGE_CHSTAT c) 31 24 = busErrNum x ∧ t.mem = s.mem ∧
      (spQueue t c)[i.val]?.map (fun y => (y.phase, y.fin.getLast?.map (fun z => z.2.1))) = some (.ended, some 1))) ∧
  (∀ (q : RegAcc) (c : Fin 32) (s : State), WriteOk s q (R.SPARGE_CHCTL c) → q.wr.one 1 = true →
    Reaches (exec (.spargeAbort q c) s) fun t => t.mem = s.mem ∧ t.grants = s.grants ∧
      spQueue t c = (spQueue s c).map fun e => if e.phase = .ended then e else { e with fin := e.fin ++ [(e.desc, 5, false)], phase := .ended }) ∧
  (∀ (g : BitVec 40) (s : State), Reaches (exec (.eccWriteback g) s) fun t =>
    g.toNat / 8 * 8 ∉ t.eccPend ∧ (∀ x, x ∉ s.eccPend → x ∉ t.eccPend) ∧ sameMem s t ∧ t.regs = s.regs ∧ t.cores = s.cores)) ∧
  (
  (∀ (c : Fin 32) (i : Fin 8) (s : State) (e : SpEntry), (spQueue s c)[i.val]? = some e → spServes s c i = true →
    spDataGrantsOk s c e.desc = true → e.stream = none → e.desc.dstGt = false →
    let n := spBurstLen s e
    let a := spDst e
    let src := spSrc e
    let next (u : State) (k : Nat) : State := spModify u c i fun x =>
      if x.desc.total ≤ x.moved + k then { x with moved := x.moved + k, fin := x.fin ++ [(x.desc, 0, false)],
                                                  phase := if x.desc.chain then .chain else .ended }
      else { x with moved := x.moved + k }
    n ≤ spRow e - e.moved % spRow e → (∃ o, regionOf s a = .tun o (a % 0x100000)) ∨ regionOf s a = .cellar →
    (spMayWrite s e a n = true → e.desc.fill = true → ∀ u,
      memWrite s e.req a ((List.range n).map fun k => BitVec.ofNat 8 (e.desc.src.toNat / 2 ^ (8 * ((a + k) % 8)))) = (u, none) →
      exec (.spargeBurst c i .good false) s = .next (next u n)) ∧
    (e.desc.fill = false → e.desc.srcGt = false → regionOf s src = .cellar → remStart s e.req src n none = s →
      busWaits s e.req src n false = false → ∀ l, memRead s e.req src n .read = (s, .inr l) → l.length = n →
      (spMayWrite s e a n = true → ∀ u, memWrite s e.req a l = (u, none) → exec (.spargeBurst c i .good false) s = .next (next u n)) ∧
      (spMayWrite s e a n = false → Reaches (exec (.spargeBurst c i .good false) s) fun t => t.mem = s.mem ∧
        (spQueue t c)[i.val]?.map (fun y => (y.phase, y.fin.getLast?.map (fun z => z.2.1))) = some (.ended, some 7)) ∧
      (e.order = none → Reaches (exec (.spargeBurst c i .uncorrected false) s) fun t => t.mem = s.mem ∧
        (spQueue t c)[i.val]?.map (fun y => (y.phase, y.fin.getLast?.map (fun z => z.2.1))) = some (.ended, some 2) ∧
        rget t R.SPARGE_UE_LAST = word ((src - 0x10000000) / 0x80000 * 2 ^ 40 + src / 8 * 8) ∧
        (rget t R.SPARGE_UE_COUNT).toNat = min 0xFFFFFFFF ((rget s R.SPARGE_UE_COUNT).toNat + 1))) ∧
    (e.desc.fill = false → e.desc.srcGt = true → spMayWrite (grantPop s (bits e.desc.src 5 0)).1 e a 8 = true → ∀ u,
      regionOf (grantPop s (bits e.desc.src 5 0)).1 a = regionOf s a →
      memWrite (grantPop s (bits e.desc.src 5 0)).1 e.req a (leBytes 8 (grantPop s (bits e.desc.src 5 0)).2.val.toNat) = (u, none) →
      exec (.spargeGrantWaitEnd c i) s = .next (next u 8))) ∧
  (∀ (c : Fin 32) (s : State) (e : SpEntry) (l : List SpEntry) (d : SpDesc) (st : Byte) (quiet : Bool) (more : List (SpDesc × Byte × Bool)),
    spQueue s c = e :: l → e.fin = (d, st, quiet) :: more → e.stream = none → strPostAll (spComplete s c) c = spComplete s c →
    let gt := d.doneGt.toNat % 64
    let out (t : State) : Prop := rbits t (R.SPARGE_CHSTAT c) 15 8 = st.toNat ∧
      (rget t (R.SPARGE_DONE c)).toNat = ((rget s (R.SPARGE_DONE c)).toNat + 1) % 2 ^ 32 ∧ (st ≠ 0 → c.val < spargeChannels s →
        eicPending t (120 + c.val) = true) ∧ spQueue t c = (if more = [] ∧ e.phase = .ended then l else { e with fin := more } :: l) ∧
      t.mem = s.mem
    (d.donePush = false ∨ quiet = true → Reaches (exec (.spargeDescComplete c) s) fun t => out t ∧ t.grants = s.grants) ∧
    (d.donePush = true → quiet = false → spDoneGrantOk s c d = true →
      (grantFull s gt = true → exec (.spargeDescComplete c) s = .next s) ∧
      (grantFull s gt = false → Reaches (exec (.spargeDescComplete c) s) fun t => out t ∧
        (grantOf t gt).q.take (grantOf s gt).q.length = (grantOf s gt).q ∧
        (grantOf t gt).q.getLast?.map GEntry.val = some (word (st.toNat * 2 ^ 56 + bits d.doneTag 55 0))))))

/-! Orders, racking and the steep rotation -/

/-- R333 to R339: ENABLE 1 on a drained queue with a sound staging pool sets its pointers from its gyle counter; ENABLE 0 stops acceptance; QGYLE
never falls and moves only while disabled; a doorbell of 1 to 256 waits its turn. An accepted descriptor gets a journal entry, the next gyle and the
next index; a full journal or a busy index refuses the rest of the doorbell.

R347, R349, R352, R355, R356: the order of lowest gyle racks: a FAILED order, a barrier and an order without output by their record alone, the others by the
copy of their staged output first; a refused copy gives status FAILED, cause RACK_DENIED, with the bytes copied. Once the record is written its
entry is FREE, its source pends, RETIRE and SAFE have moved past it.

Where the spec is silent it rests on the model's choices of log entries 47 and 49. -/
def Obligations.OrdersAndRacking : Prop :=
  (
  (∀ (q : RegAcc) (n : Fin 32) (s : State), WriteOk s q (R.ORDER_QCFG n) → queueOn s n = false →
    let z := q.wr.bits 4 1
    let g := (rget s (R.ORDER_QGYLE n)).toNat
    (queueDrained s n = true → bit q.wr.v 0 = true → 3 ≤ z → z ≤ 8 →
      (stagingOk s n = true → Reaches (exec (.queueEnable q n) s) fun t => queueOn t n = true ∧ queueSize t n = 2 ^ z ∧
        rbits t (R.ORDER_QCFG n) 11 8 = q.wr.bits 11 8 ∧ rbits t (R.ORDER_QPTR n) 7 0 = g % 2 ^ z ∧
        rbits t (R.ORDER_QPTR n) 15 8 = g % 2 ^ z ∧ t.journal = s.journal ∧ t.mem = s.mem ∧ t.cores = s.cores) ∧
      (stagingOk s n = false → Reaches (exec (.queueEnable q n) s) fun t => queueOn t n = false ∧
        rbit t (R.ORDER_QSTAT n) 2 = true ∧ t.journal = s.journal ∧ t.mem = s.mem ∧ t.cores = s.cores))) ∧
  (∀ (q : RegAcc) (n : Fin 32) (s : State), WriteOk s q (R.ORDER_QCFG n) → bit q.wr.v 0 = false →
    Reaches (exec (.queueDisable q n) s) fun t => queueOn t n = false ∧ mget t.doors n [] = [] ∧ t.journal = s.journal ∧
      t.mem = s.mem ∧ t.cores = s.cores) ∧
  (∀ (q : RegAcc) (n : Fin 32) (s : State), WriteOk s q (R.ORDER_QGYLE n) → q.wide = true →
    exec (.gyleWrite q n) s = .next (if queueOn s n = false ∧ (rget s (R.ORDER_QGYLE n)).toNat ≤ q.value.toNat
      then rset s (R.ORDER_QGYLE n) q.value else s)) ∧
  (∀ (q : RegAcc) (n : Fin 32) (s : State), WriteOk s q (R.ORDER_QDOOR n) →
    (∀ m, m < 64 → rbits s (R.STR_CFG m) 28 24 = n → rbits s (R.STR_STATE m) 2 0 ≠ 2 ∧ rbits s (R.STR_STATE m) 2 0 ≠ 3) →
    exec (.orderDoorbell q n) s = .next (if 1 ≤ q.wr.bits 8 0 ∧ q.wr.bits 8 0 ≤ 256 ∧ queueOn s n = true
      then { s with doors := mset s.doors n (mget s.doors n [] ++ [q.wr.bits 8 0]) } else s)) ∧
  (∀ (n : Fin 32) (s : State) (k : Nat) (l : List Nat), mget s.doors n [] = k :: l → queueOn s n = true →
    let g := (rget s (R.ORDER_QGYLE n)).toNat
    let i := rbits s (R.ORDER_QPTR n) 15 8
    let a := rbits s (R.ORDER_QRING n) 39 6 * 64 + i * 64
    let clash := (queueOrders s n).any fun e => e.2.gyle % queueSize s n = g % queueSize s n
    (s.journal.length < 1024 → clash = false → ∀ d, memRead s (orderReq s n) a 64 .read = (s, .inr d) → d ≠ [] →
      Reaches (exec (.orderAccept n) s) fun t => ∃ e, jentry t (journalFree s) = some e ∧ e.gyle = g ∧ e.queue = n.val ∧ e.desc = a ∧
        e.d = d ∧ e.attempts = 0 ∧ e.acceptNs = (dtbNs s).toNat ∧
        (orderDescBad s n d = true → e.st = .staged ∧ e.failed = true ∧ e.cause = 11) ∧
        (orderDescBad s n d = false → e.failed = false ∧ e.st = if fieldAt d 0x26 2 / 4 % 2 = 1 then .staged else .accepted) ∧
        rget t (R.ORDER_QGYLE n) = word ((g + 1) % 2 ^ 64) ∧ rbits t (R.ORDER_QPTR n) 15 8 = (i + 1) % queueSize s n % 256 ∧
        mget t.doors n [] = (if k = 1 then l else (k - 1) :: l) ∧ t.mem = s.mem ∧ t.cores = s.cores) ∧
    (1024 ≤ s.journal.length ∨ clash = true → Reaches (exec (.orderAccept n) s) fun t => mget t.doors n [] = l ∧
      (rget t (R.ORDER_QREFUSED n)).toNat = min 0xFFFFFFFF ((rget s (R.ORDER_QREFUSED n)).toNat + k) ∧
      rbit t (R.ORDER_QSTAT n) 0 = true ∧ eicPending t 52 = true ∧ rget t (R.ORDER_QGYLE n) = rget s (R.ORDER_QGYLE n) ∧
      t.journal = s.journal ∧ t.mem = s.mem ∧ t.cores = s.cores)) ∧
  (∀ (q : RegAcc) (s : State), WriteOk s q R.ORDER_CTRL → Reaches (exec (.orderRun q) s) fun t =>
    rbit t R.ORDER_CTRL 0 = bit q.wr.v 0 ∧ t.journal = s.journal ∧ t.mem = s.mem ∧ t.cores = s.cores)) ∧
  (
  (∀ (n : Fin 32) (s : State) (j : Nat) (e : JEntry), rbit s R.ORDER_CTRL 0 = true → rackNext s n = some (j, e) → e.st = .staged → e.record = [] →
    let record (u : State) (status cause out : Nat) : Prop := Reaches (exec (.orderRack n .good false) s) fun t =>
      jentry t j = some { e with st := .racking, record := recordBytes u n e status cause out } ∧ t.mem = u.mem ∧ t.cores = u.cores
    (∀ x ∈ s.journal, x.2.queue = n.val → e.gyle ≤ x.2.gyle) ∧
    (e.failed = true → record s 1 e.cause 0) ∧
    (e.failed = false → e.barrier = true → mget s.safeWait n [] = [] → record s 2 0 0) ∧
    (e.failed = false → e.barrier = true → mget s.safeWait n [] ≠ [] → exec (.orderRack n .good false) s = .next s) ∧
    (e.failed = false → e.barrier = false → e.rackable = false ∨ e.f 0x20 4 = 0 → record s 0 0 0) ∧
    (e.failed = false → e.barrier = false → e.rackable = true → e.f 0x20 4 ≠ 0 → ∀ l u k x,
      let s1 := setJ s j { e with st := .racking }
      let src := (stagingSlot s n e.gyle).1
      let dst := e.f 0x18 8
      memRead s1 (orderReq s n) src (e.f 0x20 4) .read = (s1, .inr l) → remStart s1 (orderReq s n) dst (e.f 0x20 4) (some l) = s1 →
      busWaits s1 (orderReq s n) dst (e.f 0x20 4) true = false → rackCopy s1 (orderReq s n) src dst (e.f 0x20 4) = (u, k, x) →
      u.journal = s1.journal → u.regs = s.regs → (x = none → record u 0 0 (e.f 0x20 4)) ∧ (x ≠ none → record u 1 14 k))) ∧
  (∀ (n : Fin 32) (s u : State) (j : Nat) (e : JEntry), rackNext s n = some (j, e) → e.record ≠ [] →
    let r := recordAt s n e.gyle
    busWaits s (orderReq s n) r.1 32 true = false → memWrite s (orderReq s n) r.1 e.record = (u, none) →
    u.regs = s.regs → u.journal = s.journal → u.safeWait = s.safeWait → Reaches (exec (.orderRacked n) s) fun t =>
      mhas t.journal j = false ∧ (∀ i, i ≠ j → jentry t i = jentry s i) ∧ eicPending t (20 + n.val) = true ∧
      rbits t (R.ORDER_QPTR n) 7 0 = (r.2 + 1) % queueSize s n % 256 ∧
      (mget s.safeWait n [] = [] → (fieldAt e.record 0x18 4 = 0 ∨
          regionOf u (e.f 0x18 8 + fieldAt e.record 0x18 4 - 1) ≠ .pcieOut) → rget t (R.ORDER_QSAFE n) = word e.gyle) ∧
      t.mem = u.mem ∧ t.cores = u.cores))

/-- R341 to R345, R350, R351: a free fetcher takes an order it may take, none that it may take having a higher PRIO; the attempt starts with the
registers of R344; once ODONE has drained and its transfers have completed, the entry is STAGED and the fetcher free; an attempt whose budget has elapsed is re-run on an
untried tun, or FAILED where it is not rackable, and its tun steeps next. A wedged tun is part-reset with the same answer.

Where the spec is silent it rests on the model's choices of log entries 11 and 49. -/
def Obligations.AttemptsRun : Prop :=
  (∀ (k : Fin 12) (s : State) (j : Nat) (e : JEntry), let p := k.val + 2
    fetcherFree s p = true → orderFor s p = some (j, e) → e.useFk.any (fun f => fkState s f = 0) = false →
    (mayTake s p e = true ∧ e.st = .accepted ∧ ∀ x ∈ s.journal, x.2.queue < 32 → x.2.st = .accepted → mayTake s p x.2 = true →
      rbits s (R.ORDER_QCFG x.2.queue) 11 8 ≤ rbits s (R.ORDER_QCFG e.queue) 11 8) ∧
    Reaches (exec (.orderClaim k) s) fun t => jentry t j = some { e with st := .running, proc := some p } ∧
      (coreOf t p).order = some j ∧ coreLevel p (coreOf t p) = .t ∧ coreWorld p (coreOf t p) = oqWorld s e.queue ∧
      (∀ q, q ≠ p → coreOf t q = coreOf s q) ∧ t.mem = s.mem ∧ t.regs = s.regs) ∧
  (∀ (k : Fin 12) (s u : State) (j : Nat) (e : JEntry) (d : List Byte), let p := k.val + 2
    let c := coreOf s p
    let own : Req := ⟨.tun k, BitVec.ofNat 8 p, oqWorld s e.queue, .t, e.useFk⟩
    let e' : JEntry := { e with d := d }
    c.order = some j → jentry s j = some e → c.fetching = true → c.lastWorld = oqWorld s e.queue → c.lastFk = e.useFk →
    memRead s (orderReq s e.queue) e.desc 64 .read = (s, .inr d) → e'.useFk = e.useFk → e'.f 0x10 4 = 0 →
    memWrite (setJ s j e') own (0x2003FFC0 + k.val * 0x100000) (d.take 0x38 ++ [BitVec.ofNat 8 e.attempts] ++ d.drop 0x39) = (u, none) →
    u.regs = s.regs → u.copper = s.copper → Reaches (exec (.attemptStart k) s) fun t =>
      let x := coreOf t p
      x.pc = (match e.useFk with | some f => fkCodeBase s f + (mget s.copper.fk f ⟨[], 0, 0, 0⟩).entry | none => e'.f 0 8) ∧
      x.fetching = false ∧ coreLevel p x = .t ∧ coreWorld p x = oqWorld s e.queue ∧ mget x.g 1 0 = word (e'.f 0 8) ∧
      mget x.g 2 0 = word (e'.f 0x30 8) ∧ mget x.g 3 0 = word (stagingSlot s e.queue e.gyle).1 ∧ mget x.g 4 0 = 0x3FFC0 ∧
      mget x.g 64 0 = 0x3FFC0 ∧ (∀ r, 5 ≤ r → r ≤ 62 → mget x.g r 0 = 0) ∧ creg p x 40 = word e.gyle ∧ creg p x 41 = word e.queue ∧
      creg p x 24 = rget s (R.ORDER_QEDTT e.queue) ∧ x.p = 1 ∧ x.xa = [] ∧ t.mem = u.mem) ∧
  (∀ (k : Fin 12) (s : State) (j : Nat) (e : JEntry), let p := k.val + 2
    (coreOf s p).order = some j → jentry s j = some e → e.st = .running → (coreOf s p).fetching = true → e.proc = some p →
    (coreOf s p).odone = true →
    ((∀ c, c < 32 → spOutstanding s c k = false) → Reaches (exec (.attemptEnd k) s) fun t =>
      (coreOf t p).order = none ∧ (coreOf t p).fetching = true ∧ coreWorld p (coreOf t p) = .secure ∧ t.mem = s.mem ∧ t.regs = s.regs ∧
      jentry t j = some { e with st := .staged, attempts := e.attempts + 1, tried := e.tried ++ [p], proc := none,
                                 failed := e.failed || e.stagingOnly, cause := if e.stagingOnly then 9 else e.cause }) ∧
    ((∃ c, c < 32 ∧ spOutstanding s c k = true) → exec (.attemptEnd k) s = .next s)) ∧
  (∀ (k : Fin 12) (s : State) (j : Nat) (e : JEntry), let p := k.val + 2
    let ended (o : Out) (cause : Nat) : Prop := Reaches o fun t =>
      (coreOf t p).order = none ∧ (coreOf t p).fetching = true ∧ p ∈ t.steep.must ∧ (coreOf t p).g = [] ∧
      (∀ a, 0x20000000 + k.val * 0x100000 ≤ a → a < 0x20000000 + k.val * 0x100000 + 0x40000 → readByte t a = memDefault a) ∧
      (∀ a, a < 0x20000000 + k.val * 0x100000 ∨ 0x20000000 + k.val * 0x100000 + 0x40000 ≤ a → readByte t a = readByte s a) ∧
      (∀ q, q ≠ p → coreOf t q = coreOf s q) ∧ ∃ x, jentry t j = some x ∧ x.attempts = e.attempts + 1 ∧ x.tried = e.tried ++ [p] ∧
        x.proc = none ∧ (e.rackable = false → x.st = .staged ∧ x.failed = true ∧ x.cause = cause) ∧
        (e.rackable = true → e.attempts < 2 → untriedTun s e (e.tried ++ [p]) = true → x.st = .accepted ∧ x.cause = cause ∧
          x.failed = e.failed) ∧
        (e.rackable = true → 2 ≤ e.attempts → x.st = .staged ∧ x.failed = true ∧ x.cause = cause) ∧
        (e.rackable = true → e.attempts < 2 → untriedTun s e (e.tried ++ [p]) = false → x.st = .staged ∧ x.failed = true ∧ x.cause = 13)
    (coreOf s p).order = some j → jentry s j = some e →
    (rbits s (R.ORDER_BUDGET (e.f 0x25 1 % 4)) 15 0 ≠ 0 → ended (exec (.attemptWatchdogExpiry k) s) 3) ∧
    ((coreOf s p).phase = .wedged → ended (exec (.partReset (Fin.ofNat 14 p)) s) 1))

/-- R357 to R366: the release of the tuns starts each at its vector but the first spare, which is tested; a swap takes the next tun out of dispatch, its self-test starts
once its attempt has ended and the tested spare is back in the pool; a pass makes it the spare, a failure retires it; PAUSE with no
test in progress returns the spare; a directed test makes its tun the next.

Where the spec is silent it rests on the model's choices of log entry 49. -/
def Obligations.SteepRotation : Prop :=
  (∀ (q : RegAcc) (s : State), WriteOk s q R.SYSCON_TUN_RELEASE → q.wr.one 0 = true → rbit s R.SYSCON_TUN_RELEASE 0 = false →
    firstSpare s ∈ aliveTuns s → Reaches (exec (.tunRelease q) s) fun t => rbit t R.SYSCON_TUN_RELEASE 0 = true ∧
      (∀ p ∈ aliveTuns s, p ≠ firstSpare s → tunInPool t p = true ∧ (coreOf t p).phase = .running ∧
        (coreOf t p).pc = rbits s R.SYSCON_TUN_VECTOR 39 2 * 4) ∧
      tunInPool t (firstSpare s) = false ∧ steepSpare t = firstSpare s ∧ steepPhase t = 2 ∧ t.mem = s.mem) ∧
  (∀ s : State, s.steep.swapping = false → steepPhase s = 0 → rbit s R.SYSCON_TUN_RELEASE 0 = true →
    let must := s.steep.must.filter fun p => p ∈ aliveTuns s
    let taken (n : Nat) : Prop := n ≠ 0 → n < 16 → Reaches (exec .steepSwap s) fun t =>
      t.steep.out = n ∧ t.steep.swapping = true ∧ tunInPool t n = false ∧ steepPhase t = 1 ∧ n ∉ t.steep.must ∧ t.cores = s.cores ∧
      t.mem = s.mem
    (∀ p, s.steep.direct = some p → taken p) ∧ (∀ p l, s.steep.direct = none → must = p :: l → taken p) ∧
    (s.steep.direct = none → must = [] → steepPaused s = false → taken (rbits s R.STEEP_STATUS 7 4)) ∧
    (s.steep.direct = none → must = [] → steepPaused s = true → exec .steepSwap s = .next s)) ∧
  (∀ s : State, let n := s.steep.out
    s.steep.swapping = true → steepPhase s = 1 → 2 ≤ n → n < 14 →
    ((coreOf s n).order = none → Reaches (exec .steepSelftestStart s) fun t => steepPhase t = 2 ∧ steepSpare t = n ∧
      (steepSpare s ≠ 0 → steepSpare s ≠ n → tunRetired s (steepSpare s) = false → tunInPool t (steepSpare s) = true) ∧
      (coreOf t n).g = [] ∧ (∀ q, q ≠ n → coreOf t q = coreOf s q) ∧
      (∀ a, 0x20000000 + (n - 2) * 0x100000 ≤ a → a < 0x20000000 + (n - 2) * 0x100000 + 0x40000 → readByte t a = memDefault a) ∧
      (∀ a, a < 0x20000000 + (n - 2) * 0x100000 ∨ 0x20000000 + (n - 2) * 0x100000 + 0x40000 ≤ a → readByte t a = readByte s a)) ∧
    ((coreOf s n).order ≠ none → exec .steepSelftestStart s = .next s)) ∧
  (∀ s : State, let n := steepSpare s
    let c := ((rget s R.STEEP_COUNT).toNat + 1) % 2 ^ 32
    (steepPhase s = 2 → exec (.steepTestDone true) s = .next (rput s R.STEEP_STATUS 10 8 3)) ∧
    (steepPhase s = 3 → rbit s R.STEEP_CTRL 1 = false → Reaches (exec (.steepTestDone true) s) fun t => steepPhase t = 0 ∧
      rbits t R.STEEP_STATUS 12 11 = 1 ∧ (rget t R.STEEP_COUNT).toNat = c ∧ steepSpare t = n ∧ t.steep.swapping = false ∧
      t.cores = s.cores ∧ t.mem = s.mem) ∧
    (steepPhase s = 2 ∨ steepPhase s = 3 → 2 ≤ n → n < 14 → rbit s R.STEEP_CTRL 1 = false → s.keeve.running = none →
      Reaches (exec (.steepTestDone false) s) fun t =>
      let sig := if steepPhase s = 2 then 1 else 2
      tunRetired t n = true ∧ tunInPool t n = false ∧ rbits t R.STEEP_STATUS 12 11 = 1 + sig ∧ eicPending t 53 = true ∧
      (rget t R.STEEP_FAILS).toNat = min 0xFFFFFFFF ((rget s R.STEEP_FAILS).toNat + 1) ∧ (∀ k, k < 32 → rbit t (R.ORDER_QELIG k) n = false) ∧
      t.keeve.running = some (.retire (n - 2) sig (rget s R.AON_RTC >>> 15)) ∧ steepPhase t = 0 ∧ t.cores = s.cores ∧ t.mem = s.mem)) ∧
  (∀ (q : RegAcc) (s : State), WriteOk s q R.STEEP_CTRL →
    (bit q.wr.v 1 = true → steepPhase s = 0 → steepPaused s = false → Reaches (exec (.steepPause q) s) fun t =>
      steepPaused t = true ∧ rbit t R.STEEP_CTRL 1 = true ∧ (steepSpare s ≠ 0 → tunInPool t (steepSpare s) = true ∧ steepSpare t = 0) ∧
      t.cores = s.cores ∧ t.mem = s.mem) ∧
    (bit q.wr.v 1 = true → steepPhase s ≠ 0 → Reaches (exec (.steepPause q) s) fun t => rbit t R.STEEP_CTRL 1 = true ∧
      steepPaused t = steepPaused s ∧ steepPhase t = steepPhase s ∧ t.cores = s.cores ∧ t.mem = s.mem) ∧
    (bit q.wr.v 1 = false → Reaches (exec (.steepUnpause q) s) fun t => rbit t R.STEEP_CTRL 1 = false ∧ steepPaused t = false ∧
      t.cores = s.cores ∧ t.mem = s.mem)) ∧
  (∀ (q : RegAcc) (s : State), WriteOk s q R.STEEP_DIRECT → let p := q.wr.bits 3 0
    (q.wr.one 8 = true → s.steep.direct = none → p ∈ aliveTuns s → exec (.steepDirect q) s =
      .next (rputb { s with steep := { s.steep with direct := some p } } R.STEEP_STATUS 13 true)) ∧
    (s.steep.direct ≠ none ∨ p ∉ aliveTuns s → exec (.steepDirect q) s = .next s))

/-! Grants and the device timebase -/

/-- R370 to R373: an enable with two served endpoints of their own and a free range makes an empty grant, asynchronous where the endpoints lie in two
clock domains; else it is refused with ENDPOINT_BAD, ALLOC_BAD or both. ENABLE 0 discards every entry and applies the write's other fields.

R375 to R380, R395, R396: a push into a grant that is not full adds the entry and its stamp behind the others; a push at full is dropped and counted;
a pop takes the oldest entry that the reader sees, an empty grant gives zero and counts; a port endpoint does the same without stalling; a pointer
crosses to the other side; a drift window ends with round((Sr / Sw − 1) × 2^32), saturated.

Where the spec is silent it rests on the model's choices of log entries 59 and 68. -/
def Obligations.GrantsAndTheirEntries : Prop :=
  (
  (∀ (q : RegAcc) (n : Fin 64) (s : State), WriteOk s q (R.GRANT_CFG n) → grantOn s n = false → bit q.wr.v 0 = true →
    let c := rget (genericWrite s (reqOf s q.who) (R.GRANT_CFG n) ⟨setBit q.wr.v 0 false, q.wr.m⟩) (R.GRANT_CFG n)
    (bits c 15 8 = q.wr.bits 15 8 ∧ bits c 23 16 = q.wr.bits 23 16 ∧ bits c 5 2 = q.wr.bits 5 2 ∧ bit c 1 = bit q.wr.v 1) ∧
    (grantEndpointBad s n c = false → grantAllocBad s n c = false → Reaches (exec (.grantEnable q n) s) fun t =>
      grantOn t n = true ∧ grantWriter t n = q.wr.bits 15 8 ∧ grantReader t n = q.wr.bits 23 16 ∧
      grantDepth t n = 2 ^ q.wr.bits 5 2 ∧ grantTs t n = bit q.wr.v 1 ∧ (grantOf t n).q = [] ∧
      grantAsync t n = (endpointDomain s (q.wr.bits 15 8) != endpointDomain s (q.wr.bits 23 16)) ∧
      (∀ m, m < 64 → m ≠ n.val → rget t (R.GRANT_CFG m) = rget s (R.GRANT_CFG m) ∧ grantOf t m = grantOf s m) ∧ t.mem = s.mem ∧
      t.cores = s.cores) ∧
    (grantEndpointBad s n c = true ∨ grantAllocBad s n c = true → Reaches (exec (.grantEnable q n) s) fun t => grantOn t n = false ∧
      (grantEndpointBad s n c = true → rbit t (R.GRANT_STAT n) 6 = true) ∧ (grantAllocBad s n c = true → rbit t (R.GRANT_STAT n) 5 = true) ∧
      t.grants = s.grants ∧ t.mem = s.mem ∧ t.cores = s.cores)) ∧
  (∀ (q : RegAcc) (n : Fin 64) (s : State), WriteOk s q (R.GRANT_CFG n) → grantOn s n = true → bit q.wr.v 0 = false →
    Reaches (exec (.grantDisable q n) s) fun t => grantOn t n = false ∧ (grantOf t n).q = [] ∧ wlevel t n = 0 ∧ rlevel t n = 0 ∧
      rbit t (R.GRANT_DSTAT n) 0 = false ∧ grantWriter t n = q.wr.bits 15 8 ∧ grantReader t n = q.wr.bits 23 16 ∧
      (∀ m, m < 64 → m ≠ n.val → rget t (R.GRANT_CFG m) = rget s (R.GRANT_CFG m) ∧ grantOf t m = grantOf s m) ∧ t.mem = s.mem ∧
      t.cores = s.cores)) ∧
  (
  let frame (s t : State) (n : Nat) : Prop := (∀ m, m ≠ n → grantOf t m = grantOf s m) ∧ t.mem = s.mem ∧ t.cores = s.cores
  let added (s t : State) (n : Nat) (v stamp : Word) : Prop := (grantOf t n).q = (grantOf s n).q ++ [⟨v, stamp, s.dtb.toNat⟩] ∧
    (grantAsync s n = false → rlevel t n = (grantOf s n).q.length + 1 - (grantOf s n).hidden) ∧
    (grantAsync s n = true → (grantOf t n).hidden = (grantOf s n).hidden + 1) ∧ frame s t n
  let dropped (s t : State) (n : Nat) : Prop := (grantOf t n).q = (grantOf s n).q ∧ rbit t (R.GRANT_STAT n) 0 = true ∧
    (rget t (R.GRANT_OVER n)).toNat = min 0xFFFFFFFF ((rget s (R.GRANT_OVER n)).toNat + 1) ∧ frame s t n
  let missed (s t : State) (n : Nat) : Prop := (grantOf t n).q = (grantOf s n).q ∧ rbit t (R.GRANT_STAT n) 1 = true ∧
    (rget t (R.GRANT_UNDER n)).toNat = min 0xFFFFFFFF ((rget s (R.GRANT_UNDER n)).toNat + 1) ∧ frame s t n
  (∀ (q : RegAcc) (n : Fin 64) (s : State), WriteOk s q (R.GRANT_PUSH n) →
    (grantOn s n = true → grantWriter s n = 0xF0 → grantFull s n = false → Reaches (exec (.grantPushWrite q n) s) fun t =>
      added s t n q.wr.v (if grantTs s n then dtbNs s else 0)) ∧
    (grantOn s n = true → grantWriter s n = 0xF0 → grantFull s n = true → Reaches (exec (.grantPushWrite q n) s) fun t => dropped s t n) ∧
    (grantOn s n = false ∨ grantWriter s n ≠ 0xF0 → exec (.grantPushWrite q n) s = .next s)) ∧
  (∀ (q : RegAcc) (n : Fin 64) (e : Ecc) (s : State), ReadOk s q (R.GRANT_POP n) → (reqOf s q.who).who ≠ .debug →
    (grantOn s n = true → grantReader s n = 0xF0 → grantEmpty s n = false → e ≠ .uncorrected → ∀ x l, (grantOf s n).q = x :: l →
      Reaches (exec (.grantPopRead q n e) s) fun t => t.lastRead = x.val ∧ (grantOf t n).q = l ∧
        (grantTs s n = true → rget t (R.GRANT_POPTS n) = x.side) ∧
        (grantAsync s n = true → (grantOf t n).unfreed = (grantOf s n).unfreed + 1) ∧ frame s t n) ∧
    (grantOn s n = true → grantReader s n = 0xF0 → grantEmpty s n = true → Reaches (exec (.grantPopRead q n e) s) fun t =>
      t.lastRead = 0 ∧ missed s t n) ∧
    (grantOn s n = false ∨ grantReader s n ≠ 0xF0 → exec (.grantPopRead q n e) s = .next { s with lastRead := 0 })) ∧
  (∀ (n : Fin 64) (v : Word) (side : Option Word) (s : State), let c := grantWriter s n
    grantOn s n = true → 0x90 ≤ c → c < 0xF0 → (∀ m, m < 64 → m ≠ n.val → grantOn s m = true → grantWriter s m ≠ c) →
    mget s.io.outq c [] = [] → streamDiscards s n = false →
    (grantFull s n = false → Reaches (exec (.portGrantPush n v side) s) fun t =>
      added s t n v (if grantTs s n then side.getD (dtbNs s) else 0)) ∧
    (grantFull s n = true → Reaches (exec (.portGrantPush n v side) s) fun t => dropped s t n)) ∧
  (∀ (n : Fin 64) (e : Ecc) (s : State), let c := grantReader s n
    grantOn s n = true → 0x90 ≤ c → c < 0xF0 → (∀ m, m < 64 → m ≠ n.val → grantOn s m = true → grantReader s m ≠ c) →
    sinkStream s c = none →
    (grantEmpty s n = true → Reaches (exec (.portGrantPop n e) s) fun t => missed s t n) ∧
    (grantEmpty s n = false → e ≠ .uncorrected → ∀ x l, (grantOf s n).q = x :: l → Reaches (exec (.portGrantPop n e) s) fun t =>
      (grantOf t n).q = l ∧ mget t.io.held c [] = mget s.io.held c [] ++ [some x.val] ∧ frame s t n)) ∧
  (∀ (n : Fin 64) (s : State), (Reaches (exec (.grantPointerCross n true) s) fun t =>
      rlevel t n = (grantOf s n).q.length ∧ wlevel t n = wlevel s n ∧ frame s t n) ∧
    Reaches (exec (.grantPointerCross n false) s) fun t =>
      wlevel t n = (grantOf s n).q.length ∧ rlevel t n = rlevel s n ∧ frame s t n) ∧
  (∀ (n : Fin 64) (s : State) (sw sr : Nat), (grantOf s n).ended = some (sw, sr) → 0 < sw →
    Reaches (exec (.driftWindowEnd n) s) fun t => ∃ d : Int,
      2 * sw * d ≤ 2 ^ 33 * ((sr : Int) - sw) + sw ∧ 2 ^ 33 * ((sr : Int) - sw) + sw < 2 * sw * (d + 1) ∧
      (rget t (R.GRANT_DRIFT n)).toNat = ((max (-(2 ^ 31 - 1)) (min (2 ^ 31 - 1) d)) % 2 ^ 32).toNat ∧
      rbit t (R.GRANT_DSTAT n) 0 = true ∧ frame s t n))

/-- R385 to R392: a 64-bit DTB_NOW read by a control core latches its fraction for its world; a 64-bit EPOCH write zeroes the fraction and is a
step; a measurement within DTB_STEP_US moves DTB_FREQ and DTB_INC, clipped, one beyond it moves EPOCH; the first edge sets the grid; SRC 0 frees the
servo and DTB_FREQ then sets DTB_INC; a hold time-out drops the proportional term; the alarm pends source 18 and disarms. The DTB itself is never stepped.

Where the spec is silent it rests on the model's choices of log entries 11 and 59. -/
def Obligations.TimebaseDiscipline : Prop :=
  let frame (s t : State) : Prop := t.dtb = s.dtb ∧ t.mem = s.mem ∧ t.cores = s.cores
  (∀ (q : RegAcc) (p : Fin 2) (s : State), ReadOk s q R.DTB_NOW → (reqOf s q.who).who = .cc p → Reaches (exec (.dtbNowRead q) s) fun t =>
    t.lastRead = (s.dtb >>> 32).setWidth 64 &&& (if q.wide then 0xFFFFFFFFFFFFFFFF else 0xFFFFFFFF) ∧ t.regs = s.regs ∧ frame s t ∧
    (q.wide = true → (reqOf s q.who).world = .secure → t.servo.nowfS = s.dtb.setWidth 32 ∧ t.servo.nowfN = s.servo.nowfN) ∧
    (q.wide = true → (reqOf s q.who).world = .normal → t.servo.nowfN = s.dtb.setWidth 32 ∧ t.servo.nowfS = s.servo.nowfS) ∧
    (q.wide = false → t.servo = s.servo)) ∧
  (∀ (q : RegAcc) (s : State), WriteOk s q R.DTB_EPOCH → q.wide = true → Reaches (exec (.dtbEpochWrite q) s) fun t =>
    rget t R.DTB_EPOCH = q.value ∧ rget t R.DTB_EPOCHF = 0 ∧ frame s t ∧ rget t R.DTB_INC = rget s R.DTB_INC ∧
    (rget t R.DTB_STEPS).toNat = min 0xFFFFFFFF ((rget s R.DTB_STEPS).toNat + 1) ∧
    servoState t = (if servoSrc s = 0 then servoState s else 1)) ∧
  (∀ (q : RegAcc) (s : State), WriteOk s q R.DTB_MEAS → q.wide = true → let e := q.value.toInt
    let n : Nat := max 1 (s.ticks - s.servo.last)
    let kp := rbits s R.DTB_SERVO 3 0
    let ki := rbits s R.DTB_SERVO 11 8
    (servoSrc s ≠ 1 → exec (.dtbMeasurement q) s = .next s) ∧
    (servoSrc s = 1 → e.natAbs ≤ rbits s R.DTB_STEP_US 15 0 * 1000 * 2 ^ 16 →
      Reaches (exec (.dtbMeasurement q) s) fun t => ∃ f : Int,
        f = max (-0x28F5C2) (min 0x28F5C2 (sint 40 (rget s R.DTB_FREQ).toNat + Int.tdiv (e * 2 ^ (16 - ki)) n)) ∧
        sint 40 (rget t R.DTB_FREQ).toNat = f ∧
        ((rget t R.DTB_INC).toNat : Int) = max 0x13FD70A3E (min 0x14028F5C2 (0x140000000 + f + Int.tdiv (e * 2 ^ (16 - kp)) n)) ∧
        rget t R.DTB_EPOCH = rget s R.DTB_EPOCH ∧ (servoState s = 0 ∨ servoState s = 3 → servoState t = 1) ∧
        (servoState s = 2 → servoState t = if 4 * rbits s R.DTB_SERVO 31 16 * 2 ^ 16 < e.natAbs then 1 else 2) ∧
        (servoState s = 1 → e.natAbs ≤ rbits s R.DTB_SERVO 31 16 * 2 ^ 16 → s.servo.good = 7 → servoState t = 2) ∧ frame s t) ∧
    (servoSrc s = 1 → rbits s R.DTB_STEP_US 15 0 * 1000 * 2 ^ 16 < e.natAbs →
      Reaches (exec (.dtbMeasurement q) s) fun t => rget t R.DTB_FREQ = rget s R.DTB_FREQ ∧ rget t R.DTB_INC = rget s R.DTB_INC ∧
        (epoch t : Int) = ((epoch s : Int) + e * 2 ^ 16) % 2 ^ 96 ∧ servoState t = 1 ∧ frame s t)) ∧
  (∀ (video : Bool) (s : State), let src := if video then 4 else 3
    (servoSrc s ≠ src → exec (.dtbRefEdge video) s = .next s) ∧
    (servoSrc s = src → s.servo.grid = none →
      exec (.dtbRefEdge video) s = .next { s with servo := { s.servo with grid := some s.dtb } }) ∧
    (servoSrc s = src → ∀ g, s.servo.grid = some g → Reaches (exec (.dtbRefEdge video) s) fun t =>
      rget t R.DTB_ERR = BitVec.ofInt 64 ((g + (rget s R.DTB_REFPER).setWidth 96 - s.dtb).toInt / 2 ^ 16) ∧
      rget t R.DTB_EPOCH = rget s R.DTB_EPOCH ∧ frame s t)) ∧
  (∀ (q : RegAcc) (s : State), WriteOk s q R.DTB_CTRL → Reaches (exec (.dtbSrcWrite q) s) fun t =>
    (q.wr.bits 2 0 < 5 → servoSrc t = q.wr.bits 2 0 ∧ t.servo.grid = none ∧ rget t R.DTB_FREQ = rget s R.DTB_FREQ ∧
      rget t R.DTB_EPOCH = rget s R.DTB_EPOCH ∧
      (q.wr.bits 2 0 = 0 → servoState t = 0 ∧ ((rget t R.DTB_INC).toNat : Int) =
        max 0x13FD70A3E (min 0x14028F5C2 (0x140000000 + sint 40 (rget s R.DTB_FREQ).toNat))) ∧
      (q.wr.bits 2 0 ≠ 0 → rget t R.DTB_INC = rget s R.DTB_INC ∧
        servoState t = if servoState s = 1 ∨ servoState s = 2 then 1 else servoState s)) ∧ frame s t) ∧
  (∀ (q : RegAcc) (s : State), WriteOk s q R.DTB_FREQ → Reaches (exec (.dtbFreqWrite q) s) fun t =>
    (servoSrc s ≠ 0 → t = s) ∧ (servoSrc s = 0 → servoState t = servoState s ∧ ((rget t R.DTB_INC).toNat : Int) =
      max 0x13FD70A3E (min 0x14028F5C2 (0x140000000 + sint 40 (rget t R.DTB_FREQ).toNat)) ∧ frame s t)) ∧
  (∀ s : State, (servoState s = 1 ∨ servoState s = 2 → Reaches (exec .dtbHoldoverTimeout s) fun t => servoState t = 3 ∧
      eicPending t 19 = true ∧ rget t R.DTB_FREQ = rget s R.DTB_FREQ ∧ ((rget t R.DTB_INC).toNat : Int) =
        max 0x13FD70A3E (min 0x14028F5C2 (0x140000000 + sint 40 (rget s R.DTB_FREQ).toNat)) ∧ frame s t) ∧
    (servoState s = 0 ∨ servoState s = 3 → exec .dtbHoldoverTimeout s = .next s)) ∧
  (∀ s : State, rbit s R.DTB_ALARMCTL 0 = true → (rget s R.DTB_ALARM).toNat ≤ (dtbNs s).toNat →
    Reaches (exec .dtbAlarmFire s) fun t => rbit t R.DTB_ALARMCTL 0 = false ∧ eicPending t 18 = true ∧ frame s t)

/-! Streams and scene changes -/

/-- R407 to R412: GO is refused with the first RESULT that applies, else the scene is pending and its idle and stopped streams are ARMED for a restart;
at E_n a stream stops capturing at its first block whose capture instant is not below T1; at R_n it starts with SLIPS and its block number at 0 and
writes the gap, or is STOPPED with the first check of R399 that fails.

R400 to R405, R416, R417: a captured block is written at TAIL with the descriptor of R400 and submitted, a refused one waits; the record of a block
posts the push of its output slot, of the latest good block or of zeros; at a boundary where a block is due the sink plays it when GOUT holds all of it, else
slips: SLIPS and STR_SLIP rise and the block stays due; a slip past MAXSLIP stops the stream.

Where the spec is silent it rests on the model's choices of log entries 42 and 50. -/
def Obligations.StreamsAndSceneChanges : Prop :=
  (
  (∀ (q : RegAcc) (s : State), let b := if (reqOf s q.who).world = .secure then 0 else 1
    WriteOk s q (R.SCENE_CTRL b) → bit q.wr.v 0 = true →
    let m := rget s (R.SCENE_MASK b)
    let t1 := (rget s (R.SCENE_T1 b)).toNat
    let t2 := (rget s (R.SCENE_T2 b)).toNat
    let busy := scenePending s b = true
    let world := ∃ n, n < 64 ∧ bit m n = true ∧ strSecure s n ≠ (b == 0)
    let conflict := ∃ n, n < 64 ∧ bit m n = true ∧ scenePending s (1 - b) = true ∧ n ∈ (sceneOf s (1 - b)).mask
    let order := t2 ≠ 0 ∧ t2 ≤ t1
    let result (n : Nat) : Prop := exec (.sceneGo q) s = .next (rput s (R.SCENE_STATUS b) 15 8 n)
    (busy → result 1) ∧ (¬ busy → world → result 2) ∧ (¬ busy → ¬ world → conflict → result 3) ∧
    (¬ busy → ¬ world → ¬ conflict → order → result 4) ∧
    (¬ busy → ¬ world → ¬ conflict → ¬ order → Reaches (exec (.sceneGo q) s) fun t =>
      rbits t (R.SCENE_STATUS b) 15 8 = 0 ∧
      (∀ n, n < 64 → streamState t n =
        if bit m n = true ∧ t2 ≠ 0 ∧ (streamState s n = 0 ∨ streamState s n = 4) then 1 else streamState s n) ∧
      ((∃ n, n < 64 ∧ bit m n = true ∧ (t2 ≠ 0 ∨ streamLive s n = true)) → scenePending t b = true ∧ (sceneOf t b).t1 = t1 ∧
        (sceneOf t b).t2 = t2 ∧ ∀ n, n ∈ (sceneOf t b).left ↔ n < 64 ∧ bit m n = true ∧ (t2 ≠ 0 ∨ streamLive s n = true)) ∧
      ((∀ n, n < 64 → bit m n = true → t2 = 0 ∧ streamLive s n = false) → scenePending t b = false ∧
        rbits t (R.SCENE_STATUS b) 2 0 = 5) ∧ t.streams = s.streams ∧ t.mem = s.mem ∧ t.cores = s.cores)) ∧
  (∀ (n : Fin 64) (s : State), streamState s n = 2 →
    let x := strm s n
    let inputs (s : State) : List (Nat × Nat) := (spQueue s (strChan s n)).filterMap fun e => match e.stream with
      | some (m, false, k) => if m = n.val then some (k, e.moved / 8) else none
      | _ => none
    let (k, moved) := (inputs s).headD (x.nextIn, 0)
    (x.stopping = false → sceneFor s n = none → exec (.streamStopBoundary n) s = .next s) ∧
    (x.stopping = true ∨ (sceneFor s n).isSome = true → Reaches (exec (.streamStopBoundary n) s) fun t => ∃ total,
      (strm t n).total = some total ∧ k ≤ total ∧ (strm t n).stopping = false ∧
      (∀ j, j < total - k → ∃ c, strCapture s n k moved j = some c ∧ (x.stopping = false → ∀ p, sceneFor s n = some p → c < p.2.t1 * 2 ^ 32)) ∧
      (total < k + 512 → (x.stopping = true → strCapture s n k moved (total - k) = none) ∧
        ∀ c, strCapture s n k moved (total - k) = some c → (strm t n).stopAt = some c ∧ ∀ p, sceneFor s n = some p → p.2.t1 * 2 ^ 32 ≤ c) ∧
      (∀ p ∈ inputs t, p.1 < total) ∧
      (x.pushed < total → streamState t n = 3) ∧
      (total ≤ x.pushed → streamState t n = match sceneFor s n with | some p => if p.2.t2 = 0 then 4 else 1 | none => 4) ∧
      t.mem = s.mem ∧ t.cores = s.cores)) ∧
  (∀ (n : Fin 64) (s : State) (b : Nat) (sc : Scene), sceneFor s n = some (b, sc) → sc.t2 ≠ 0 → streamState s n = 1 →
    pccMode s < 2 → gateIsOpen s = true → replaysRacked s n = true →
    let x := strm s n
    let r := restartAt s n sc.t2
    let t' := max (sc.t2 * 2 ^ 32) s.dtb.toNat
    (x.stopAt = none → r = t') ∧ (∀ e, x.stopAt = some e → 0 < x.bper → e < t' → t' ≤ r ∧ r < t' + x.bper ∧ x.bper ∣ r - e) ∧
    (streamCheck s n = 0 → Reaches (exec (.streamRestart n) s) fun t => streamState t n = 2 ∧ strSlips t n = 0 ∧
      mget (strm t n).cap 0 0 = r ∧ (strm t n).play = 0 ∧ (strm t n).pushed = 0 ∧ rget t (R.STR_BLOCK n) = 0 ∧
      rbits t (R.STR_STATE n) 23 16 = 0 ∧
      rget t (R.STR_GAP n) = (match x.stopAt with
        | none => 0
        | some e => BitVec.ofInt 64 ((((r + (2 + strReserve s n) * (rget s (R.STR_BPER n)).toNat : Nat) : Int) -
            ((e + (2 + x.reserve + strSlips s n) * x.bper : Nat) : Int)) / 2 ^ 32)) ∧
      (sceneFor t n).map Prod.fst ≠ some b ∧ t.mem = s.mem ∧ t.cores = s.cores) ∧
    (streamCheck s n ≠ 0 → Reaches (exec (.streamRestart n) s) fun t => streamState t n = 4 ∧
      rbits t (R.STR_STATE n) 23 16 = streamCheck s n ∧ rbits t (R.SCENE_STATUS b) 15 8 = 5 ∧ t.streams = s.streams ∧
      (sceneFor t n).map Prod.fst ≠ some b ∧ t.mem = s.mem ∧ t.cores = s.cores))) ∧
  (
  (∀ (s : State) (n k : Nat), n < 64 → let d := blockOrder s n k
    d.length = 64 ∧ fieldAt d 0 8 = (rget s (R.STR_ENTRY n)).toNat ∧ fieldAt d 8 8 = strInSlot s n k ∧
    fieldAt d 0x10 4 = 8 * strBlock s n * strEpsIn s n ∧ fieldAt d 0x18 8 = strOutSlot s n k ∧
    fieldAt d 0x20 4 = 8 * strBlock s n * strEpsOut s n ∧ fieldAt d 0x26 2 = 3 ∧
    fieldAt d 0x28 8 = (mget (strm s n).cap k 0 + (2 + (strm s n).reserve + strSlips s n) * (strm s n).bper) / 2 ^ 32 % 2 ^ 64 ∧
    fieldAt d 0x37 1 = n ∧ fieldAt d 0x30 7 = k % 2 ^ 56 ∧ fieldAt d 0x38 8 = 0) ∧
  (∀ (n : Fin 64) (s : State) (k : Nat) (l : List Nat), (strm s n).captured = k :: l →
    let q := strQueue s n
    let g := rget s (R.ORDER_QGYLE q)
    let at' := rbits s (R.ORDER_QRING q) 39 6 * 64 + rbits s (R.ORDER_QPTR q) 15 8 * 64
    let u := (memWrite s (orderReq s q) at' (blockOrder s n k)).1
    let v := orderAccept { u with doors := mset u.doors q [1] } q
    let outcome (o : Out) : Prop := Reaches o fun t => t.mem = v.mem ∧ t.journal = v.journal ∧
      (rget v (R.ORDER_QGYLE q) ≠ g → (strm t n).captured = l ∧ (strm t n).submitted = (strm s n).submitted ++ [(g.toNat, k)] ∧
        (strm t n).waitLogged = false ∧ t.ring0 = v.ring0 ∧ t.ring1 = v.ring1) ∧
      (rget v (R.ORDER_QGYLE q) = g → v.streams = s.streams → (strm t n).captured = k :: l ∧ (strm t n).waitLogged = true)
    ((strm s n).waitLogged = false → outcome (exec (.streamBlockCaptured n) s)) ∧
    ((strm s n).waitLogged = true → outcome (exec (.streamSubmitRetry n) s) ∧ exec (.streamBlockCaptured n) s = .next s)) ∧
  (∀ (n : Fin 64) (s : State) (k : Nat) (done : Bool) (l : List (Nat × Bool)), (strm s n).racked = (k, done) :: l →
    let c := strChan s n
    let full := grantDepth s (strGout s n) < wlevel s (strGout s n) + strBlock s n * strEpsOut s n
    (8 ≤ (spQueue s c).length → exec (.streamRecord n) s = .next s) ∧
    ((spQueue s c).length < 8 → Reaches (exec (.streamRecord n) s) fun t => (strm t n).racked = l ∧
      (∃ e, spQueue t c = spQueue s c ++ [e] ∧ e.stream = some (n.val, true, k) ∧ e.desc.dst = word (strGout s n) ∧
        e.desc.rowLen = BitVec.ofNat 32 (8 * strBlock s n * strEpsOut s n) ∧ e.desc.rows = 1 ∧ e.desc.dstGt = true ∧
        (done = true → e.desc.src = word (strOutSlot s n k) ∧ e.desc.fill = false) ∧
        (done = false → rbit s (R.STR_FMT n) 20 = false ∨ (strm s n).lastGood = none → e.desc.fill = true ∧ e.desc.src = 0) ∧
        (done = false → rbit s (R.STR_FMT n) 20 = true → ∀ j, (strm s n).lastGood = some j →
          e.desc.src = word (strOutSlot s n j) ∧ e.desc.fill = false)) ∧
      (rget t (R.STR_BFAIL n)).toNat = (if done then (rget s (R.STR_BFAIL n)).toNat
        else min 0xFFFFFFFF ((rget s (R.STR_BFAIL n)).toNat + 1)) ∧
      (full → streamState s n = 2 → (strm s n).stopping = false → rbit t (R.STR_STATE n) 13 = true ∧ (strm t n).stopping = true) ∧
      strSlips t n = strSlips s n ∧ t.mem = s.mem ∧ t.cores = s.cores)) ∧
  (∀ (n : Fin 64) (s : State), let x := strm s n
    let cfg := x.latched.getD (rget s (R.STR_CFG n), rget s (R.STR_FMT n), rget s (R.STR_EPS n))
    let go := bits cfg.1 13 8
    let need := bits cfg.2.1 9 0 * (bits cfg.2.2 27 16 + 1)
    let due := streamState s n ≠ 0 ∧ mhas x.cap 0 = true ∧ ∀ t, x.total = some t → x.play < t
    (¬ due → exec (.sinkBoundary n) s = .next s) ∧
    (due → need ≤ rlevel s go → Reaches (exec (.sinkBoundary n) s) fun t => (strm t n).play = x.play + 1 ∧ (strm t n).data = need ∧
      t.regs = s.regs ∧ t.grants = s.grants ∧ t.mem = s.mem ∧ t.cores = s.cores) ∧
    (due → rlevel s go < need → Reaches (exec (.sinkBoundary n) s) fun t => (strm t n).play = x.play ∧ (strm t n).data = 0 ∧
      (grantOf t go).q = (grantOf s go).q ∧ (rget t (R.STR_SLIP n)).toNat = min 0xFFFFFFFF ((rget s (R.STR_SLIP n)).toNat + 1) ∧
      (rget t (R.GRANT_UNDER go)).toNat = min 0xFFFFFFFF ((rget s (R.GRANT_UNDER go)).toNat + 1) ∧
      (strSlips s n < bits cfg.2.1 15 12 → strSlips t n = strSlips s n + 1) ∧
      (bits cfg.2.1 15 12 ≤ strSlips s n → strSlips t n = strSlips s n ∧
        (streamState s n = 2 → x.stopping = false → rbit t (R.STR_STATE n) 12 = true ∧ (strm t n).stopping = true)) ∧
      t.mem = s.mem ∧ t.cores = s.cores)))

/-! Audio ports -/

/-- R420, R423 to R430, R447 to R449, R453: a lost MCLK_IN clears EXT and sets its LOST bit; EN 1 is refused with CFG_BAD where R428 says so; EN 0 lets the
frame in progress finish; a frame of SLOTS × SW bits pushes its enabled slots, left-aligned, two to an entry with one stamp, and sends what the transmit grant gives
in the enabled slots; a slave's short or long frame sets FRAME_ERR; a lost clock stops the port.

R424, R431 to R436, R447, R448, R450 to R452: the sixteenth frame with valid preambles locks the receiver, which pushes from the next Z on; a block's end latches
channel status whose CRC-8 holds and RXFREQ with RATE; a rate that moves by more than 0.2% stops pushing until Z, or until RESUME; FLY frames are zero with ERR; TXDIV is checked;
COMMIT is pending until a block starts; a transmitted frame carries the popped entry with C of the active buffers and even parity.

R437 to R443, R450, R451, R454: a MADI frame with sync and the configured channels pushes them two to an entry; one without sync, or LOS, loses lock and leaves FLY frames due;
a sent frame has frame sync in channel 0 only; PDM takes CLKDIV × DEC of 512 or 1,024, its first 32 frames are zero, its stamp is the edge less the group delay; a stuck channel is counted.

Where the spec is silent it rests on the model's choices of log entries 9, 51 and 52. -/
def Obligations.AudioPorts : Prop :=
  (
  (∀ (b : Bool) (s : State), unitRuns s 0x12 = true → rbit s R.SAP_MCLK (b2n b) = true → Reaches (exec (.mclkLost b) s) fun t =>
    rbit t R.SAP_MCLK (b2n b) = false ∧ rbit t R.SAP_MCLK (16 + b2n b) = true ∧ rbit t R.SAP_MCLK (b2n !b) = rbit s R.SAP_MCLK (b2n !b) ∧
    quiet s t) ∧
  (∀ (q : RegAcc) (p : Fin 8) (s : State), WriteOk s q (R.SAP_CFG p) → p.val < sapPorts s → rbit s (R.SAP_CFG p) 0 = false →
    bit q.wr.v 0 = true → endpointLive s [0x90 + p.val, 0x98 + p.val] = none →
    let u := genericWrite s (reqOf s q.who) (R.SAP_CFG p) q.wr
    let off := rputb u (R.SAP_CFG p) 0 false
    let bad := sapCfgBad off p (rget off (R.SAP_CFG p))
    (q.wr.bits 4 3 = 3 ∨ q.wr.bits 9 8 = 3 ∨ q.wr.bits 31 24 = 0 ∨ (bit q.wr.v 1 = true ∧ bit q.wr.v 18 = true) → bad = true) ∧
    (bad = false → Reaches (exec (.sapEnable q p) s) fun t => rbit t (R.SAP_CFG p) 0 = true ∧ rbits t (R.SAP_CFG p) 17 1 = q.wr.bits 17 1 ∧
      (sap t p).cfg = rget t (R.SAP_CFG p) ∧ (sap t p).ending = false ∧ (bit q.wr.v 1 = true → sapRunning t p = true) ∧ quiet s t) ∧
    (bad = true → Reaches (exec (.sapEnable q p) s) fun t => rbit t (R.SAP_CFG p) 0 = false ∧ rbit t (R.SAP_STAT p) 3 = true ∧
      quiet s t)) ∧
  (∀ (q : RegAcc) (p : Fin 8) (s : State), WriteOk s q (R.SAP_CFG p) → p.val < sapPorts s → rbit s (R.SAP_CFG p) 0 = true →
    bit q.wr.v 0 = false →
    (endpointLive s [0x90 + p.val, 0x98 + p.val] = none → Reaches (exec (.sapDisable q p) s) fun t => rbit t (R.SAP_CFG p) 0 = false ∧
      rbits t (R.SAP_CFG p) 21 1 = q.wr.bits 21 1 ∧ (sap t p).ending = sapRunning s p ∧ sapRunning t p = sapRunning s p ∧ quiet s t) ∧
    (∀ n, endpointLive s [0x90 + p.val, 0x98 + p.val] = some n → Reaches (exec (.sapDisable q p) s) fun t =>
      rget t (R.SAP_CFG p) = rget s (R.SAP_CFG p) ∧ counted s t (R.STR_LIVE n) ∧ t.mem = s.mem ∧ t.cores = s.cores ∧ t.grants = s.grants)) ∧
  (∀ (p : Fin 8) (slots : List (BitVec 32)) (n : Nat) (age : BitVec 64) (ecc : List Ecc) (s : State), let x := sap s p
    let cfg := x.cfg
    let dw := sapDw cfg
    p.val < sapPorts s → unitRuns s 0x12 = true → rbit s (R.SAP_CFG p) 0 = true ∨ x.ending = true →
    (bit cfg 18 = true → sapRunning s (bits cfg 21 19) = true) → dw ≤ sapSw cfg →
    let left (w : BitVec 32) : Word := word (w.toNat / 2 ^ (32 - dw) * 2 ^ (32 - dw))
    let rx := pairUp ((sapChans cfg x.rx).map fun j => left (slots.getD j 0))
    (n = sapSlots cfg * sapSw cfg → ∃ u, PortOnly s u 0x12 ∧ sapRunning u p = true ∧
      let v := portPushAll u (0x90 + p.val) rx (some ((s.dtb - age.setWidth 96) >>> 32 |>.setWidth 64))
      (x.ending = true → Reaches (exec (.sapFrame p slots n age ecc) s) fun t => t.grants = v.grants ∧ sapRunning t p = false ∧
        (sap t p).ending = false ∧ mget t.wire (0x1200 + p.val) [] = [] ∧ t.mem = v.mem ∧ t.cores = v.cores) ∧
      (x.ending = false → let tx := sapChans cfg x.tx
        let (w, es) := sinkTakeN v (0x98 + p.val) ((tx.length + 1) / 2) ecc
        exec (.sapFrame p slots n age ecc) s = .next (wireOut w (0x1200 + p.val) ((List.range (sapSlots cfg)).map fun j =>
          if j ∈ tx then left (((unpair es).getD (tx.idxOf j) 0).setWidth 32) else if bit cfg 17 then 0x100000000 else 0)))) ∧
    (sapSlave s cfg = true → n ≠ sapSlots cfg * sapSw cfg → Reaches (exec (.sapFrame p slots n age ecc) s) fun t =>
      counted s t (R.SAP_FRAMEERR p) ∧ rbit t (R.SAP_STAT p) 1 = true ∧ t.mem = s.mem ∧ t.cores = s.cores)) ∧
  (∀ (p : Fin 8) (s : State), let cfg := (sap s p).cfg
    p.val < sapPorts s → unitRuns s 0x12 = true → sapRunning s p = true →
    (if bit cfg 18 = true then sapRunning s (bits cfg 21 19) = false else bit cfg 1 = false) →
    Reaches (exec (.sapClockLost p) s) fun t => sapRunning t p = false ∧ rbit t (R.SAP_STAT p) 2 = true ∧ quiet s t)) ∧
  (
  (∀ (i : Fin 4) (a b : SubFrame) (z : Bool) (age : BitVec 64) (s : State), let x := aesRx s i
    let cfg := rget s (R.AES3_RXCFG i)
    i.val < aes3Pairs s → unitRuns s 0x13 = true → bit cfg 0 = true → x.ending = false →
    let good := a.err ≠ .preamble ∧ b.err ≠ .preamble
    (aesLocked s i = false → (good → x.good < 15 → Reaches (exec (.aes3RxFrame i a b z age) s) fun t => (aesRx t i).good = x.good + 1 ∧
        aesLocked t i = false ∧ quiet s t) ∧
      (good → 15 ≤ x.good → Reaches (exec (.aes3RxFrame i a b z age) s) fun t => aesLocked t i = true ∧ aesPushing t i = false ∧
        rbit t (R.AES3_RXSTAT i) 9 = true ∧ quiet s t) ∧
      (¬ good → Reaches (exec (.aes3RxFrame i a b z age) s) fun t => (aesRx t i).good = 0 ∧ aesLocked t i = false ∧ quiet s t)) ∧
    (aesLocked s i = true → a.err = .none → b.err = .none → bit cfg 3 = false ∨ (a.v = false ∧ b.v = false) →
      let go := aesPushing s i = true ∨ (z = true ∧ rbit s (R.AES3_RXSTAT i) 15 = false)
      ∃ u, PortOnly s u 0x13 ∧ aesLocked u i = true ∧
        (go → aesPushing u i = true ∧ exec (.aes3RxFrame i a b z age) s = .next (portPushAll u (0xA0 + i.val)
          [chanWord a.audio z false false a.v a.u a.c ||| chanWord b.audio z false false b.v b.u b.c <<< 32] (some (stampAgo s age)))) ∧
        (¬ go → aesPushing u i = false ∧ exec (.aes3RxFrame i a b z age) s = .next u))) ∧
  (∀ (audio : BitVec 24) (z e act v u c : Bool), let w := chanWord audio z e act v u c
    bits w 31 8 = audio.toNat ∧ bit w 7 = z ∧ bit w 6 = e ∧ bit w 5 = act ∧ bit w 4 = false ∧ bit w 3 = v ∧ bit w 2 = u ∧ bit w 1 = c ∧
    bit w 0 = false ∧ bits w 63 32 = 0) ∧
  (∀ (i : Fin 4) (f : BitVec 24) (s : State), let x := aesRx s i
    let block := exec (.aes3RxBlockEnd i f) s
    i.val < aes3Pairs s → unitRuns s 0x13 = true → aesLocked s i = true → x.pos = 192 →
    (Reaches block fun t => rget t (R.AES3_RXFREQ i) = f.setWidth 64 ∧ rbits t (R.AES3_RXSTAT i) 6 4 = aesRate f.toNat ∧ quiet s t) ∧
    (csOk (csBytes x.csA) = true → csOk (csBytes x.csB) = true → Reaches block fun t => rbit t (R.AES3_RXSTAT i) 8 = true ∧
      (rget t (R.AES3_RXSEQ i)).toNat = ((rget s (R.AES3_RXSEQ i)).toNat + 1) % 2 ^ 32 ∧
      ∀ j, j < 6 → rget t (R.AES3_RXCSA0 i + 4 * j) = word (x.csA.toNat / 2 ^ (32 * j) % 2 ^ 32) ∧
        rget t (R.AES3_RXCSB0 i + 4 * j) = word (x.csB.toNat / 2 ^ (32 * j) % 2 ^ 32)) ∧
    (csOk (csBytes x.csA) = false ∨ csOk (csBytes x.csB) = false → Reaches block fun t => rbit t (R.AES3_RXSTAT i) 14 = true ∧
      counted s t (R.AES3_RXCSCRC i) ∧ rget t (R.AES3_RXSEQ i) = rget s (R.AES3_RXSEQ i) ∧
      ∀ j, j < 6 → rget t (R.AES3_RXCSA0 i + 4 * j) = rget s (R.AES3_RXCSA0 i + 4 * j) ∧
        rget t (R.AES3_RXCSB0 i + 4 * j) = rget s (R.AES3_RXCSB0 i + 4 * j)) ∧
    (aesPushing s i = true → x.rate ≠ 0 → 2 * x.rate < ((f.toNat : Int) - x.rate).natAbs * 1000 → Reaches block fun t =>
      aesPushing t i = false ∧ rbit t (R.AES3_RXSTAT i) 13 = true ∧ rbit t (R.AES3_RXSTAT i) 15 = rbit s (R.AES3_RXCFG i) 4) ∧
    (aesPushing s i = true → x.rate = 0 ∨ ((f.toNat : Int) - x.rate).natAbs * 1000 ≤ 2 * x.rate → Reaches block fun t => aesPushing t i = true)) ∧
  (∀ (i : Fin 4) (age : BitVec 64) (s : State), unitRuns s 0x13 = true → 0 < (aesRx s i).fly → ∃ u, PortOnly s u 0x13 ∧
    (aesRx u i).fly = (aesRx s i).fly - 1 ∧ Reaches (exec (.flyFrame (.aes i) age) s) fun t =>
      t.grants = (portPushAll u (0xA0 + i.val) [0x0000004000000040] (some (stampAgo s age))).grants ∧
      ((aesRx s i).fly = 1 → aesPushing t i = false) ∧ t.mem = s.mem ∧ t.cores = s.cores) ∧
  (∀ (age : BitVec 64) (s : State), unitRuns s 0x14 = true → 0 < s.io.madi.fly → ∃ u, PortOnly s u 0x14 ∧
    u.io.madi.fly = s.io.madi.fly - 1 ∧ Reaches (exec (.flyFrame .madi age) s) fun t =>
      t.grants = (portPushAll u 0xA8 (List.replicate (madiChans s.io.madi.rx / 2) 0x0000004000000040) (some (stampAgo s age))).grants ∧
      (s.io.madi.fly = 1 → rbit t R.MADI_STAT 1 = false) ∧ t.mem = s.mem ∧ t.cores = s.cores) ∧
  (∀ (q : RegAcc) (i : Fin 4) (s : State), WriteOk s q (R.AES3_RXCFG i) → i.val < aes3Pairs s → bit q.wr.v 5 = true →
    Reaches (exec (.aes3Resume q i) s) fun t => rbit t (R.AES3_RXSTAT i) 15 = false ∧ aesLocked t i = aesLocked s i ∧
      t.mem = s.mem ∧ t.cores = s.cores ∧ t.grants = s.grants) ∧
  (∀ (q : RegAcc) (i : Fin 4) (s : State), WriteOk s q (R.AES3_TXCFG i) → i.val < aes3Pairs s → rbit s (R.AES3_TXCFG i) 0 = false →
    bit q.wr.v 0 = true → endpointLive s [0xA4 + i.val] = none →
    (q.wr.bits 5 2 ∈ [2, 4, 8, 12] → Reaches (exec (.aes3TxEnable q i) s) fun t => rbit t (R.AES3_TXCFG i) 0 = true ∧
      rbits t (R.AES3_TXCFG i) 7 1 = q.wr.bits 7 1 ∧ rbit t (R.AES3_TXSTAT i) 0 = true ∧ (aesTx t i).n = 0 ∧ quiet s t) ∧
    (q.wr.bits 5 2 ∉ [2, 4, 8, 12] → Reaches (exec (.aes3TxEnable q i) s) fun t => rbit t (R.AES3_TXCFG i) 0 = false ∧
      rbit t (R.AES3_TXSTAT i) 1 = true ∧ rbit t (R.AES3_TXSTAT i) 0 = rbit s (R.AES3_TXSTAT i) 0 ∧ quiet s t)) ∧
  (∀ (q : RegAcc) (i : Fin 4) (s : State), WriteOk s q (R.AES3_TXCFG i) → i.val < aes3Pairs s → bit q.wr.v 8 = true →
    Reaches (exec (.aes3TxCommit q i) s) fun t => rbit t (R.AES3_TXSTAT i) 2 = true ∧ (aesTx t i).csA = (aesTx s i).csA ∧
      (aesTx t i).csB = (aesTx s i).csB ∧ t.mem = s.mem ∧ t.cores = s.cores ∧ t.grants = s.grants) ∧
  (∀ (i : Fin 4) (ecc : List Ecc) (s : State), let x := aesTx s i
    let (u, es) := sinkTakeN s (0xA4 + i.val) 1 ecc
    let a := (unpair es).getD 0 0
    let b := (unpair es).getD 1 0
    i.val < aes3Pairs s → unitRuns s 0x13 = true → rbit s (R.AES3_TXSTAT i) 0 = true → x.ending = false →
    let z := if bit x.cfg 6 then bit a 7 else decide (x.n = 0)
    let n := if z then 0 else x.n
    let staged (o : Nat) : List Byte := (List.range 6).flatMap fun j => leBytes 4 (rget s (o + 4 * j)).toNat
    let load := z = true ∧ rbit s (R.AES3_TXSTAT i) 2 = true
    Reaches (exec (.aes3TxFrame i ecc) s) fun t => let y := aesTx t i
      (load → y.csA = staged (R.AES3_TXCSA0 i) ∧ y.csB = staged (R.AES3_TXCSB0 i) ∧ rbit t (R.AES3_TXSTAT i) 2 = false) ∧
      (¬ load → y.csA = x.csA ∧ y.csB = x.csB ∧ rbit t (R.AES3_TXSTAT i) 2 = rbit s (R.AES3_TXSTAT i) 2) ∧ y.n = (n + 1) % 192 ∧
      (gateIsOpen s = true → mget t.wire (0x1300 + i.val) [] =
        [aesSent a z (if bit x.cfg 6 then bit a 1 else csSent (bit x.cfg 7) y.csA n),
         aesSent b z (if bit x.cfg 6 then bit b 1 else csSent (bit x.cfg 7) y.csB n)]) ∧
      (gateIsOpen s = false → t.wire = u.wire) ∧ t.grants = u.grants ∧ t.mem = s.mem ∧ t.cores = s.cores) ∧
  (∀ (v : Word) (z c : Bool), let w := aesSent v z c
    bits w 31 8 = bits v 31 8 ∧ bit w 7 = z ∧ bit w 3 = bit v 3 ∧ bit w 2 = bit v 2 ∧ bit w 1 = c ∧
    ((List.range 32).filter fun j => j ≠ 7 ∧ bit w j = true).length % 2 = 0)) ∧
  (
  (∀ (sync : Bool) (f : BitVec 24) (l : List MadiSub) (age : BitVec 64) (s : State), let x := s.io.madi
    let c := rget s R.MADI_CFG
    unitRuns s 0x14 = true → x.rxOn = true → x.rxEnding = false → bits x.rx 5 2 = bits c 5 2 → rbit s R.MADI_STAT 0 = true →
    (sync = true → l.length = madiChans c → madiRateOk c f.toNat = true → (∀ m ∈ l, m.err = .none) → bit c 10 = false ∨ (∀ m ∈ l, m.v = false) →
      ∃ u, PortOnly s u 0x14 ∧ rget u R.MADI_RXFREQ = f.setWidth 64 ∧ rbits u R.MADI_STAT 14 8 = l.length ∧ rbit u R.MADI_STAT 1 = true ∧
        exec (.madiRxFrame sync f l age) s = .next (portPushAll u 0xA8
          (pairUp (l.map fun m => chanWord m.audio m.block false m.active m.v m.u m.c)) (some (stampAgo s age)))) ∧
    (sync = false → Reaches (exec (.madiRxFrame sync f l age) s) fun t => rbit t R.MADI_STAT 0 = false ∧ rbit t R.MADI_STAT 18 = true ∧
      rbit t R.MADI_STAT 20 = true ∧ counted s t R.MADI_SYNCERR ∧ counted s t R.MADI_LOCKLOSS ∧
      t.io.madi.fly = (if rbit s R.MADI_STAT 1 then bits c 23 16 else 0) ∧ quiet s t)) ∧
  (∀ s : State, unitRuns s 0x14 = true → rbit s R.MADI_STAT 0 = true → Reaches (exec .madiLos s) fun t => rbit t R.MADI_STAT 0 = false ∧
    rbit t R.MADI_STAT 20 = true ∧ counted s t R.MADI_LOCKLOSS ∧
    t.io.madi.fly = (if rbit s R.MADI_STAT 1 then rbits s R.MADI_CFG 23 16 else 0) ∧ quiet s t) ∧
  (∀ (ecc : List Ecc) (s : State), let x := s.io.madi
    let n := madiChans x.tx
    let (u, es) := sinkTakeN s 0xA9 (n / 2) ecc
    unitRuns s 0x14 = true → x.txOn = true → x.txEnding = false → gateIsOpen u = true → Reaches (exec (.madiTxFrame ecc) s) fun t =>
      let out := mget t.wire 0x1400 []
      out.length = n ∧ t.grants = u.grants ∧ t.mem = s.mem ∧ t.cores = s.cores ∧ ∀ j, j < n →
        let v := (unpair es).getD j 0
        let w := out.getD j 0
        bits w 31 8 = bits v 31 8 ∧ bit w 7 = bit v 7 ∧ bit w 5 = bit v 5 ∧ bit w 3 = bit v 3 ∧ bit w 2 = bit v 2 ∧ bit w 1 = bit v 1 ∧
        bit w 4 = (j == 0) ∧ bit w 0 = decide (j % 2 = 1)) ∧
  (∀ (q : RegAcc) (s : State), WriteOk s q R.PDM_CFG → rbit s R.PDM_CFG 0 = false → bit q.wr.v 0 = true → endpointLive s [0xAA] = none →
    let div := q.wr.bits 15 8 * (if bit q.wr.v 2 then 32 else 64)
    (8 ≤ q.wr.bits 15 8 → div = 512 ∨ div = 1024 → Reaches (exec (.pdmEnable q) s) fun t => rbit t R.PDM_CFG 0 = true ∧
      rbit t R.PDM_STAT 0 = true ∧ t.io.pdm.zero = 32 ∧ t.io.pdm.cfg = rget t R.PDM_CFG ∧ quiet s t) ∧
    (q.wr.bits 15 8 < 8 ∨ (div ≠ 512 ∧ div ≠ 1024) → Reaches (exec (.pdmEnable q) s) fun t => rbit t R.PDM_CFG 0 = false ∧
      rbit t R.PDM_STAT 1 = true ∧ quiet s t)) ∧
  (∀ (l : List (BitVec 24 × Bool)) (s : State), let x := s.io.pdm
    let cs := pdmChans x.cfg
    unitRuns s 0x15 = true → rbit s R.PDM_STAT 0 = true → x.ending = false → x.stuck = [] → l.length = cs.length →
    let ws : List Word := l.map fun d => if 0 < x.zero then 0 else word (d.1.toNat * 2 ^ 8)
    ∃ u, PortOnly s u 0x15 ∧ u.io.pdm.zero = x.zero - 1 ∧ exec (.pdmSample l) s = .next (portPushAll u 0xAA
      (pairUp ws) (some (pdmStamp s x.cfg)))) ∧
  (∀ (s : State) (cfg : Word), let clk := if bit cfg 1 then 49152000 else 45158400
    let halves := if bit cfg 2 then 41 else 33
    pdmStamp s cfg = ((s.dtb - BitVec.ofNat 96 (halves * pdmDiv cfg * 1000000000 * 2 ^ 32 / (2 * clk))) >>> 32).setWidth 64) ∧
  (∀ (c : Fin 8) (s : State), unitRuns s 0x15 = true → rbit s R.PDM_STAT 0 = true → c.val ∈ pdmChans s.io.pdm.cfg → c.val ∉ s.io.pdm.stuck →
    Reaches (exec (.pdmStuck c) s) fun t => counted s t R.PDM_STUCKCNT ∧ rbit t R.PDM_STAT (8 + c.val) = true ∧ c.val ∈ t.io.pdm.stuck ∧
      quiet s t))

/-! Video ports -/

/-- R458 to R466, R479, R481, R482: EN 1 is refused with CFG_BAD where R479 says so; a lock reports RATE, FRAC and the code; a frame's first active line starts pushing where RXFMT matches; an
active line pushes its entries with its SAV's stamp, all ones once a violation freezes the frame; a lost lock owes the rest of the frame and FLY frames of freeze samples; a matched ANC packet
pushes its header and data, embedded audio its sample frame.

R467 to R475, R479, R483: a transmitter's EN 1 is refused with CFG_BAD where R479 says so; a line sends its popped entries, each component rounded to 10 bits and clipped; an ANC packet is sent with
parity and checksum or dropped and counted; COMMIT pends until the shadow is copied; a write of LUTDATA reaches the shadow and raises INDEX; VREF locks after eight agreeing edges; a genlocked transmitter reports it
or GEN_MISMATCH.

Where the spec is silent it rests on the model's choices of log entries 9, 51, 53 and 54. -/
def Obligations.VideoPorts : Prop :=
  (
  (∀ (q : RegAcc) (p : Fin 4) (s : State), WriteOk s q (R.SDI_RXCFG p) → p.val < sdiPorts s → rbit s (R.SDI_RXCFG p) 0 = false →
    bit q.wr.v 0 = true → endpointLive s (rxEnds p) = none →
    let w : Wr := ⟨q.wr.v, q.wr.m &&& ~~~ (if sdiRateOk s p 6 then 0 else 0x30)⟩
    let u := genericWrite s (reqOf s q.who) (R.SDI_RXCFG p) w
    let bad := rxCfgBad u p (rget u (R.SDI_RXCFG p))
    let f := rget s (R.SDI_RXFMT p)
    let code := bits f 4 0
    (bad = true ↔ (code ≠ 0 ∧ codeOk s p code (bits f 6 5) = false) ∨ (bit q.wr.v 8 = true ∧ bit q.wr.v 7 = true) ∨
      (code ≠ 0 ∧ bit q.wr.v 7 = true ∧ bits f 6 5 ≠ 0) ∨
      (code ≠ 0 ∧ bit q.wr.v 8 = true ∧ (rasterI code = true ∨ bandMax s p < rasterW code))) ∧
    (bad = true → Reaches (exec (.sdiRxEnable q p) s) fun t => rbit t (R.SDI_RXCFG p) 0 = false ∧ rbit t (R.SDI_RXSTAT p) 25 = true ∧
      quiet s t) ∧
    (bad = false → Reaches (exec (.sdiRxEnable q p) s) fun t => rbit t (R.SDI_RXCFG p) 0 = true ∧ sdiRx t p = {} ∧
      rbits t (R.SDI_RXCFG p) 16 6 = q.wr.bits 16 6 ∧ quiet s t)) ∧
  (∀ (p : Fin 4) (rate : BitVec 3) (frac : Bool) (code : BitVec 5) (samp : BitVec 2) (s : State), p.val < sdiPorts s →
    unitRuns s 0x16 = true → rbit s (R.SDI_RXCFG p) 0 = true → sdiRateOk s p rate.toNat = true →
    rbit s (R.SDI_RXCFG p) (1 + rateBit rate.toNat) = true → Reaches (exec (.sdiRxLock p rate frac code samp) s) fun t =>
      sdiLocked t p = true ∧ rbits t (R.SDI_RXSTAT p) 4 2 = rate.toNat ∧ rbit t (R.SDI_RXSTAT p) 5 = frac ∧
      rbits t (R.SDI_RXSTAT p) 10 6 = code.toNat ∧ (sdiRx t p).code = code.toNat ∧ (sdiRx t p).samp = samp.toNat ∧
      (sdiLocked s p = false → rbit t (R.SDI_RXSTAT p) 1 = false ∧ rbit t (R.SDI_RXSTAT p) 24 = true ∧ (sdiRx t p).y = none) ∧
      (sdiMatch t p = false → rbit t (R.SDI_RXSTAT p) 21 = true) ∧ quiet s t) ∧
  (∀ (p : Fin 4) (l : SdiLine) (age : BitVec 64) (s : State), let x := sdiRx s p
    let cfg := rget s (R.SDI_RXCFG p)
    let ent := bit cfg 7
    let want := rasterW x.code * (if x.samp = 0 then 2 else 3)
    let n := if ent then rasterW x.code / 2 else rasterW x.code
    p.val < sdiPorts s → unitRuns s 0x16 = true → bit cfg 0 = true → sdiLocked s p = true → rbits s (R.SDI_RXSTAT p) 4 2 ≠ 5 →
    l.active = true → l.crc = false → l.edh = false → l.trs = false → l.ln = false → l.vpid = none → l.words.length = want →
    bit cfg 8 = false →
    (l.first = true → sdiMatch s p = true → ∃ u, PortOnly s u 0x16 ∧ rbit u (R.SDI_RXSTAT p) 1 = true ∧ exec (.sdiRxLine p l age) s =
      .next (portEmit u (0xB0 + p.val) (fitTo n (lineEntries s p x.samp ent l.words)) (some (stampAgo s age)))) ∧
    (l.first = true → sdiMatch s p = false → Reaches (exec (.sdiRxLine p l age) s) fun t => rbit t (R.SDI_RXSTAT p) 1 = false ∧ quiet s t) ∧
    (l.first = false → x.y = none → exec (.sdiRxLine p l age) s = .next s) ∧
    (l.first = false → x.y ≠ none → rbit s (R.SDI_RXSTAT p) 1 = true → ∃ u, PortOnly s u 0x16 ∧ exec (.sdiRxLine p l age) s =
      .next (portEmit u (0xB0 + p.val) (if x.freeze then List.replicate n 0xFFFFFFFFFFFFFFFF
        else fitTo n (lineEntries s p x.samp ent l.words)) (some (stampAgo s age))))) ∧
  (∀ (p : Fin 4) (l : SdiLine) (age : BitVec 64) (s : State), p.val < sdiPorts s → unitRuns s 0x16 = true →
    rbit s (R.SDI_RXCFG p) 0 = true → sdiLocked s p = true → l.active = false → l.trs = false → l.ln = false → l.vpid = none →
    (l.crc = true → rbits s (R.SDI_RXSTAT p) 4 2 ≠ 1 → Reaches (exec (.sdiRxLine p l age) s) fun t => counted s t (R.SDI_RXCRC p) ∧
      rbit t (R.SDI_RXSTAT p) 16 = true ∧ ((sdiRx s p).y ≠ none → rbit s (R.SDI_RXCFG p) 12 = true → (sdiRx t p).freeze = true) ∧ quiet s t) ∧
    (l.edh = true → rbits s (R.SDI_RXSTAT p) 4 2 = 1 → Reaches (exec (.sdiRxLine p l age) s) fun t => counted s t (R.SDI_RXEDH p) ∧
      rbit t (R.SDI_RXSTAT p) 17 = true ∧ ((sdiRx s p).y ≠ none → rbit s (R.SDI_RXCFG p) 13 = true → (sdiRx t p).freeze = true) ∧ quiet s t)) ∧
  (∀ (s : State) (p : Fin 4) (ws : List (BitVec 10)) (j : Nat), bit (pix s p).cfg 0 = true →
    let w (i : Nat) : Nat := 64 * (ws.getD i 0).toNat
    (4 * j + 3 < ws.length → (lineEntries s p 0 true ws).getD j 0 =
      word (w (4 * j) + w (4 * j + 1) * 2 ^ 16 + w (4 * j + 2) * 2 ^ 32 + w (4 * j + 3) * 2 ^ 48) ∧
      (lineEntries s p 0 false ws).getD (2 * j) 0 = word (w (4 * j + 1) + w (4 * j) * 2 ^ 16 + w (4 * j + 2) * 2 ^ 32)) ∧
    (4 * j + 7 < ws.length → let mean (i : Nat) : Nat := 16 * ((4 * (ws.getD i 0).toNat + 4 * (ws.getD (i + 4) 0).toNat + 1) / 2)
      (lineEntries s p 0 false ws).getD (2 * j + 1) 0 = word (w (4 * j + 3) + mean (4 * j) * 2 ^ 16 + mean (4 * j + 2) * 2 ^ 32)) ∧
    (3 * j + 2 < ws.length → (lineEntries s p 1 false ws).getD j 0 = word (w (3 * j) + w (3 * j + 1) * 2 ^ 16 + w (3 * j + 2) * 2 ^ 32))) ∧
  (∀ (p : Fin 4) (age : BitVec 64) (s : State), let x := sdiRx s p
    p.val < sdiPorts s → unitRuns s 0x16 = true → sdiLocked s p = true →
    let push := rbit s (R.SDI_RXSTAT p) 1
    Reaches (exec (.sdiLockLost p age) s) fun t => sdiLocked t p = false ∧ counted s t (R.SDI_RXLOCK p) ∧ rbit t (R.SDI_RXSTAT p) 24 = true ∧
      (push = false → rbit t (R.SDI_RXSTAT p) 1 = false ∧ (sdiRx t p).fly = 0 ∧ (sdiRx t p).owed = 0) ∧
      (push = true → (sdiRx t p).fly = rbits s (R.SDI_RXCFG p) 31 24 ∧
        (sdiRx t p).owed = match x.y with | some y => rasterH x.code - y - 1 | none => 0) ∧ t.mem = s.mem ∧ t.cores = s.cores) ∧
  (∀ (p : Fin 4) (age : BitVec 64) (s : State), let x := sdiRx s p
    let cfg := rget s (R.SDI_RXCFG p)
    unitRuns s 0x16 = true → 0 < x.fly → x.owed = 0 → sdiLocked s p = false → 0 < rasterH x.code → bit cfg 8 = false →
    ∃ u, PortOnly s u 0x16 ∧ (sdiRx u p).fly = x.fly - 1 ∧ (sdiRx u p).owed = rasterH x.code - 1 ∧
      Reaches (exec (.sdiFlyFrame p age) s) fun t => t.grants = (portEmit u (0xB0 + p.val)
        (List.replicate (if bit cfg 7 then rasterW x.code / 2 else rasterW x.code) 0xFFFFFFFFFFFFFFFF) (some (stampAgo s age))).grants ∧
        t.mem = s.mem ∧ t.cores = s.cores) ∧
  (∀ (p : Fin 4) (k : AncPkt) (s : State), p.val < sdiPorts s → unitRuns s 0x16 = true → sdiLocked s p = true → k.udw.length < 256 →
    let hdr := word (k.did.toNat + k.sdid.toNat * 2 ^ 8 + k.udw.length * 2 ^ 16 + k.line.toNat * 2 ^ 24 + b2n k.chroma * 2 ^ 35 +
      k.link.toNat * 2 ^ 36 + b2n k.csErr * 2 ^ 38 + b2n k.parErr * 2 ^ 39)
    (ancMatch s p k = false → exec (.sdiAncPacket p k) s = .next s) ∧
    (ancMatch s p k = true → k.csErr = false → k.parErr = false →
      exec (.sdiAncPacket p k) s = .next (portPushAll s (0xB8 + p.val) (hdr :: ancData k.udw) none)) ∧
    (ancMatch s p k = true → k.csErr = true ∨ k.parErr = true → Reaches (exec (.sdiAncPacket p k) s) fun t =>
      counted s t (R.SDI_RXANCCS p) ∧ rbit t (R.SDI_RXSTAT p) 22 = true ∧ t.mem = s.mem ∧ t.cores = s.cores)) ∧
  (∀ (p : Fin 4) (l : List SdiAud) (s : State), let a := rget s (R.SDI_RXAUD p)
    p.val < sdiPorts s → unitRuns s 0x16 = true → sdiLocked s p = true → bit a 0 = true → l.length = 4 * (audGroups a).length →
    (∀ c ∈ l, c.foreign = false ∧ c.err = false) → ∃ u, PortOnly s u 0x16 ∧ exec (.sdiAudioPacket p l) s =
      .next (portPushAll u (0xC0 + p.val) (pairUp (l.map fun c => chanWord c.audio c.z false false c.v c.u c.c)) none))) ∧
  (
  (∀ (q : RegAcc) (p : Fin 4) (s : State), WriteOk s q (R.SDI_TXCFG p) → p.val < sdiPorts s → rbit s (R.SDI_TXCFG p) 0 = false →
    bit q.wr.v 0 = true → endpointLive s (txEnds p) = none →
    let f := rget s (R.SDI_TXFMT p)
    let code := bits f 4 0
    let samp := bits f 6 5
    let rate := q.wr.bits 3 1
    let ok := sdiRateOk s p rate = true ∧ rate ≠ 5 ∧ 1 ≤ code ∧ code ≤ 16 ∧ samp < 3 ∧ carried code samp rate = true ∧
      (bit q.wr.v 9 = true → samp = 0) ∧ (bit q.wr.v 10 = true → bit q.wr.v 9 = false ∧ rasterI code = false ∧ rasterW code ≤ bandMax s p) ∧
      (q.wr.bits 6 5 = 2 → q.wr.bits 8 7 < sdiPorts s ∧ rbit s (R.SDI_RXCFG (q.wr.bits 8 7)) 0 = true)
    (ok → Reaches (exec (.sdiTxEnable q p) s) fun t => rbit t (R.SDI_TXCFG p) 0 = true ∧ rbits t (R.SDI_TXCFG p) 15 1 = q.wr.bits 15 1 ∧
      rbit t (R.SDI_TXSTAT p) 0 = true ∧ quiet s t) ∧
    (¬ ok → Reaches (exec (.sdiTxEnable q p) s) fun t => rbit t (R.SDI_TXCFG p) 0 = false ∧ rbit t (R.SDI_TXSTAT p) 8 = true ∧ quiet s t)) ∧
  (∀ (p : Fin 4) (ecc : List Ecc) (s : State), let cfg := rget s (R.SDI_TXCFG p)
    let f := rget s (R.SDI_TXFMT p)
    let n := if bit cfg 9 then rasterW (bits f 4 0) / 2 else rasterW (bits f 4 0)
    let (u, es) := sinkTakeN s (0xB4 + p.val) n ecc
    let out := txLine u p (bits f 6 5) (bit cfg 9) es
    p.val < sdiPorts s → unitRuns s 0x16 = true → rbit s (R.SDI_TXSTAT p) 0 = true → bit cfg 10 = false →
    Reaches (exec (.sdiTxLine p ecc) s) fun t => (gateIsOpen s = true → mget t.wire (0x1600 + p.val) [] = out.1.map word) ∧
      (sdiTx t p).y = ((sdiTx s p).y + 1) % rasterH (bits f 4 0) ∧ t.grants = u.grants ∧ t.mem = s.mem ∧ t.cores = s.cores ∧
      (rget t (R.SDI_TXCLIP p)).toNat = (if out.2 = 0 then (rget s (R.SDI_TXCLIP p)).toNat
        else min 0xFFFFFFFF ((rget s (R.SDI_TXCLIP p)).toNat + out.2)) ∧ (out.2 ≠ 0 → rbit t (R.SDI_TXSTAT p) 12 = true)) ∧
  (∀ (s : State) (p : Nat) (e : Word), let c (k : Nat) : Nat := max 0x004 (min 0x3FB ((bits e (16 * k + 15) (16 * k) + 0x20) / 2 ^ 6))
    (txLine s p 0 true [some e]).1 = [c 0, c 1, c 2, c 3] ∧ (txLine s p 0 true [none]).1 = [0x200, 0x040, 0x200, 0x040] ∧
    (bit (pix s p).cfg 0 = false → (txLine s p 0 false [some e]).1 = [c 1, c 0, c 2] ∧ (txLine s p 1 false [some e]).1 = [c 0, c 1, c 2]) ∧
    (txLine s p 2 false [none]).1 = [0x040, 0x040, 0x040]) ∧
  (∀ (p : Fin 4) (fits : Bool) (ecc : List Ecc) (s : State),
    let (u, h) := sinkTake s (0xBC + p.val) (ecc.getD 0 .good)
    p.val < sdiPorts s → unitRuns s 0x16 = true → rbit s (R.SDI_TXSTAT p) 0 = true →
    (h = none → exec (.sdiTxAnc p fits ecc) s = .next u) ∧
    (∀ w, h = some w → let dc := bits w 23 16
      let (v, es) := sinkTakeN u (0xBC + p.val) ((dc + 5) / 6) (ecc.drop 1)
      (fits = false → Reaches (exec (.sdiTxAnc p fits ecc) s) fun t => counted s t (R.SDI_TXANCDROP p) ∧ rbit t (R.SDI_TXSTAT p) 11 = true ∧
        t.grants = v.grants ∧ t.wire = v.wire ∧ t.mem = s.mem ∧ t.cores = s.cores) ∧
      (fits = true → gateIsOpen s = true → Reaches (exec (.sdiTxAnc p fits ecc) s) fun t => let out := mget t.wire (0x1610 + p.val) []
        out.length = dc + 5 ∧ out.getD 0 0 = word (bits w 34 24) ∧ bits (out.getD 1 0) 7 0 = bits w 7 0 ∧ bits (out.getD 2 0) 7 0 = bits w 15 8 ∧
        bits (out.getD 3 0) 7 0 = dc ∧ (∀ i, i < dc → out.getD (4 + i) 0 =
          word (bits ((es.getD (i / 6) none).getD 0) (10 * (i % 6) + 9) (10 * (i % 6)))) ∧
        bits (out.getD (dc + 4) 0) 8 0 = ((out.drop 1).take (dc + 3)).foldl (fun a w => (a + w.toNat) % 512) 0 ∧
        (∀ i, 1 ≤ i → i ≤ 3 → bit (out.getD i 0) 9 = !(bit (out.getD i 0) 8)) ∧ t.grants = v.grants ∧ t.mem = s.mem ∧ t.cores = s.cores))) ∧
  (∀ (p : Fin 4) (ecc : List Ecc) (s : State), let a := rget s (R.SDI_TXAUD p)
    let (u, es) := sinkTakeN s (0xC4 + p.val) (2 * (audGroups a).length) ecc
    p.val < sdiPorts s → unitRuns s 0x16 = true → rbit s (R.SDI_TXSTAT p) 0 = true → bit a 0 = true →
    exec (.sdiTxAudio p ecc) s = .next (wireOut u (0x1620 + p.val) (unpair es))) ∧
  (∀ (q : RegAcc) (p : Fin 4) (s : State), WriteOk s q (R.SDI_PIXCTL p) → p.val < sdiPorts s → bit q.wr.v 0 = true →
    Reaches (exec (.pixelStageCommit q p) s) fun t => rbit t (R.SDI_PIXCTL p) 1 = true ∧ t.io.pix = s.io.pix ∧ quiet s t) ∧
  (∀ (p : Fin 4) (s : State), p.val < sdiPorts s → unitRuns s 0x16 = true →
    (rbit s (R.SDI_PIXCTL p) 1 = false → exec (.pixelStageApply p) s = .next s) ∧
    (rbit s (R.SDI_PIXCTL p) 1 = true → Reaches (exec (.pixelStageApply p) s) fun t => rbit t (R.SDI_PIXCTL p) 1 = false ∧
      (pix t p).cfg = rget s (R.SDI_PIXCFG p) ∧ (pix t p).lut = (pix s p).shadow ∧ (pix t p).shadow = (pix s p).shadow ∧
      (∀ j, j < 12 → (pix t p).mat.getD j 0 = rget s (R.SDI_MAT0 p + 4 * j)) ∧ quiet s t)) ∧
  (∀ (q : RegAcc) (p : Fin 4) (s : State), WriteOk s q (R.SDI_LUTDATA p) → p.val < sdiPorts s → q.wide = true →
    let i := rbits s (R.SDI_LUTADDR p) 15 0
    let tbl := rbits s (R.SDI_LUTADDR p) 17 16
    let size := if tbl < 3 then 1024 else if s.variant = .zm8640 then 33 ^ 3 else 17 ^ 3
    (rbit s (R.SDI_PIXCTL p) 1 = true → Reaches (exec (.lutDataWrite q p) s) fun t => rbit t (R.SDI_PIXCTL p) 2 = true ∧ t.io = s.io ∧
      rget t (R.SDI_LUTADDR p) = rget s (R.SDI_LUTADDR p) ∧ quiet s t) ∧
    (rbit s (R.SDI_PIXCTL p) 1 = false → Reaches (exec (.lutDataWrite q p) s) fun t => rbits t (R.SDI_LUTADDR p) 15 0 = (i + 1) % 2 ^ 16 ∧
      (i < size → mget (pix t p).shadow (tbl * 65536 + i) 0 = q.value.toNat % (if tbl < 3 then 2 ^ 12 else 2 ^ 36)) ∧
      (size ≤ i → t.io = s.io) ∧ (pix t p).lut = (pix s p).lut ∧ quiet s t)) ∧
  (∀ (per : BitVec 32) (s : State), unitRuns s 0x16 = true → rbit s R.SDI_VREF 0 = true → let n := per.toNat
    let mean := (rget s R.SDI_VREFPER).toNat
    let l := (n :: s.io.vref).take 8
    (rbit s R.SDI_VREFSTAT 0 = true → mean < ((n : Int) - mean).natAbs * 1000 → Reaches (exec (.vrefEdge per) s) fun t =>
      rbit t R.SDI_VREFSTAT 0 = false ∧ rbit t R.SDI_VREFSTAT 1 = true ∧ quiet s t) ∧
    (rbit s R.SDI_VREFSTAT 0 = false → (l.length < 8 ∨ ∃ a ∈ l, ∃ b ∈ l, a + 1000 < b) → Reaches (exec (.vrefEdge per) s) fun t =>
      t.io.vref = l ∧ t.regs = s.regs ∧ quiet s t) ∧
    (rbit s R.SDI_VREFSTAT 0 = false → l.length = 8 → (∀ a ∈ l, ∀ b ∈ l, b ≤ a + 1000) → Reaches (exec (.vrefEdge per) s) fun t =>
      rbit t R.SDI_VREFSTAT 0 = true ∧ (rget t R.SDI_VREFPER).toNat = l.sum / 8 ∧ quiet s t)) ∧
  (∀ s : State, unitRuns s 0x16 = true → rbit s R.SDI_VREFSTAT 0 = true → Reaches (exec .vrefLost s) fun t =>
    rbit t R.SDI_VREFSTAT 0 = false ∧ rbit t R.SDI_VREFSTAT 1 = true ∧ quiet s t) ∧
  (∀ (p : Fin 4) (s : State), let cfg := rget s (R.SDI_TXCFG p)
    let fp := framePeriod (rbits s (R.SDI_TXFMT p) 4 0) (bit cfg 4)
    let ref := (rget s R.SDI_VREFPER).toNat
    p.val < sdiPorts s → unitRuns s 0x16 = true → rbit s (R.SDI_TXSTAT p) 0 = true → bits cfg 6 5 = 1 → rbit s R.SDI_VREFSTAT 0 = true →
    (rbit s R.SDI_VREF 2 = bit cfg 4 ∧ ((fp : Int) - ref).natAbs * 1000 ≤ ref → Reaches (exec (.genlockAchieved p) s) fun t =>
      rbit t (R.SDI_TXSTAT p) 1 = true ∧ quiet s t) ∧
    (¬ (rbit s R.SDI_VREF 2 = bit cfg 4 ∧ ((fp : Int) - ref).natAbs * 1000 ≤ ref) → Reaches (exec (.genlockAchieved p) s) fun t =>
      rbit t (R.SDI_TXSTAT p) 9 = true ∧ rbit t (R.SDI_TXSTAT p) 1 = rbit s (R.SDI_TXSTAT p) 1 ∧ quiet s t)))

/-! Ethernet, RTP, USB and PCIe -/

/-- R484 to R490, R513, R516: EN 1 with a MODE of another variant or 3 is refused; MDIO is busy until it is done; the head frame of the highest queue leaves padded, with its FCS, and its descriptor is written back
before HEAD advances; a received frame with a bad FCS is counted, a passing one is written with its stamp, one without room is dropped and counted; a link change is sticky.

Where the spec is silent it rests on the model's choices of log entries 9 and 55. -/
def Obligations.EthernetFrames : Prop :=
  (∀ (q : RegAcc) (m : Fin 2) (s : State), WriteOk s q (ethR m R.ETHA_CFG) → bit q.wr.v 0 = true → let mode := q.wr.bits 2 1
    (mode = 3 ∨ (mode = 2 ∧ s.variant ≠ .zm8640) → Reaches (exec (.ethEnable q m) s) fun t => rbit t (ethR m R.ETHA_CFG) 0 = false ∧
      rbit t (ethR m R.ETHA_STAT) 8 = true ∧ quiet s t) ∧
    (mode = 0 ∨ mode = 1 ∨ (mode = 2 ∧ s.variant = .zm8640) → Reaches (exec (.ethEnable q m) s) fun t =>
      rbits t (ethR m R.ETHA_CFG) 15 0 = q.wr.bits 15 0 ∧ quiet s t)) ∧
  (∀ (q : RegAcc) (m : Fin 2) (s : State), WriteOk s q (ethR m R.ETHA_MDIO) → let a := ethR m R.ETHA_MDIO
    (rbit s a 31 = true → exec (.ethMdioStart q m) s = .next s) ∧
    (rbit s a 31 = false → Reaches (exec (.ethMdioStart q m) s) fun t => rbit t a 31 = true ∧ rbits t a 30 0 = q.wr.bits 30 0 ∧ quiet s t)) ∧
  (∀ (m : Fin 2) (v : BitVec 16) (s : State), unitRuns s (ethUnit m) = true → let a := ethR m R.ETHA_MDIO
    (rbit s a 31 = false → exec (.ethMdioDone m v) s = .next s) ∧
    (rbit s a 31 = true → Reaches (exec (.ethMdioDone m v) s) fun t => rbit t a 31 = false ∧
      rbits t a 15 0 = (if rbit s a 29 then v.toNat else rbits s a 15 0) ∧ rbits t a 30 16 = rbits s a 30 16 ∧ quiet s t)) ∧
  (∀ (l : List Byte), let x := framed l
    x.length = max 64 (l.length + 4) ∧ x.take l.length = l ∧ fieldAt x (x.length - 4) 4 = crc32 (x.take (x.length - 4))) ∧
  (∀ (m : Fin 2) (s : State), let u := creditTouchAll s m
    (ethUp s m = false ∨ s.dtb.toNat < (eth s m).pause → exec (.ethTxFrame m) s = .next s) ∧
    (ethUp s m = true → (eth s m).pause ≤ s.dtb.toNat → gateOn s m = false → (∀ q, q < 4 → txqCbs s m q = false) → ∀ q, q < 4 →
      (∀ k, q < k → k < 4 → txqHas s m k = false) →
      (∀ l rest, mget (eth s m).ready q [] = l :: rest → Reaches (exec (.ethTxFrame m) s) fun t =>
        mget (eth t m).ready q [] = rest ∧ (gateIsOpen s = true → mget t.wire (0x1700 + 0x100 * m.val) [] = (framed l).map (·.setWidth 64)) ∧
        t.regs = s.regs ∧ quiet s t) ∧
      (mget (eth s m).ready q [] = [] → ∀ d l v, let b := ethR m (R.ETHA_TXQ_BASE q)
        let r := unitReq s (ethUnit m)
        let w := wireOut u (0x1700 + 0x100 * m.val) ((framed l).map (·.setWidth 64))
        ringHas s b = true → memRead u r (ringAddr s b) 32 .read = (u, .inr d) → fieldAt d 0xA 2 = 0 → 0 < fieldAt d 8 2 → fieldAt d 8 2 ≤ 9212 →
        memRead u r (fieldAt d 0 5) (fieldAt d 8 2) .read = (u, .inr l) →
        memWrite w r (ringAddr s b + 0x10) (leBytes 4 1) = (v, none) → v.regs = w.regs →
        Reaches (exec (.ethTxFrame m) s) fun t => t.mem = v.mem ∧ ringHead t b = (ringHead s b + 1) % ringSize s b % 1024 ∧
          ringTail t b = ringTail s b ∧
          (gateIsOpen s = true → mget t.wire (0x1700 + 0x100 * m.val) [] = mget v.wire (0x1700 + 0x100 * m.val) [])))) ∧
  (∀ (m : Fin 2) (l : List Byte) (bad : Bool) (age : BitVec 64) (s : State), ethUp s m = true → let body := l.take (l.length - 4)
    let wrong := bad = true ∨ l.length < 64 ∨ 9216 < l.length ∨ fieldAt l (l.length - 4) 4 ≠ crc32 body
    let b := ethR m R.ETHA_RX_BASE
    let r := unitReq s (ethUnit m)
    let mine := ethFilter s m l = true ∧ (∀ f, f < 4 → rtpMatch s m f body = false)
    (wrong → Reaches (exec (.ethRxFrame m l bad age) s) fun t => counted s t (ethR m R.ETHA_RXERR) ∧ rbit t (ethR m R.ETHA_STAT) 10 = true ∧
      quiet s t) ∧
    (¬ wrong → rbit s (ethR m R.ETHA_CFG) 7 = true → ∀ k, pauseOf l = some k → Reaches (exec (.ethRxFrame m l bad age) s) fun t =>
      (eth t m).pause = s.dtb.toNat + k * 512 * 1000 / ethMbps s m * 2 ^ 32 ∧ t.regs = s.regs ∧ quiet s t) ∧
    (¬ wrong → rbit s (ethR m R.ETHA_CFG) 7 = false → ethFilter s m l = false → exec (.ethRxFrame m l bad age) s = .next s) ∧
    (¬ wrong → rbit s (ethR m R.ETHA_CFG) 7 = false → mine → ringHas s b = false → Reaches (exec (.ethRxFrame m l bad age) s) fun t =>
      counted s t (ethR m R.ETHA_RXDROP) ∧ rbit t (ethR m R.ETHA_STAT) 11 = true ∧ quiet s t) ∧
    (¬ wrong → rbit s (ethR m R.ETHA_CFG) 7 = false → mine → ringHas s b = true → ∀ d, memRead s r (ringAddr s b) 32 .read = (s, .inr d) →
      (fieldAt d 8 2 < l.length → Reaches (exec (.ethRxFrame m l bad age) s) fun t => counted s t (ethR m R.ETHA_RXDROP) ∧
        rbit t (ethR m R.ETHA_STAT) 11 = true ∧ quiet s t) ∧
      (l.length ≤ fieldAt d 8 2 → ∀ u v w, memWrite s r (fieldAt d 0 5) l = (u, none) → u.regs = s.regs →
        memWrite u r (ringAddr s b + 0x10) (leBytes 4 (l.length + 2 ^ 16 * b2n (isPtp l) + 2 ^ 17 * b2n (beAt l 12 2 = 0x8100) +
          2 ^ 18 * b2n ((l.getD 0 0).getLsbD 0))) = (v, none) → v.regs = s.regs →
        memWrite v r (ringAddr s b + 0x18) (leBytes 8 (stampAgo s age - word (rbits s (ethR m R.ETHA_TSLAT) 15 0)).toNat) = (w, none) →
        w.regs = s.regs → Reaches (exec (.ethRxFrame m l bad age) s) fun t => t.mem = w.mem ∧ t.cores = w.cores ∧
          ringHead t b = (ringHead s b + 1) % ringSize s b % 1024 ∧ ringTail t b = ringTail s b))) ∧
  (∀ (m : Fin 2) (up : Bool) (rate : BitVec 2) (s : State), let a := ethR m R.ETHA_STAT
    ethOn s m = true → (rbit s a 0 = up → exec (.ethLinkChange m up rate) s = .next s) ∧
    (rbit s a 0 ≠ up → Reaches (exec (.ethLinkChange m up rate) s) fun t => rbit t a 0 = up ∧ rbits t a 2 1 = rate.toNat ∧ rbit t a 9 = true ∧
      quiet s t))

/-- R491, R494 to R500: CHANGE waits for a cycle start at or after the other list's GBASE; a transmit flow builds a packet of NSAMP samples with the RTP header and timestamp of R498, its sequence number
rising by one; a due packet goes to the flow's TXQ; a received packet of the wrong version is counted bad, a late one late, one in sequence is pushed.

Where the spec is silent it rests on the model's choices of log entries 9 and 56. -/
def Obligations.GatesAndRtpFlows : Prop :=
  (∀ (q : RegAcc) (m : Fin 2) (s : State), WriteOk s q (ethR m R.ETHA_GCTL) → bit q.wr.v 2 = true →
    Reaches (exec (.gateListChange q m) s) fun t => let a := ethR m R.ETHA_GCTL
      rbit t a 2 = true ∧ rbit t a 1 = rbit s a 1 ∧ rbit t a 0 = bit q.wr.v 0 ∧ quiet s t) ∧
  (∀ (m : Fin 2) (s : State), ethOn s m = true → gateOn s m = true → (eth s m).entry = none →
    let a := ethR m R.ETHA_GCTL
    let o := 1 - gateActive s m
    let swap := rbit s a 2 = true ∧ gateBase s m o ≤ refNs s
    let k := if rbit s a 2 = true ∧ gateBase s m o ≤ refNs s then o else gateActive s m
    Reaches (exec (.gateCycleStart m) s) fun t => gateActive t m = k ∧ (swap → rbit t a 2 = false) ∧ (¬ swap → rbit t a 2 = rbit s a 2) ∧
      (gateBase s m k ≤ refNs s → gateCycle s m k ≠ 0 → (eth t m).entry = some 0 ∧
        (eth t m).cycle = (s.dtb.toNat / 2 ^ 32 : Nat) - (((refNs s - gateBase s m k) % gateCycle s m k : Nat) : Int)) ∧
      (refNs s < gateBase s m k → (eth t m).entry = none) ∧ quiet s t) ∧
  (∀ (m : Fin 2) (s : State) (e : Nat), (eth s m).entry = some e → ethOn s m = true → gateOn s m = true →
    let n := (gateList s m (gateActive s m)).length
    (e + 1 < n → Reaches (exec (.gateEntryEnd m) s) fun t => (eth t m).entry = some (e + 1) ∧ t.regs = s.regs ∧ quiet s t) ∧
    (n ≤ e + 1 → exec (.gateEntryEnd m) s = .next s)) ∧
  (∀ (m : Fin 2) (f : Fin 4) (ecc : List Ecc) (s : State), let cfg := rget s (txf m f 0)
    let c := txfEnd m f
    let need := rbits s (txf m f 0x14) 31 0 * ((bits cfg 20 16 + 2) / 2)
    let (u, es) := sinkTakeN s c need ecc
    let x := flow s m f
    let ref := refOf s (nextStamp s c)
    let seq := rbits s (txf m f 0x28) 15 0
    let ts := ((rget s (txf m f 0x0C)).toNat + ref * (rget s (txf m f 0x10)).toNat / 1000000000) % 2 ^ 32
    let hdr := [0x80, BitVec.ofNat 8 (rbits s (txf m f 0x04) 6 0)] ++ beBytes 2 seq ++ beBytes 4 ts ++ beBytes 4 (rget s (txf m f 0x08)).toNat
    ethOn s m = true → bit cfg 0 = true → 1 ≤ flowProfile cfg → flowProfile cfg ≤ 3 → (grantBound s c false).isSome = true → 0 < need →
    (sinkStream s c = none → portLevel s c < need → exec (.rtpTxPacket m f ecc) s = .next s) ∧
    (need ≤ portLevel s c → Reaches (exec (.rtpTxPacket m f ecc) s) fun t => rbits t (txf m f 0x28) 15 0 = (seq + 1) % 2 ^ 16 ∧
      (flow t m f).built = x.built ++ [⟨rtpFrame (rtpTemplate s m f (bits cfg 13 8)) (hdr ++ rtpPayload s m f cfg x.line (x.ts / 65536 % 65536) es),
        (ref : Int) + sint 32 (rget s (txf m f 0x18)).toNat⟩] ∧ t.grants = u.grants ∧ t.mem = s.mem ∧ t.cores = s.cores)) ∧
  (∀ (s : State) (stamp : Word), refOf s stamp = ((stamp.toNat * 2 ^ 32 + epoch s) / 2 ^ 32) % 2 ^ 64) ∧
  (∀ (ws : List Word), (samplePayload 1 ws).length = 2 * ws.length ∧ (samplePayload 2 ws).length = 3 * ws.length ∧
    ∀ j, j < ws.length → beAt (samplePayload 1 ws) (2 * j) 2 = bits (ws.getD j 0) 31 16 ∧
      beAt (samplePayload 2 ws) (3 * j) 3 = bits (ws.getD j 0) 31 8) ∧
  (∀ (m : Fin 2) (f : Fin 4) (s : State) (p : RtpOut) (l : List RtpOut), ethOn s m = true → (flow s m f).built = p :: l →
    let q := rbits s (txf m f 0) 5 4
    Reaches (exec (.rtpLaunch m f) s) fun t => (flow t m f).built = l ∧ mget (eth t m).ready q [] = mget (eth s m).ready q [] ++ [p.bytes] ∧
      t.regs = s.regs ∧ quiet s t) ∧
  (∀ (m : Fin 2) (f : Fin 4) (l : List Byte) (s : State) (o u : Nat), let cfg := rget s (rxf m f 0)
    let n := beAt l (u + 4) 2
    let r := (l.drop (u + 8)).take (n - 8)
    let x := flow s m (4 + f.val)
    let seq := beAt r 2 2
    let data := r.drop 12
    udpAt l = some (o, u) →
    (ethUp s m = false ∨ rtpMatch s m f l = false → exec (.rtpRxPacket m f l) s = .next s) ∧
    (ethUp s m = true → rtpMatch s m f l = true →
      ((r.getD 0 0).toNat / 64 ≠ 2 → Reaches (exec (.rtpRxPacket m f l) s) fun t => counted s t (rxf m f 0x20) ∧ quiet s t) ∧
      (r.getD 0 0 = 0x80 → 20 ≤ n → r.length = n - 8 → flowProfile cfg ≤ 3 → data ≠ [] → 0 < rtpSampleLen cfg →
        data.length % rtpSampleLen cfg = 0 →
        (∀ k, x.next = some k → 32768 ≤ (seq + 65536 - k) % 65536 → Reaches (exec (.rtpRxPacket m f l) s) fun t =>
          counted s t (rxf m f 0x1C) ∧ (flow t m (4 + f.val)).window = x.window ∧ quiet s t) ∧
        (x.next = none ∨ x.next = some seq → x.window = [] → Reaches (exec (.rtpRxPacket m f l) s) fun t =>
          (flow t m (4 + f.val)).next = some ((seq + 1) % 65536) ∧ (flow t m (4 + f.val)).window = [] ∧
          t.grants = ((List.range (data.length / rtpSampleLen cfg)).foldl (fun s' i => portPushAll s' (rxfEnd m f)
            (pairUp (rtpWords cfg (sub data (rtpSampleLen cfg * i) (rtpSampleLen cfg))))
            (some (rtpStamp s m f (rtpUnwrap s m f (beAt r 4 4)) i))) s).grants ∧ t.mem = s.mem ∧ t.cores = s.cores))))

/-- R501 to R505, R514, R516, R655: a SOF is stamped and numbered and gives each IN endpoint its packet; an OUT packet pushes its frames from the SOF's stamp on; FB is FS_NOM × P / 10^9; a transfer moves a descriptor's bytes and
writes it back; a CRC error is counted; a change of role detaches the port and sets ROLE_CHG; VBUS attaches a device.

R507 to R516, R326: the link trains only where R507 lets it; an inbound access beyond the windows is an Unsupported Request, one of the wrong form a Completer Abort; a completion or a time-out answers the read
that waits for its tag; a function-level reset clears the MSI-X table and OUTXLAT and ends the reads in flight; a lost link ends them too; malformed and poisoned TLPs are counted.

Where the spec is silent it rests on the model's choices of log entries 9, 35, 41 and 57. -/
def Obligations.UsbAndPcie : Prop :=
  (
  (∀ (frame : BitVec 14) (age : BitVec 64) (ecc : List Ecc) (s : State),
    (usbOn s = false ∨ rbit s R.USB_STAT 0 = false → exec (.usbSof frame age ecc) s = .next s) ∧
    (usbOn s = true → rbit s R.USB_STAT 0 = true → Reaches (exec (.usbSof frame age ecc) s) fun t =>
      rget t R.USB_SOFTS = ((s.dtb - age.setWidth 96) >>> 32).setWidth 64 ∧ rget t R.USB_FRNUM = frame.setWidth 64 ∧
      t.io.usb.sof = some (s.dtb - age.setWidth 96).toNat ∧ t.io.usb.got = [] ∧
      ((∀ e, e < 4 → rbit s (R.USB_IN_CFG e) 0 = false) → t.grants = s.grants) ∧
      (∀ e, e < 4 → rbit s (R.USB_IN_CFG e) 0 = true → grantBound s (0xD8 + e) false = none → gateIsOpen s = true →
        mget t.wire (0x1900 + e) [] = []) ∧ t.mem = s.mem ∧ t.cores = s.cores)) ∧
  (∀ (e : Fin 4) (l : List Byte) (ok : Bool) (s : State), let cfg := rget s (R.USB_OUT_CFG e)
    let sub := isoSub cfg
    let n := isoChans cfg * sub
    let fs := (rget s (R.USB_OUT_FSNOM e)).toNat
    usbOn s = true → rbit s R.USB_STAT 0 = true → bit cfg 0 = true → 0 < fs →
    (ok = false → Reaches (exec (.usbIsoOutPacket e l ok) s) fun t => counted s t R.USB_CRCERR ∧ rbit t R.USB_STAT 9 = true ∧ quiet s t) ∧
    (ok = true → ∃ u, PortOnly s u 0x19 ∧ e.val ∈ u.io.usb.got ∧ Reaches (exec (.usbIsoOutPacket e l ok) s) fun t =>
      t.grants = ((List.range (l.length / n)).foldl (fun v i => portPushAll v (0xDC + e.val)
        (pairUp ((List.range (isoChans cfg)).map fun c => word (fieldAt l (n * i + sub * c) sub * 2 ^ (32 - 8 * sub))))
        (some (rget s R.USB_SOFTS + word (i * 1000000000 / fs)))) u).grants ∧ t.mem = s.mem ∧ t.cores = s.cores)) ∧
  (∀ (e : Fin 4) (s : State) (now : Nat), let k := 2 ^ rbits s (R.USB_OUT_FBCFG e) 3 0
    let n := mget s.io.usb.count e 0
    s.io.usb.sof = some now → usbOn s = true → rbit s (R.USB_OUT_FBCFG e) 4 = true →
    (n < k → exec (.usbFeedbackWindow e) s = .next s) ∧
    (k ≤ n → Reaches (exec (.usbFeedbackWindow e) s) fun t =>
      let frac := if rbit s R.USB_CFG 3 = true ∨ rbit s (R.USB_OUT_CFG e) 7 = true then 16 else 14
      let num := (rget s (R.USB_OUT_FSNOM e)).toNat * (now - mget s.io.usb.start e now) * 2 ^ frac
      let den := n * 2 ^ 32 * 1000000000
      (∃ x : Nat, (rget t (R.USB_OUT_FB e)).toNat = x % 2 ^ 32 ∧ 2 * den * x ≤ 2 * num + den ∧ 2 * num + den < 2 * den * (x + 1)) ∧
      mget t.io.usb.count e 0 = 0 ∧ mget t.io.usb.start e 0 = now ∧ quiet s t)) ∧
  (∀ (e : Fin 16) (out : Bool) (s : State), let i := 2 * e.val + b2n out
    let b := R.USB_EP_BASE i
    let r := unitReq s 0x19
    usbOn s = true → rbit s R.USB_STAT 0 = true →
    (Reaches (exec (.usbTransfer e out .bad) s) fun t => counted s t R.USB_CRCERR ∧ rbit t R.USB_STAT 9 = true ∧ quiet s t) ∧
    (rbit s R.USB_STAT 1 = out → ringHas s b = false → exec (.usbTransfer e out .sent) s = .next s) ∧
    (rbit s R.USB_STAT 1 = out → ringHas s b = true → ∀ d l v, memRead s r (ringAddr s b) 32 .read = (s, .inr d) →
      memRead s r (fieldAt d 0 5) (fieldAt d 8 2) .read = (s, .inr l) → fieldAt d 0xA 2 = 0 →
      memWrite (wireOut s (0x1910 + i) (l.map (·.setWidth 64))) r (ringAddr s b + 0x10) (leBytes 4 1) = (v, none) → v.regs = s.regs →
      Reaches (exec (.usbTransfer e out .sent) s) fun t => t.mem = v.mem ∧ t.wire = v.wire ∧
        ringHead t b = (ringHead s b + 1) % ringSize s b % 1024) ∧
    (rbit s R.USB_STAT 1 ≠ out → ringHas s b = true → ∀ d l u v w, memRead s r (ringAddr s b) 32 .read = (s, .inr d) →
      l.length ≤ fieldAt d 8 2 → memWrite s r (fieldAt d 0 5) l = (u, none) → u.regs = s.regs → u.dtb = s.dtb →
      memWrite u r (ringAddr s b + 0x10) (leBytes 4 l.length) = (v, none) → v.regs = s.regs →
      memWrite v r (ringAddr s b + 0x18) (leBytes 8 (dtbNs s).toNat) = (w, none) → w.regs = s.regs →
      Reaches (exec (.usbTransfer e out (.data l)) s) fun t => t.mem = w.mem ∧ ringHead t b = (ringHead s b + 1) % ringSize s b % 1024)) ∧
  (∀ (host : Bool) (s : State),
    (s.io.usb.idHost = host → exec (.usbRoleChange (.ball host)) s = .next s) ∧
    (s.io.usb.idHost ≠ host → usbOn s = true → rbits s R.USB_CFG 2 1 = 0 → (∀ i, i < 32 → ringHas s (R.USB_EP_BASE i) = false) →
      Reaches (exec (.usbRoleChange (.ball host)) s) fun t => t.io.usb.idHost = host ∧ rbit t R.USB_STAT 1 = host ∧ rbit t R.USB_STAT 8 = true ∧
        quiet s t) ∧
    (s.io.usb.idHost ≠ host → usbOn s = false ∨ rbits s R.USB_CFG 2 1 ≠ 0 → Reaches (exec (.usbRoleChange (.ball host)) s) fun t =>
      t.io.usb.idHost = host ∧ t.regs = s.regs ∧ quiet s t)) ∧
  (∀ (valid : Bool) (s : State), usbOn s = true → rbits s R.SYSCON_PADV 11 10 = 2 → rbits s R.USB_CFG 2 1 = 1 →
    Reaches (exec (.usbVbusChange valid) s) fun t => rbit t R.USB_STAT 0 = valid ∧ rbit t R.USB_STAT 1 = false ∧ t.io.usb.vbus = valid ∧ quiet s t)) ∧
  (
  (∀ (gen width : BitVec 2) (s : State), gen ≠ 0 → width = 1 ∨ width = 2 → pcieUp s = false →
    (pcieMayTrain s = true → Reaches (exec (.pcieLinkTrain gen width) s) fun t => rbit t R.PCIE_STAT 0 = true ∧
      rbits t R.PCIE_STAT 2 1 = gen.toNat ∧ rbits t R.PCIE_STAT 4 3 = width.toNat ∧ rbit t R.PCIE_STAT 8 = true ∧ quiet s t) ∧
    (s.pcie.perstN = false ∨ gateIsOpen s = false ∨ rbits s R.PCIE_IDS 15 0 = 0 ∨ rbits s R.PCIE_IDS 15 0 = 0xFFFF →
      exec (.pcieLinkTrain gen width) s = .next s)) ∧
  (∀ (bar2 : Bool) (off : BitVec 22) (wide : Bool) (v : Word) (ok : Bool) (s : State), pcieUp s = true →
    let n := if wide then 8 else 4
    let form := ok = true ∧ off.toNat % n = 0
    let page := off.toNat < 0x20000 ∧ off.toNat % 0x1000 = 0 ∧ wide = false
    let aborted (o : Out) : Prop := Reaches o fun t => counted s t R.PCIE_CACNT ∧ rbit t R.PCIE_STAT 10 = true ∧ quiet s t
    let unsupported (o : Out) : Prop := Reaches o fun t => counted s t R.PCIE_URCNT ∧ rbit t R.PCIE_STAT 9 = true ∧ quiet s t
    let rd := exec (.pcieInboundRead bar2 off wide v ok) s
    let wr := exec (.pcieInboundWrite bar2 off wide v ok) s
    (¬ form ∨ (bar2 = true ∧ ¬ page) → aborted rd ∧ aborted wr) ∧
    (form → bar2 = false → 0x240000 ≤ off.toNat → unsupported rd ∧ unsupported wr) ∧
    (form → bar2 = false → off.toNat < 0x240000 → let a := 0x40000000 + off.toNat
      (∀ t l, busRead s (reqOf s .pcie) a n = (t, .inr l) → rd = .next { t with lastRead := word (leNat l) }) ∧
      (∀ t, busWrite s (reqOf s .pcie) a (leBytes n v.toNat) = (t, none) → wr = .next t)) ∧
    (form → bar2 = true → page → let k := off.toNat / 0x1000
      (∀ t l, busRead s (reqOf s .pcie) (R.ORDER_QPTR k) 4 = (t, .inr l) → rd = .next { t with lastRead := word (leNat l) }) ∧
      (∀ t, busWrite s (reqOf s .pcie) (R.ORDER_QDOOR k) (leBytes 4 v.toNat) = (t, none) → wr = .next t))) ∧
  (∀ (s : State), let r := reqOf s .pcie
    r.world = .normal ∧ r.level = .n) ∧
  (∀ (tag : Byte) (ok : Bool) (data : List Byte) (s : State) (x : RemReq), s.remote.find? (pcieWaiting tag.toNat) = some x →
    (∀ k, mget s.safeWait k [] = []) → s.remote.filter (pcieWaiting tag.toNat) = [x] →
    (ok = true → Reaches (exec (.pcieCompletion tag ok data) s) fun t =>
      { x with answer := some (.inr (sub data 0 x.len)) } ∈ t.remote ∧ t.remote.find? (pcieWaiting tag.toNat) = none ∧ t.regs = s.regs ∧ quiet s t) ∧
    (ok = false → Reaches (exec (.pcieCompletion tag ok data) s) fun t => { x with answer := some (.inl .unmappedAddr) } ∈ t.remote ∧
      counted s t R.PCIE_OUTCNT ∧ quiet s t) ∧
    (Reaches (exec (.pcieCompletionTimeout tag) s) fun t => { x with answer := some (.inl .unmappedAddr) } ∈ t.remote ∧
      counted s t R.PCIE_OUTCNT ∧ quiet s t)) ∧
  (∀ s : State, pcieUp s = true → (s.remote.filter fun q => q.dev.isNone && q.answer.isNone) = [] →
    (Reaches (exec .pcieFlr s) fun t => (∀ i, i < 64 → rget t (R.PCIE_MSIX i) = regReset (R.PCIE_MSIX i)) ∧ rget t R.PCIE_PBA = 0 ∧
      rget t R.PCIE_OUTXLAT = 0 ∧ (∀ n w, n < 64 → bung s n = .held 0x80 w → bung t n = .broken 0x80 w) ∧ t.pcie.busMaster = false ∧ rbit t R.PCIE_STAT 0 = true ∧ t.journal = s.journal ∧ quiet s t) ∧
    (Reaches (exec .pcieLinkDown s) fun t => rbits t R.PCIE_STAT 4 0 = 0 ∧ rbit t R.PCIE_STAT 8 = true ∧
      (∀ n w, n < 64 → bung s n = .held 0x80 w → bung t n = .broken 0x80 w) ∧ t.journal = s.journal ∧ quiet s t)) ∧
  (∀ s : State, pcieUp s = true →
    (∀ on, exec (.pcieConfigRequest (.busMaster on)) s = .next { s with pcie := { s.pcie with busMaster := on } }) ∧
    (exec (.pcieConfigRequest (.perst true)) s = .next { s with pcie := { s.pcie with perstN := true } }) ∧
    (Reaches (exec (.pcieConfigRequest .unsupported) s) fun t => counted s t R.PCIE_URCNT ∧ rbit t R.PCIE_STAT 9 = true ∧ quiet s t) ∧
    (Reaches (exec (.pcieMalformedTlp true) s) fun t => counted s t R.PCIE_POISCNT ∧ rbit t R.PCIE_STAT 12 = true ∧ quiet s t) ∧
    (Reaches (exec (.pcieMalformedTlp false) s) fun t => counted s t R.PCIE_MALCNT ∧ rbit t R.PCIE_STAT 11 = true ∧ quiet s t)))

/-! SUNDIK -/

/-- R526, R518, R521, R522, R531, R553: a port leaves DOWN where EN is set with the gate open, DETECT at signal, LOCK after eight ALIGNs or by timeout, NUMBER after eight TS2 in a row; TS1 gives
the number; 16 invalid headers in a row on a lane retrain the port, and the third retrain in a row takes it DOWN.

R523, R528 to R536, R553, R554: a sequenced cell that has credit leaves with the next SEQ, is held for replay and uses a credit; an ACK passes held cells; a NAK or a timeout resends them; a bad CRC is
answered with a NAK of X; an unknown type is counted as received; AUTH ends in UP with new keys and full credits, or in DOWN.

Where the spec is silent it rests on the model's choices of log entries 9, 43 and 45. -/
def Obligations.SundikLink : Prop :=
  (
  (∀ (n : Fin 2) (s : State), let on := rbit s R.SDK_CFG 0 = true ∧ gateIsOpen s = true
    let p := port s n
    (portState s n ≠ 0 → exec (.sdkPortEnable n) s = .next s) ∧
    (unitPresent s 0x1B = true → portState s n = 0 → on → p.down = false → p.held = false → Reaches (exec (.sdkPortEnable n) s) fun t =>
      portState t n = 1 ∧ rbit t R.SDK_STAT 8 = true ∧ port t n = p ∧ quiet s t) ∧
    (portState s n = 0 → p.down = true → Reaches (exec (.sdkDownWaitEnd n) s) fun t => port t n = { p with down := false } ∧
      (on → p.held = false → portState t n = 1) ∧ (p.held = true → portState t n = 0) ∧ quiet s t)) ∧
  (∀ (n : Fin 2) (s : State), (portState s n = 1 → Reaches (exec (.sdkSignalDetect n) s) fun t =>
      portState t n = 2 ∧ rbit t (R.SDK_PSTATE n) 4 = rbit s R.SDK_CFG 4 ∧ (port t n).aligns = 0 ∧ quiet s t) ∧
    (portState s n ≠ 1 → exec (.sdkSignalDetect n) s = .next s)) ∧
  (∀ (n : Fin 2) (s : State), portState s n = 2 →
    (rbit s (R.SDK_PSTATE n) 4 = false → Reaches (exec (.sdkLockTimeout n) s) fun t =>
      portState t n = 2 ∧ rbit t (R.SDK_PSTATE n) 4 = true ∧ (port t n).aligns = 0 ∧ quiet s t) ∧
    (rbit s (R.SDK_PSTATE n) 4 = true → Reaches (exec (.sdkLockTimeout n) s) fun t =>
      portState t n = 0 ∧ (port t n).down = true ∧ rbit t (R.SDK_PEVT n) 6 = true ∧ quiet s t)) ∧
  (∀ (n : Fin 2) (s : State), Reaches (exec (.sdkIdleBlock n) s) fun t =>
    port t n = { port s n with bad := [], ts2 := 0 } ∧ t.regs = s.regs ∧ quiet s t) ∧
  (∀ (n : Fin 2) (s : State), portState s n = 2 →
    ((port s n).aligns < 7 → Reaches (exec (.sdkAlignBlock n) s) fun t =>
      (port t n).aligns = (port s n).aligns + 1 ∧ t.regs = s.regs ∧ quiet s t) ∧
    (7 ≤ (port s n).aligns → Reaches (exec (.sdkAlignBlock n) s) fun t => portState t n = 3 ∧ (port t n).ts2 = 0 ∧ quiet s t)) ∧
  (∀ (n : Fin 2) (b : BitVec 24) (s : State), let off := b.toNat / 256 % 16
    let p1 := b.toNat / 32 % 2 = 1
    (portState s n = 2 ∨ portState s n = 3 →
      (n = 1 → numbered s = true → Reaches (exec (.sdkTs1 n b) s) fun t => rget t (R.SDK_PPEER 1) = word (myDev s + 1) ∧ quiet s t) ∧
      (n = 0 → p1 → isMaster s = false → 1 ≤ off → off < 8 → Reaches (exec (.sdkTs1 n b) s) fun t =>
        myDev t = off ∧ numbered t = true ∧ rget t (R.SDK_PPEER 0) = word (off - 1) ∧ quiet s t) ∧
      (n = 0 → p1 → isMaster s = false → 8 ≤ off → off ≠ 15 → Reaches (exec (.sdkTs1 n b) s) fun t =>
        portState t n = 0 ∧ (port t n).held = true ∧ numbered t = numbered s ∧ quiet s t) ∧
      (n = 0 → p1 → isMaster s = true → off ≠ 15 → Reaches (exec (.sdkTs1 n b) s) fun t =>
        portState t n = 0 ∧ (port t n).held = true ∧ rbit t R.SDK_STAT 10 = true ∧ quiet s t) ∧
      (n = 0 → off = 15 → Reaches (exec (.sdkTs1 n b) s) fun t => t.regs = s.regs ∧ quiet s t)) ∧
    (portState s n = 6 → (port s n).retrains < 2 → Reaches (exec (.sdkTs1 n b) s) fun t =>
      portState t n = 2 ∧ (port t n).fromUp = true ∧ counted s t (R.SDK_RETRAINS n) ∧ quiet s t)) ∧
  (∀ (n : Fin 2) (b : BitVec 24) (s : State), let p := port s n
    let client := b.toNat / 2 ^ 17 % 2 = 1 ∨ linkClient s = true
    let resume := b.toNat / 2 ^ 16 % 2 = 1
    (portState s n ≠ 3 → Reaches (exec (.sdkTs2 n b) s) fun t => t.regs = s.regs ∧ quiet s t) ∧
    (portState s n = 3 → p.ts2 < 7 → Reaches (exec (.sdkTs2 n b) s) fun t => (port t n).ts2 = p.ts2 + 1 ∧ t.regs = s.regs ∧ quiet s t) ∧
    (portState s n = 3 → 7 ≤ p.ts2 → client → Reaches (exec (.sdkTs2 n b) s) fun t => portState t n = 5 ∧ quiet s t) ∧
    (portState s n = 3 → 7 ≤ p.ts2 → ¬ client → p.fromUp = true → resume → Reaches (exec (.sdkTs2 n b) s) fun t =>
      portState t n = 6 ∧ (port t n).x = p.x ∧ (port t n).txKey = p.txKey ∧ (port t n).rxKey = p.rxKey ∧ (port t n).ups = p.ups + 1 ∧ quiet s t) ∧
    (portState s n = 3 → 7 ≤ p.ts2 → ¬ client → ¬ (p.fromUp = true ∧ resume) → Reaches (exec (.sdkTs2 n b) s) fun t =>
      portState t n = 4 ∧ (port t n).x = 0 ∧ (port t n).got = [] ∧ quiet s t)) ∧
  (∀ (n : Fin 2) (lane : Fin 4) (s : State), let p := port s n
    let k := mget p.bad lane.val 0 + 1
    (portState s n < 2 ∨ sdkLanes s / 2 ≤ lane.val → exec (.sdkInvalidHeader n lane) s = .next s) ∧
    (2 ≤ portState s n → lane.val < sdkLanes s / 2 → k < 16 → Reaches (exec (.sdkInvalidHeader n lane) s) fun t =>
      mget (port t n).bad lane.val 0 = k ∧ (port t n).ts2 = 0 ∧ t.regs = s.regs ∧ quiet s t) ∧
    (portState s n = 6 → lane.val < sdkLanes s / 2 → 16 ≤ k → p.retrains < 2 → Reaches (exec (.sdkInvalidHeader n lane) s) fun t =>
      portState t n = 2 ∧ counted s t (R.SDK_RETRAINS n) ∧ rbit t (R.SDK_PEVT n) 5 = true ∧ (port t n).x = p.x ∧ (port t n).replay = p.replay ∧
      quiet s t) ∧
    (portState s n = 6 → lane.val < sdkLanes s / 2 → 16 ≤ k → 2 ≤ p.retrains → Reaches (exec (.sdkInvalidHeader n lane) s) fun t =>
      portState t n = 0 ∧ (port t n).replay = [] ∧ quiet s t))) ∧
  (
  (∀ (s : State) (n : Nat) (c : List Byte), let p := port s n
    let k := cellClass (cType c)
    c.length = 36 → cSealed c = false → p.waiting = [] → portCarries s n (cType c) = true →
    (mget p.credit k 0 ≠ 0 → p.replay.length < 4096 → p.next < lastSeq → let t := sdkSend s n c
      let w := mget (port t n).replay p.next []
      (port t n).next = p.next + 1 ∧ (port t n).waiting = [] ∧ mget (port t n).credit k 0 = mget p.credit k 0 - 1 ∧
      w.take 2 = c.take 2 ∧ fieldAt w 2 2 = p.next % 65536 ∧ fieldAt w 4 2 = p.x % 65536 ∧ w.drop 7 = c.drop 7 ∧
      mget t.wire (0x1B0 + n) [] = (w ++ leBytes 4 (crc32c w)).map (·.setWidth 64) ∧ t.regs = s.regs ∧ quiet s t) ∧
    (mget p.credit k 0 = 0 → port (sdkSend s n c) n = { p with waiting := [c] } ∧ (sdkSend s n c).wire = s.wire)) ∧
  (∀ (p : SdkPort) (o : Nat) (w : List Byte) (l : Map (List Byte)) (a b : Nat), p.replay = (o, w) :: l → a < 65536 → 4 ≤ b → let d := (a + 65536 - o % 65536) % 65536
    (d ≤ p.replay.length → (sdkAck p a).replay = p.replay.drop d) ∧ (p.replay.length < d → sdkAck p a = p) ∧
    mget (sdkCredits p b).credit (b % 4) 0 = mget p.credit (b % 4) 0 + b / 4) ∧
  (∀ (n : Fin 2) (c : List Byte) (s : State), RawCell s n 0x00 c → exec (.cellNull n c) s = .next (heardRaw s n c)) ∧
  (∀ (n : Fin 2) (c : List Byte) (s : State), let u := heardRaw s n c
    let p := port (goodBlock s n) n
    cType c = 0 → cSealed c = true → portState (goodBlock s n) n = 6 → portState u n ≠ 0 →
    (∀ w, cellOpen p.rxKey (cellIv p.lower true p.ups p.x) c = some w → Reaches (exec (.cellNull n c) s) fun t => (port t n).nullDue = false ∧ t.regs = u.regs) ∧
    (cellOpen p.rxKey (cellIv p.lower true p.ups p.x) c = none → (port u n).nullDue = true → Reaches (exec (.cellNull n c) s) fun t =>
      portState t n = 0 ∧ counted u t (R.SDK_SEALERR n) ∧ rbit t (R.SDK_PEVT n) 4 = true ∧ (port t n).txKey = [])) ∧
  (∀ (n : Fin 2) (c : List Byte) (s : State), RawCell s n 0x28 c → let u := heardRaw s n c
    let q := fieldAt (cPay c) 0 2
    ((port u n).naks = 0 ∨ (port u n).nakSeq ≠ q → ∀ e w, (port u n).replay.find? (fun x => x.1 % 65536 = q) = some (e, w) →
      Reaches (exec (.cellNak n c) s) fun t => counted u t (R.SDK_NAKRX n) ∧ counted u t (R.SDK_REPLAY n) ∧
        port t n = { port u n with naks := 1, nakSeq := q } ∧ quiet u t ∧
        ∀ f x, (port u n).replay.getLast? = some (f, x) → e ≤ f → mget t.wire (0x1B0 + n.val) [] = (x ++ leBytes 4 (crc32c x)).map (·.setWidth 64)) ∧
    ((port u n).naks = 7 → (port u n).nakSeq = q → portState u n = 6 → (port u n).retrains < 2 → Reaches (exec (.cellNak n c) s) fun t =>
      portState t n = 2 ∧ counted u t (R.SDK_RETRAINS n) ∧ (port t n).replay = (port u n).replay ∧ quiet u t)) ∧
  (∀ (n : Fin 2) (c : List Byte) (s : State), 4 ≤ portState s n → Reaches (exec (.cellCrcError n c) s) fun t =>
    counted s t (R.SDK_CRCERR n) ∧ counted s t (R.SDK_NAKTX n) ∧ rbit t (R.SDK_PEVT n) 0 = true ∧ (port t n).x = (port s n).x ∧ quiet s t ∧
    ∃ w, w.length = 36 ∧ mget t.wire (0x1B0 + n.val) [] = (w ++ leBytes 4 (crc32c w)).map (·.setWidth 64) ∧ cType w = 0x28 ∧ cSeq w = 0 ∧
      fieldAt w 8 2 = (port s n).x % 65536) ∧
  (∀ (n : Fin 2) (c : List Byte) (s : State), cellKnown (cType c) = false → 4 ≤ portState s n → cSeq c = (port s n).x % 65536 →
    Reaches (exec (.cellUnknownType n c) s) fun t => (port t n).x = (port s n).x + 1 ∧ counted s t (R.SDK_TYPEERR n) ∧
      rbit t (R.SDK_PEVT n) 3 = true ∧ quiet s t) ∧
  (∀ (n : Fin 2) (s : State), ((port s n).replay = [] → exec (.sdkReplayTimeout n) s = .next s) ∧
    (4 ≤ portState s n → (port s n).replay ≠ [] → Reaches (exec (.sdkReplayTimeout n) s) fun t =>
      counted s t (R.SDK_REPLAY n) ∧ port t n = port s n ∧ quiet s t)) ∧
  (∀ (n : Fin 2) (s : State), 4 ≤ portState s n → Reaches (exec (.sdkAckTimeout n) s) fun t => t.regs = s.regs ∧ quiet s t ∧
    ∃ w, w.length = 36 ∧ mget t.wire (0x1B0 + n.val) [] = (w ++ leBytes 4 (crc32c w)).map (·.setWidth 64) ∧ cType w = 0 ∧ cSeq w = 0 ∧
      fieldAt w 4 2 = (port s n).x % 65536) ∧
  (∀ (n : Fin 2) (c : List Byte) (s : State), SeqCell s n 0x30 c → let u := heardSeq s n c
    portState u n = 4 → cLast c = false → (port u n).got.length + 28 < 5729 → Reaches (exec (.cellAuth n c) s) fun t =>
      (port t n).got = (port u n).got ++ cPay c ∧ t.regs = u.regs ∧ quiet u t) ∧
  (∀ (n : Fin 2) (s : State), portState s n = 4 → authSigned (port s n) = true → let p := port s n
    (∀ lo hi, authAccept s p = true → sessionKeys p = some (lo, hi) → Reaches (exec (.sdkAuthVerified n) s) fun t =>
      portState t n = 6 ∧ (port t n).txKey = (if p.lower then lo else hi) ∧ (port t n).rxKey = (if p.lower then hi else lo) ∧
      (port t n).credit = fullCredit ∧ (port t n).peer = fullCredit ∧ rget t (R.SDK_PPEERID n) = word (fieldAt p.got 8 8) ∧ quiet s t) ∧
    (authAccept s p = false → Reaches (exec (.sdkAuthVerified n) s) fun t => portState t n = 0 ∧ (port t n).down = true ∧
      rbit t R.SDK_STAT 9 = true ∧ (port t n).txKey = [] ∧ quiet s t)) ∧
  (∀ (s : State) (off : Nat), linkClient s = true → s.boot.need = some off → portState s 0 = 5 →
    exec .sdkBootRetry s = .next (sdkSend s 0 (mkCell 0x38 (myDev s) 0 false false 0
      (leBytes 4 (off / 4096 * 4096) ++ leBytes 1 (b2n (rbit s R.AON_BOOT_STATUS 6)))))))

/-- R539 to R544: a STREAM cell of PEER is pushed with a stamp congruent to STAMP32 and nearest to now; a transmit channel sends what shares a stamp; a forwarded doorbell is answered with what was accepted; a
memory request acts with identity 0xC0 + SRC and is answered with data or the cause; an answer completes its request.

R546 to R551: delays are measured with the stamps t1 to t4, the first sample as it is and each later one with weight 1/16; marks carry the master's time out of every UP port, are measured and go on; a
BOOT_REQ is served with 171 cells or refused; BOOT_DATA fills the client's block.

Where the spec is silent it rests on the model's choices of log entries 9 and 46. -/
def Obligations.SundikServices : Prop :=
  (
  (∀ (s : State) (x : Nat), x < 2 ^ 32 → ∃ i : Int, i % 2 ^ 32 = x ∧ (i - refNs s).natAbs ≤ 2 ^ 31 ∧ stampFrom s x = word (uint 64 ((i * 2 ^ 32 - epoch s) / 2 ^ 32))) ∧
  (∀ (n : Fin 2) (c : List Byte) (s : State), SeqCell s n 0x01 c → let u := heardSeq s n c
    let k := cTag c % 8
    let r := rget u (R.SDK_STR k)
    (bit r 1 = false → exec (.cellStream n c) s = .next u) ∧
    (bit r 1 = true → bits r 4 2 ≠ cSrc c → exec (.cellStream n c) s = .next (logUnit u (sdkSecure u) Code.SDK_STREAM_STRAY (word k) 0)) ∧
    (bit r 1 = true → bits r 4 2 = cSrc c → exec (.cellStream n c) s = .next (portPushAll u (0xE8 + k)
      ((List.range (cTag c / 32)).map fun i => word (fieldAt c (8 + 8 * i) 8)) (some (stampFrom u (fieldAt c 32 4)))))) ∧
  (∀ (s : State) (g m : Nat), let es := streamGroup s g m
    es = (grantOf s g).q.take es.length ∧ es.length ≤ m ∧ es.length ≤ rlevel s g ∧ (∀ e f, e ∈ es → f ∈ es → e.side = f.side)) ∧
  (∀ (k : Fin 8) (s : State) (n g : Nat), let r := rget s (R.SDK_STR k)
    let d := bits r 4 2
    let sealed : Bool := bit r 5 || rbit s R.SDK_CFG 3
    bit r 0 = true → unitRuns s 0x1B = true → routeOf s d = some n → grantBound s (0xE0 + k.val) false = some g → portState s n = 6 →
    (mget (port s n).credit 0 0 = 0 → exec (.sdkStreamSend k) s = .next s) ∧
    (mget (port s n).credit 0 0 ≠ 0 → sinkStream s (0xE0 + k.val) = none → ∀ e es, streamGroup s g (if sealed then 2 else 3) = e :: es →
      let u := (e :: es).foldl (fun v _ => (grantPop v g).1) s
      exec (.sdkStreamSend k) s = .next (sdkSend u n (mkCell 0x01 (myDev u) d sealed true ((es.length + 1) * 32 + k.val)
        (sub ((e :: es).flatMap fun x => leBytes 8 x.val.toNat) 0 (if sealed then 16 else 24) ++ leBytes 4 (refOf u e.side)))))) ∧
  (∀ (q : RegAcc) (s : State), WriteOk s q R.SDK_OFWD → bit q.wr.v 63 = true → bit q.wr.m 63 = true → let d := q.wr.bits 18 16
    let u := rset s R.SDK_OFWD (q.wr.v &&& 0x7FFFFFFFFFFFFFFF)
    (rbits s R.SDK_OFWDSTAT 1 0 = 1 → exec (.sdkOfwd q) s = .next s) ∧
    (rbits s R.SDK_OFWDSTAT 1 0 ≠ 1 → d = myDev s → Reaches (exec (.sdkOfwd q) s) fun t => rget t R.SDK_OFWDSTAT = 3 ∧ quiet s t) ∧
    (∀ n, rbits s R.SDK_OFWDSTAT 1 0 ≠ 1 → d ≠ myDev u → numbered u = true → routeOf u d = some n → portState u n = 6 →
      exec (.sdkOfwd q) s = .next (sdkSend (rset u R.SDK_OFWDSTAT 1) n (mkCell 0x08 (myDev u) d (remSealed u (reqOf s q.who).world) true
        (q.wr.bits 4 0) (leBytes 2 (q.wr.bits 15 8 + 1)))))) ∧
  (∀ (s : State) (d : Fin 8) (sec : Bool), (reqOf s (.sundik d sec)).id = BitVec.ofNat 8 (0xC0 + d.val) ∧
    (reqOf s (.sundik d sec)).level = (if sec then .s else .n) ∧ (reqOf s (.sundik d sec)).firkin = none) ∧
  (∀ (n : Fin 2) (c : List Byte) (s : State), SeqCell s n 0x08 c → let u := heardSeq s n c
    let r := reqOf u (.sundik (Fin.ofNat 8 (cSrc c)) false)
    ∀ v m got g, cTag c < 32 → unitCheck u r (R.ORDER_QDOOR (cTag c)) 4 true = none → doorNow u r (cTag c) (fieldAt c 8 2) = (v, got, g) →
      routeOf v (cSrc c) = some m → portState v m = 6 →
      exec (.cellOrderDoor n c) s = .next (sdkSend v m (mkCell 0x09 (myDev v) (cSrc c) false true (cTag c)
        (leBytes 2 got ++ [0, 0, 0, 0, 0, 0] ++ leBytes 8 g)))) ∧
  (∀ (n : Fin 2) (c : List Byte) (s : State), SeqCell s n 0x09 c → let u := heardSeq s n c
    rbits u R.SDK_OFWDSTAT 1 0 = 1 → cSrc c = rbits u R.SDK_OFWD 18 16 → Reaches (exec (.cellOrderResult n c) s) fun t =>
      rbits t R.SDK_OFWDSTAT 1 0 = 2 ∧ rbits t R.SDK_OFWDSTAT 16 8 = fieldAt c 8 2 % 512 ∧ rget t R.SDK_OFWDGYLE = word (fieldAt c 16 8) ∧ quiet u t) ∧
  (∀ (n : Fin 2) (c : List Byte) (s : State), SeqCell s n 0x10 c → fieldAt c 13 1 < 5 → let u := heardSeq s n c
    ∀ v e m, busWrite u (reqOf u (.sundik (Fin.ofNat 8 (cSrc c)) false)) (fieldAt c 8 5) (sub (cPay c) 8 (2 ^ fieldAt c 13 1)) = (v, e) →
      routeOf v (cSrc c) = some m → portState v m = 6 →
      exec (.cellMemWrite n c) s = .next (sdkSend v m (mkCell 0x12 (myDev v) (cSrc c) false true (cTag c)
        (sub [] 0 16 ++ leBytes 1 (match e with | none => 0 | some x => busErrNum x))))) ∧
  (∀ (n : Fin 2) (c : List Byte) (s : State), SeqCell s n 0x11 c → fieldAt c 13 1 < 5 → let u := heardSeq s n c
    ∀ v x m, busRead u (reqOf u (.sundik (Fin.ofNat 8 (cSrc c)) false)) (fieldAt c 8 5) (2 ^ fieldAt c 13 1) = (v, x) →
      routeOf v (cSrc c) = some m → portState v m = 6 →
      exec (.cellMemRead n c) s = .next (sdkSend v m (mkCell 0x12 (myDev v) (cSrc c) false true (cTag c)
        (match x with | .inr l => sub l 0 16 ++ [0] | .inl e => sub [] 0 16 ++ leBytes 1 (busErrNum e))))) ∧
  (∀ (n : Fin 2) (c : List Byte) (s : State), SeqCell s n 0x11 c → 0x80 ≤ fieldAt c 13 1 → let u := heardSeq s n c
    let v := refuse u (reqOf u (.sundik (Fin.ofNat 8 (cSrc c)) true)) (fieldAt c 8 5) .worldDenied
    ∀ m, routeOf v (cSrc c) = some m → portState v m = 6 →
      exec (.cellMemRead n c) s = .next (sdkSend v m (mkCell 0x12 (myDev v) (cSrc c) false true (cTag c)
        (sub [] 0 16 ++ leBytes 1 (busErrNum .worldDenied))))) ∧
  (∀ (n : Fin 2) (c : List Byte) (s : State), SeqCell s n 0x12 c → let u := heardSeq s n c
    let ans : Sum BusErr (List Byte) → RemReq → RemReq := fun a q => { q with answer := some a }
    let mine : RemReq → Prop := fun q => q.dev = some (cSrc c) ∧ q.tag = cTag c ∧ q.answer = none
    Reaches (exec (.cellMemResp n c) s) fun t => t.remote.length = u.remote.length ∧ t.regs = u.regs ∧ quiet u t ∧
      (∀ (i : Nat) (q : RemReq), u.remote[i]? = some q → (mine q → fieldAt c 24 1 = 0 → t.remote[i]? = some (ans (.inr (sub (cPay c) 0 q.len)) q)) ∧
        (mine q → fieldAt c 24 1 ≠ 0 → t.remote[i]? = some (ans (.inl (busErrOf (fieldAt c 24 1))) q)) ∧ (¬ mine q → t.remote[i]? = some q))) ∧
  (∀ (tag : Byte) (s : State) (i : Nat) (q : RemReq), s.remote[i]? = some q → q.dev.isSome = true → q.tag = tag.toNat → q.answer = none →
    Reaches (exec (.sdkRequestTimeout tag) s) fun t => t.remote[i]? = some { q with answer := some (.inl .unmappedAddr) } ∧
      rbit t R.SDK_STAT 11 = true ∧ quiet s t)) ∧
  (
  (∀ (n : Fin 2) (s : State), portState s n = 6 → Reaches (exec (.sdkDelayTimer n) s) fun t => t.regs = s.regs ∧ quiet s t ∧
    ∃ w, w.length = 36 ∧ mget t.wire (0x1B0 + n.val) [] = (w ++ leBytes 4 (crc32c w)).map (·.setWidth 64) ∧ cType w = 0x21 ∧
      fieldAt w 8 8 = s.dtb.toNat / 2 ^ 16 % 2 ^ 64) ∧
  (∀ (n : Fin 2) (c : List Byte) (s : State), RawCell s n 0x21 c → let u := heardRaw s n c
    Reaches (exec (.cellDelayReq n c) s) fun t => t.regs = u.regs ∧ quiet u t ∧
      ∃ w, w.length = 36 ∧ mget t.wire (0x1B0 + n.val) [] = (w ++ leBytes 4 (crc32c w)).map (·.setWidth 64) ∧ cType w = 0x22 ∧
        fieldAt w 8 8 = fieldAt c 8 8 ∧ fieldAt w 16 8 = u.dtb.toNat / 2 ^ 16 % 2 ^ 64 ∧ fieldAt w 24 8 = u.dtb.toNat / 2 ^ 16 % 2 ^ 64) ∧
  (∀ (n : Fin 2) (c : List Byte) (s : State) (t1 t2 t3 t4 : Nat), RawCell s n 0x22 c → let u := heardRaw s n c
    fieldAt c 8 8 = t1 → fieldAt c 16 8 = t2 → fieldAt c 24 8 = t3 → u.dtb.toNat / 2 ^ 16 % 2 ^ 64 = t4 → t1 ≤ t4 → t4 - t1 < 2 ^ 63 → t2 ≤ t3 → t3 - t2 < 2 ^ 63 →
    let x : Int := (((t4 - t1 : Nat) : Int) - ((t3 - t2 : Nat) : Int)) / 2 + ((rget u (R.SDK_PASYM n)).setWidth 32).toInt
    Reaches (exec (.cellDelayResp n c) s) fun t => (port t n).sampled = true ∧ quiet u t ∧
      ((port u n).sampled = false → rget t (R.SDK_PDELAY n) = BitVec.ofInt 64 x) ∧
      ((port u n).sampled = true → rget t (R.SDK_PDELAY n) = BitVec.ofInt 64
        ((rget u (R.SDK_PDELAY n)).toInt + (x - (rget u (R.SDK_PDELAY n)).toInt) / 16))) ∧
  (∀ (s : State), (rbit s R.SDK_CFG 2 = false → exec .sdkMarkTimer s = .next s) ∧
    (rbit s R.SDK_CFG 2 = true → numbered s = true → myDev s = 0 → Reaches (exec .sdkMarkTimer s) fun t =>
      t.sdkMarks = (s.sdkMarks + 1) % 65536 ∧ t.regs = s.regs ∧ quiet s t ∧
      ∀ n, n < 2 → portState s n = 6 → ∃ w, w.length = 36 ∧ mget t.wire (0x1B0 + n) [] = (w ++ leBytes 4 (crc32c w)).map (·.setWidth 64) ∧
        cType w = 0x20 ∧ fieldAt w 8 8 = refNs s ∧ fieldAt w 16 8 = 0 ∧ fieldAt w 24 2 = s.sdkMarks % 65536 ∧ fieldAt w 26 1 = 0)) ∧
  (∀ (n : Fin 2) (c : List Byte) (s : State), RawCell s n 0x20 c → let u := heardRaw s n c
    let delay := (rget u (R.SDK_PDELAY n)).toInt
    let corr := (word (fieldAt c 16 8)).toInt
    let e : Int := (fieldAt c 8 8 : Int) * 2 ^ 16 + corr + delay - (((u.dtb.toNat / 2 ^ 16 : Nat) : Int) + ((epoch u / 2 ^ 16 : Nat) : Int))
    let v := if servoSrc u = 2 then dtbMeasure u e none else u
    (routeOf u 0 ≠ some n.val ∨ (port u n).sampled = false → exec (.cellTimeMark n c) s = .next u) ∧
    (routeOf u 0 = some n.val → (port u n).sampled = true → portState v (1 - n.val) ≠ 6 → exec (.cellTimeMark n c) s = .next v) ∧
    (routeOf u 0 = some n.val → (port u n).sampled = true → portState v (1 - n.val) = 6 → Reaches (exec (.cellTimeMark n c) s) fun t =>
      t.regs = v.regs ∧ t.servo = v.servo ∧
      ∃ w, w.length = 36 ∧ mget t.wire (0x1B0 + (1 - n.val)) [] = (w ++ leBytes 4 (crc32c w)).map (·.setWidth 64) ∧ cType w = 0x20 ∧
        fieldAt w 8 8 = fieldAt c 8 8 ∧ word (fieldAt w 16 8) = BitVec.ofInt 64 (corr + delay) ∧ fieldAt w 24 2 = fieldAt c 24 2 ∧
        fieldAt w 26 1 = (fieldAt c 26 1 + 1) % 256)) ∧
  (∀ (n : Fin 2) (c : List Byte) (s : State), SeqCell s n 0x38 c → let u := heardSeq s n c
    let d := cSrc c
    let off := fieldAt c 8 4
    let b : Bool := decide (fieldAt c 12 1 = 1)
    let size := rbits u (if b then R.SDK_BOOTBSIZE else R.SDK_BOOTASIZE) 31 12 * 4096
    let base := rbits u (if b then R.SDK_BOOTB else R.SDK_BOOTA) 39 12 * 4096
    (∀ m, routeOf u d = some m → portState u m = 5 ∨ portState u m = 6 →
      (rbit u R.SDK_BOOTCTL 0 = false → exec (.cellBootReq n c) s = .next (sdkSend u m (mkCell 0x39 (myDev u) d false true 1 (leBytes 4 off)))) ∧
      (rbit u R.SDK_BOOTCTL 0 = true → size < off + 4096 →
        exec (.cellBootReq n c) s = .next (sdkSend u m (mkCell 0x39 (myDev u) d false true 2 (leBytes 4 off))))) ∧
    (rbit u R.SDK_BOOTCTL 0 = true → off + 4096 ≤ size → ∀ v l, memRead u (reqOf u .own) (base + off) 4096 .read = (v, .inr l) →
      exec (.cellBootReq n c) s = .next ((List.range 171).foldl (fun s i => sdkTo s d (mkCell 0x39 (myDev s) d false (decide (i = 170)) 0
        (leBytes 4 (off + 24 * i) ++ sub l (24 * i) (if i = 170 then 16 else 24)))) v))) ∧
  (∀ (c : List Byte) (s : State), SeqCell s 0 0x39 c → let u := heardSeq s 0 c
    linkClient u = true → cTag c = 0 → cLast c = false → Reaches (exec (.cellBootData 0 c) s) fun t =>
      t.regs = u.regs ∧ quiet u t ∧ ∀ i, i < 24 → mget t.boot.linkBuf (fieldAt c 8 4 + i) 0 = c.getD (12 + i) 0))

/-! TAP and GPIO -/

/-- R569 to R572: EN 1 with a bad configuration is refused, else the engine starts at START with its registers clear; EN 0 empties it; HALT keeps all of its progress and a resume goes on from there unless the instruction
at PC was changed; REWIND acts on a halted engine; a write into a running span is refused.

R555, R557, R568, R313: GPIO_FUNC takes only present blocks, and a normal-world write cannot select or deselect a secure block; a closed gate drives nothing; WIRED-AND and PRIORITY merge the engines' outputs; a selected
edge of a ball sets its sticky bit and pends its source.

Where the spec is silent it rests on the model's choices of log entry 58. -/
def Obligations.TapsAndPins : Prop :=
  (
  (∀ (q : RegAcc) (e : Fin 16) (s : State), WriteOk s q (tapR e 0) → bit q.wr.v 0 = true → tapEn s e = false → endpointLive s (tapEnds e) = none →
    (tapCfgBad s e = true → Reaches (exec (.tapEnable q e) s) fun t => tapEn t e = false ∧ rbit t (tapR e 0x14) 17 = true ∧ quiet s t) ∧
    (tapCfgBad s e = false → Reaches (exec (.tapEnable q e) s) fun t => tapEn t e = true ∧ tapPc t e = tapStart s e ∧ tap t e = {} ∧
      (∀ o, o ∈ [0x18, 0x1C, 0x20, 0x24, 0x28] → rget t (tapR e o) = 0) ∧ rbit t (tapR e 0x14) 8 = !(bit q.wr.v 1) ∧
      tapHalted t e = bit q.wr.v 1 ∧ tapFlow t e = bit q.wr.v 3 ∧ tapPack t e = bit q.wr.v 4 ∧ quiet s t)) ∧
  (∀ (q : RegAcc) (e : Fin 16) (s : State), WriteOk s q (tapR e 0) → bit q.wr.v 0 = false → tapEn s e = true →
    (endpointLive s (tapEnds e) = none → Reaches (exec (.tapDisable q e) s) fun t => tapEn t e = false ∧ tap t e = {} ∧
      tapPc t e = tapStart s e ∧ (∀ o, o ∈ [0x18, 0x1C, 0x20, 0x24, 0x28] → rget t (tapR e o) = 0) ∧ rbit t (tapR e 0x14) 8 = false ∧ quiet s t) ∧
    (endpointLive s (tapEnds e) ≠ none → Reaches (exec (.tapDisable q e) s) fun t => tapEn t e = true ∧ tap t e = tap s e)) ∧
  (∀ (q : RegAcc) (e : Fin 16) (s : State), WriteOk s q (tapR e 0) → bit q.wr.v 0 = true → tapEn s e = true →
    (bit q.wr.v 1 = true → bit q.wr.v 2 = false → Reaches (exec (.tapHalt q e) s) fun t => tapHalted t e = true ∧ rbit t (tapR e 0x14) 8 = false ∧
      tapEn t e = true ∧ tap t e = tap s e ∧ tapPc t e = tapPc s e ∧ tapFlow t e = tapFlow s e ∧ tapPack t e = tapPack s e ∧
      tapKeeps s t e [] ∧ quiet s t) ∧
    (bit q.wr.v 1 = false → bit q.wr.v 2 = false → tapHalted s e = true → rbits s (tapR e 0x14) 23 20 = 0 → Reaches (exec (.tapResume q e) s) fun t =>
      tapHalted t e = false ∧ rbit t (tapR e 0x14) 8 = true ∧ tapPc t e = tapPc s e ∧ tapKeeps s t e [] ∧ tapStill s t e ∧
      (tap t e).prog = (if (tap s e).rewritten then .start else (tap s e).prog) ∧ quiet s t) ∧
    (bit q.wr.v 2 = true → tapHalted s e = true → Reaches (exec (.tapRewind q e) s) fun t => tapPc t e = tapStart s e ∧
      (∀ o, o ∈ [0x18, 0x1C, 0x20, 0x24, 0x28] → rget t (tapR e o) = 0) ∧ (tap t e).prog = .start ∧ tapStill s t e ∧
      tapHalted t e = bit q.wr.v 1 ∧ quiet s t) ∧
    (bit q.wr.v 2 = true → tapHalted s e = false → bit q.wr.v 1 = false → Reaches (exec (.tapRewind q e) s) fun t => tapPc t e = tapPc s e ∧
      tapKeeps s t e [] ∧ (tap t e).prog = (tap s e).prog ∧ tapStill s t e ∧ quiet s t)) ∧
  (∀ (q : RegAcc) (b : Fin 4) (w : Fin 64) (s : State), WriteOk s q (tapB b (0x400 + 4 * w)) → let a := tapB b (0x400 + 4 * w)
    let busy := ∃ j, j < 4 ∧ tapEn s (4 * b + j) = true ∧ tapHalted s (4 * b + j) = false ∧ tapBottom s (4 * b + j) ≤ w ∧ w ≤ tapTop s (4 * b + j)
    (busy → Reaches (exec (.tapPmemWrite q b w) s) fun t => rget t a = rget s a ∧ rbit t (tapB b 0xC) 0 = true ∧ quiet s t) ∧
    (¬ busy → Reaches (exec (.tapPmemWrite q b w) s) fun t => rget t a = q.wr.v &&& 0xFFFFFF ∧ quiet s t ∧
      (∀ j, j < 4 → tapEn s (4 * b + j) = true → tapHalted s (4 * b + j) = true → tapPc s (4 * b + j) = w → rget t a ≠ rget s a → (tap t (4 * b + j)).rewritten = true)))) ∧
  (
  (∀ (q : RegAcc) (n : Fin 48) (s : State), WriteOk s q (R.GPIO_FUNC n) → let f := q.wr.bits 2 0
    let old := rbits s (R.GPIO_FUNC n) 2 0
    let secure := fun k => k ≠ 0 ∧ unitSecure s (0x0C + k) = true
    (5 ≤ f ∨ (f ≠ 0 ∧ unitPresent s (0x0C + f) = false) → exec (.gpioFuncWrite q n) s = .next s) ∧
    (f < 5 → (f ≠ 0 → unitPresent s (0x0C + f) = true) → (reqOf s q.who).world = .normal → f ≠ old → secure f ∨ secure old →
      Reaches (exec (.gpioFuncWrite q n) s) fun t => rbits t (R.GPIO_FUNC n) 2 0 = old ∧ quiet s t) ∧
    (f < 5 → (f ≠ 0 → unitPresent s (0x0C + f) = true) → ((reqOf s q.who).world = .secure ∨ (¬ secure f ∧ ¬ secure old)) →
      Reaches (exec (.gpioFuncWrite q n) s) fun t => rbits t (R.GPIO_FUNC n) 2 0 = f ∧ quiet s t)) ∧
  (∀ (s : State) (n : Nat), n < 48 → let f := rbits s (R.GPIO_FUNC n) 2 0
    let on := fun j => j < 4 ∧ tapEn s (4 * (f - 1) + j) = true ∧ (tap s (4 * (f - 1) + j)).oe.getLsbD n = true
    (gateIsOpen s = false → pinDrive s n = none) ∧
    (gateIsOpen s = true → f = 0 → pinDrive s n = if rbit s R.GPIO_OE n then some (rbit s R.GPIO_OUT n) else none) ∧
    (gateIsOpen s = true → f ≠ 0 → rbit s (tapB (f - 1) 0) n = true →
      ((∃ j, on j ∧ (tap s (4 * (f - 1) + j)).level.getLsbD n = false) → pinDrive s n = some false) ∧
      ((∀ j, on j → (tap s (4 * (f - 1) + j)).level.getLsbD n = true) → pinDrive s n = none)) ∧
    (gateIsOpen s = true → f ≠ 0 → rbit s (tapB (f - 1) 0) n = false → let rank := fun k => rbits s (tapB (f - 1) 8) (2 * k + 1) (2 * k)
      (∀ k, k < 4 → on (rank k) → (∀ m, m < k → ¬ on (rank m)) → pinDrive s n = some ((tap s (4 * (f - 1) + rank k)).level.getLsbD n)) ∧
      ((∀ k, k < 4 → ¬ on (rank k)) → pinDrive s n = none))) ∧
  (∀ (n : Fin 48) (high : Bool) (s : State), let mode := rbits s (R.GPIO_EDGE n) 1 0
    Reaches (exec (.gpioEdge n high) s) fun t => t.balls.getLsbD n = high ∧ (∀ k, k ≠ n.val → t.balls.getLsbD k = s.balls.getLsbD k) ∧ quiet s t ∧
      (s.balls.getLsbD n ≠ high → unitRuns s 0x11 = true → mode.testBit (if high then 0 else 1) = true → rbit t R.GPIO_EVT n = true ∧
        (eicPresent s (168 + n.val / 3) = true → rbit t (R.EIC_PEND ((168 + n.val / 3) / 32)) ((168 + n.val / 3) % 32) = true)) ∧
      (s.balls.getLsbD n = high ∨ mode.testBit (if high then 0 else 1) = false → t.regs = s.regs)))

/-- R559 to R564, R573, R574: each instruction of a tap does its work and the engine goes on at the next address, at TARGET where a jump is taken, or after DELAY; a bad one halts the engine before it.

Where the spec is silent it rests on the model's choices of log entries 11 and 58. -/
def Obligations.TapInstructions : Prop :=
  (∀ (e : Fin 16) (s : State), TapAt s e 0 → Reaches (exec (.tapNop e) s) fun t =>
    TapMoved s t e (tapNext s e) ∧ tapKeeps s t e [] ∧ tapStill s t e ∧ t.grants = s.grants) ∧
  (∀ (e : Fin 16) (s : State) (c : Nat), tapRuns s e = true → (tap s e).prog = .start → tapBad s e (tapInstr s e) = c →
    (c = 1 ∨ (c ≠ 0 ∧ bits (tapInstr s e) 23 20 = 5)) → Reaches (exec (.tapSetpin e) s) fun t =>
      rbit t (tapR e 0x14) 16 = true ∧ tapHalted t e = true ∧ rbit t (tapR e 0x14) 8 = false ∧ rbits t (tapR e 0x14) 23 20 = c ∧
      tapPc t e = tapPc s e ∧ tapKeeps s t e [] ∧ tap t e = tap s e ∧ quiet s t) ∧
  (∀ (e : Fin 16) (p : BitVec 48) (s : State), TapAt s e 1 → let i := tapInstr s e
    let par := bit i 7
    let k := if par then tapIwid s e else 1
    let n := if par then bits i 13 8 / tapIwid s e else bits i 13 8
    let full := rbits s (tapR e 0x10) 4 0 + 1
    let w := if par then tapWindow s e p else tapWindow s e p / 2 ^ bits i 4 0 % 2
    let isr := (rget s (tapR e 0x18)).toNat
    let v := if bit i 6 then (isr / 2 ^ k + w * 2 ^ (32 - k)) % 2 ^ 32 else (isr * 2 ^ k + w) % 2 ^ 32
    (tapIcnt s e + k < full → 1 < n → Reaches (exec (.tapShiftIn e [p]) s) fun t => rget t (tapR e 0x18) = word v ∧ tapIcnt t e = tapIcnt s e + k ∧
      (tap t e).prog = .shift (n - 1) ∧ tapPc t e = tapPc s e ∧ tapKeeps s t e [0x18, 0x20] ∧ tapOcnt t e = tapOcnt s e ∧ tapStill s t e) ∧
    (tapIcnt s e + k < full → n = 1 → bit i 5 = false → Reaches (exec (.tapShiftIn e [p]) s) fun t => rget t (tapR e 0x18) = word v ∧
      tapIcnt t e = tapIcnt s e + k ∧ TapMoved s t e (tapNext s e) ∧ tapKeeps s t e [0x18, 0x20] ∧ tapStill s t e) ∧
    (full ≤ tapIcnt s e + k → n = 1 → grantBound s (0x60 + e.val) true = none → (tap s e).ififo.length < 8 → 0 < tapIcnt s e →
      Reaches (exec (.tapShiftIn e [p]) s) fun t => rget t (tapR e 0x18) = 0 ∧ tapIcnt t e = 0 ∧
        (tap t e).ififo = (tap s e).ififo ++ [(word v, (tap s e).first)] ∧ TapMoved s t e (tapNext s e)) ∧
    (full ≤ tapIcnt s e + k → grantBound s (0x60 + e.val) true = none → (tap s e).ififo.length = 8 → tapFlow s e = true →
      Reaches (exec (.tapShiftIn e [p]) s) fun t => rbit t (tapR e 0x14) 10 = true ∧ (tap t e).prog = .shift n ∧ tapPc t e = tapPc s e ∧
        tapKeeps s t e [] ∧ tapStill s t e)) ∧
  (∀ (e : Fin 16) (s : State), TapAt s e 2 → let i := tapInstr s e
    let sel := bits i 4 0
    let n := bits i 13 8
    bit i 7 = false → 1 < n → tapObase s e + tapOwid s e ≤ 48 →
    (tapOcnt s e ≠ 0 → Reaches (exec (.tapShiftOut e 1) s) fun t => let osr := (rget s (tapR e 0x1C)).toNat
      (tap t e).level.getLsbD (tapObase s e + sel) = osr.testBit (if bit i 6 then 0 else 31) ∧
      (∀ j, j ≠ tapObase s e + sel → (tap t e).level.getLsbD j = (tap s e).level.getLsbD j) ∧
      rget t (tapR e 0x1C) = word (if bit i 6 then osr / 2 else osr * 2 % 2 ^ 32) ∧ tapOcnt t e = tapOcnt s e - 1 ∧ tapIcnt t e = tapIcnt s e ∧
      (tap t e).prog = .shift (n - 1) ∧ tapPc t e = tapPc s e ∧ (tap t e).oe = (tap s e).oe ∧ tapKeeps s t e [0x1C, 0x20]) ∧
    (tapOcnt s e = 0 → ∀ v l, (tap s e).ofifo = v :: l → Reaches (exec (.tapShiftOut e 1) s) fun t => (tap t e).ofifo = l ∧
      tapOcnt t e = rbits s (tapR e 0x10) 12 8 ∧
      (tap t e).level.getLsbD (tapObase s e + sel) = v.getLsbD (if bit i 6 then 0 else 31)) ∧
    (tapOcnt s e = 0 → (tap s e).ofifo = [] → grantBound s (0x70 + e.val) false = none → tapFlow s e = true →
      Reaches (exec (.tapShiftOut e 1) s) fun t => rbit t (tapR e 0x14) 10 = true ∧ (tap t e).prog = .shift n ∧ tapPc t e = tapPc s e ∧ tapStill s t e)) ∧
  (∀ (e : Fin 16) (s : State), TapAt s e 3 → Reaches (exec (.tapWaitpin e) s) fun t =>
    (tap t e).prog = .wait ∧ t.regs = s.regs ∧ tapStill s t e ∧ quiet s t) ∧
  (∀ (e : Fin 16) (s : State), TapAt s e 4 → Reaches (exec (.tapWaitevt e) s) fun t =>
    (tap t e).prog = .wait ∧ t.regs = s.regs ∧ tapStill s t e ∧ quiet s t) ∧
  (∀ (e : Fin 16) (s : State), tapRuns s e = true → (tap s e).prog = .wait → let i := tapInstr s e
    (bits i 23 20 = 3 → Reaches (exec (.tapWaitMet e) s) fun t => TapMoved s t e (tapNext s e) ∧ tapKeeps s t e []) ∧
    (bits i 23 20 = 4 → bits i 13 12 = 0 → tapFlag s e (bits i 2 0) = false → exec (.tapWaitMet e) s = .next s) ∧
    (bits i 23 20 = 4 → bits i 13 12 = 0 → tapFlag s e (bits i 2 0) = true → bit i 11 = false → Reaches (exec (.tapWaitMet e) s) fun t =>
      TapMoved s t e (tapNext s e) ∧ tapFlag t e (bits i 2 0) = true) ∧
    (bits i 23 20 = 4 → bits i 13 12 = 0 → tapFlag s e (bits i 2 0) = true → bit i 11 = true → Reaches (exec (.tapWaitMet e) s) fun t =>
      tapFlag t e (bits i 2 0) = false ∧ (tap t e).prog ≠ .wait ∧ ∀ j, j < 4 → waitsClr s (e.val / 4 * 4 + j) (bits i 2 0) = true → (tap t (e.val / 4 * 4 + j)).prog ≠ .wait) ∧
    (bits i 23 20 = 4 → bits i 13 12 = 1 → ∀ v l, (tap s e).ofifo = v :: l → Reaches (exec (.tapWaitMet e) s) fun t =>
      TapMoved s t e (tapNext s e) ∧ (tap t e).ofifo = v :: l) ∧
    (bits i 23 20 = 4 → bits i 13 12 = 2 → let x := rget s (tapR e 0x30)
      (dtbNs s < x → exec (.tapWaitMet e) s = .next s) ∧
      (¬ dtbNs s < x → Reaches (exec (.tapWaitMet e) s) fun t => TapMoved s t e (tapNext s e) ∧ rget t (tapR e 0x30) = x + rget s (tapR e 0x38)))) ∧
  (∀ (e : Fin 16) (s : State), TapAt s e 5 → tapObase s e + tapOwid s e ≤ 48 → let i := tapInstr s e
    let w := fun (x : BitVec 48) (y : BitVec 48) => ∀ j, j < 48 → x.getLsbD j =
      (if tapObase s e + bits i 12 8 ≤ j ∧ j ≤ tapObase s e + bits i 12 8 + bits i 7 5 ∧ j < tapObase s e + tapOwid s e then
        bit i (j - (tapObase s e + bits i 12 8)) else y.getLsbD j)
    Reaches (exec (.tapSetpin e) s) fun t => TapMoved s t e (tapNext s e) ∧ tapKeeps s t e [] ∧
      (bit i 13 = false → w (tap t e).level (tap s e).level ∧ (tap t e).oe = (tap s e).oe) ∧
      (bit i 13 = true → w (tap t e).oe (tap s e).oe ∧ (tap t e).level = (tap s e).level)) ∧
  (∀ (e : Fin 16) (p : BitVec 48) (s : State), TapAt s e 6 → let i := tapInstr s e
    let a := bits i 10 6
    let pin := p.getLsbD (tapIbase s e + a)
    let next := fun (b : Bool) => if b then bits i 5 0 else tapNext s e
    let plain := fun (b : Bool) => Reaches (exec (.tapJumpif e p) s) fun t => TapMoved s t e (next b) ∧ tapKeeps s t e [] ∧ tapStill s t e
    let down := fun (o : Nat) => Reaches (exec (.tapJumpif e p) s) fun t => tapKeeps s t e [o] ∧ tapStill s t e ∧
      (rget s (tapR e o) = 0 → TapMoved s t e (tapNext s e) ∧ rget t (tapR e o) = 0) ∧
      (rget s (tapR e o) ≠ 0 → TapMoved s t e (bits i 5 0) ∧ rget t (tapR e o) = rget s (tapR e o) - 1)
    (bits i 13 11 = 0 → plain true) ∧ (bits i 13 11 = 1 → plain pin) ∧ (bits i 13 11 = 2 → plain !pin) ∧
    (bits i 13 11 = 3 → down 0x24) ∧ (bits i 13 11 = 4 → down 0x28) ∧
    (bits i 13 11 = 5 → grantBound s (0x70 + e.val) false = none → plain (decide ((tap s e).ofifo = []))) ∧
    (bits i 13 11 = 6 → plain (tapFlag s e a)) ∧
    (bits i 13 11 = 7 → grantBound s (0x60 + e.val) true = none → plain (decide (8 ≤ (tap s e).ififo.length)))) ∧
  (∀ (e : Fin 16) (s : State), TapAt s e 7 → let i := tapInstr s e
    let o := if bit i 13 then 0x28 else 0x24
    (bit i 12 = false → Reaches (exec (.tapCount e) s) fun t => TapMoved s t e (tapNext s e) ∧ rget t (tapR e o) = word (bits i 11 0) ∧
      tapKeeps s t e [o] ∧ tapStill s t e) ∧
    (bit i 12 = true → ∀ v l, (tap s e).ofifo = v :: l → Reaches (exec (.tapCount e) s) fun t => TapMoved s t e (tapNext s e) ∧
      rget t (tapR e o) = v ∧ (tap t e).ofifo = l ∧ tapKeeps s t e [o])) ∧
  (∀ (e : Fin 16) (s : State), TapAt s e 8 → let i := tapInstr s e
    (bit i 11 = false → Reaches (exec (.tapEmit e) s) fun t => TapMoved s t e (tapNext s e) ∧ tapKeeps s t e [] ∧ tapStill s t e ∧
      (bit i 12 = true → tapFlag t e (bits i 2 0) = true) ∧ (bit i 12 = false → ∀ f, f < 8 → tapFlag t e f = tapFlag s e f) ∧
      (bit i 13 = true → eicPresent s (152 + e.val) = true → rbit t (R.EIC_PEND ((152 + e.val) / 32)) ((152 + e.val) % 32) = true)) ∧
    (bit i 11 = true → grantBound s (0x60 + e.val) true = none → (tap s e).ififo.length < 8 → Reaches (exec (.tapEmit e) s) fun t =>
      TapMoved s t e (tapNext s e) ∧ (tap t e).ififo = (tap s e).ififo ++ [(rget s (tapR e 0x24), dtbNs s)] ∧ tapKeeps s t e [])) ∧
  (∀ (e : Fin 16) (s : State) (next : Nat), tapRuns s e = true → (tap s e).prog = .delay next → next < 64 → Reaches (exec (.tapDelayExpiry e) s) fun t =>
    tapPc t e = next ∧ (tap t e).prog = .start ∧ tapKeeps s t e [] ∧ tapStill s t e ∧ quiet s t) ∧
  (∀ (e : Fin 16) (s : State), tapRuns s e = true → rbit s (tapR e 0x14) 10 = true → let i := tapInstr s e
    (∀ v l, bits i 23 20 = 7 → bit i 12 = true → (tap s e).ofifo = v :: l → Reaches (exec (.tapStallEnd e) s) fun t => TapMoved s t e (tapNext s e) ∧
      rget t (tapR e (if bit i 13 then 0x28 else 0x24)) = v ∧ (tap t e).ofifo = l) ∧
    (∀ v l, bits i 23 20 = 2 → (tap s e).ofifo = v :: l → Reaches (exec (.tapStallEnd e) s) fun t => rbit t (tapR e 0x14) 10 = false ∧
      (tap t e) = tap s e ∧ tapPc t e = tapPc s e))

/-! HCP -/

/-- R578 to R580, R593, R594: the CRC-16 of the example; a request while a command or the boot runs is answered BUSY and not carried out; a held response is discarded by a new request; bad frames are counted and answered; a command's end
holds its response and keeps its code and status; a response is read once.

R582, R583, R585, R595: OPEN gives a challenge and an ephemeral key, and is refused while a session is in use; a proof that holds opens a session with keys derived by label; a refused one withdraws the challenge, is counted, and the eighth
locks; CLOSE, the idle timeout and HCP_CFG.CLOSE close it.

Where the spec is silent it rests on the model's choices of log entries 9, 37, 38 and 39. -/
def Obligations.HcpFramesAndSessions : Prop :=
  (
  (crc16 [0x31, 0x32, 0x33, 0x34, 0x35, 0x36, 0x37, 0x38, 0x39] = 0x29B1 ∧ crc16 [0x01, 0x00, 0x00] = 0xFBAC) ∧
  (∀ (s : State) (c start : Nat) (b : List Byte), hcpLive s = true → (hcp s).held = none → hcpRunning s = some (c, start) →
    let busy := fun (i : Instr) (cmd : Nat) => Reaches (exec i s) fun t => (hcp t).run = (hcp s).run ∧ t.regs = s.regs ∧ quiet s t ∧
      ∃ p, p ≤ 100 ∧ (hcp t).held = some (hcpFrame (cmd + 0x80) (leBytes 1 1 ++ leBytes 1 c ++ leBytes 1 p ++ leBytes 2 (((dtbNs s).toNat - start) / 1000000)))
    busy (.hcpIdent b) 0x01 ∧ busy (.hcpStatus b) 0x02 ∧ busy (.hcpMode b) 0x04 ∧ busy (.hcpWrite b) 0x0E ∧ busy (.sessionOpen b) 0x0C) ∧
  (∀ s : State, gateIsOpen s = false → isKiln s = false → hcpRunning s = some (0xF0, 0)) ∧
  (∀ (s : State) (l : List Byte), hcpLive s = true → (hcp s).held = some l → hcpRunning s = none → Reaches (exec (.hcpIdent []) s) fun t =>
    rbit t R.HCP_STAT 7 = true ∧ (hcp t).held = none ∧ (∃ x, (hcp t).run = some x ∧ x.cmd = 1) ∧ quiet s t) ∧
  (∀ (b : List Byte) (s : State), hcpLive s = true → (hcp s).held = none → fieldAt b 0 1 = 0xA5 → let c := fieldAt b 1 1
    let n := fieldAt b 2 2
    (8192 < n → hcpRunning s = none → Reaches (exec (.hcpUnknownFrame b) s) fun t => (hcp t).held = some (hcpFrame ((c ||| 0x80) % 256) [3]) ∧ t.regs = s.regs ∧ quiet s t) ∧
    (n ≤ 8192 → b.length = 6 + n → crc16 (sub b 1 (3 + n)) ≠ fieldAt b (4 + n) 2 → Reaches (exec (.hcpUnknownFrame b) s) fun t =>
      (hcp t).held = some (hcpFrame 0xFF [2]) ∧ counted s t R.HCP_CRCERR ∧ rbit t R.HCP_STAT 24 = true ∧ (hcp t).run = (hcp s).run ∧ quiet s t) ∧
    (n ≤ 8192 → b.length = 6 + n → crc16 (sub b 1 (3 + n)) = fieldAt b (4 + n) 2 → c = 0 ∨ 15 < c → hcpRunning s = none →
      Reaches (exec (.hcpUnknownFrame b) s) fun t => (hcp t).held = some (hcpFrame ((c ||| 0x80) % 256) [4]) ∧ t.regs = s.regs ∧ quiet s t)) ∧
  (∀ (x : Bool) (s : State), hcpLive s = true → Reaches (exec (.hcpFrameAbort x) s) fun t =>
    counted s t R.HCP_FRAMEERR ∧ rbit t R.HCP_STAT 25 = true ∧ (hcp t) = hcp s ∧ quiet s t) ∧
  (∀ (s : State) (l : List Byte), ((hcp s).held = none → exec .hcpResponseRead s = .next s) ∧
    ((hcp s).held = some l → Reaches (exec .hcpResponseRead s) fun t => mget t.wire 0x1E00 [] = l.map (·.setWidth 64) ∧ (hcp t).held = none ∧
      t.regs = s.regs ∧ quiet s t)) ∧
  (∀ (ok : Bool) (s : State) (x : HcpRun), (hcp s).run = some x → x.waits = 0 → x.cx = none → x.cmd < 128 →
    (x.cmd ≠ 8 ∨ x.status ≠ 0 ∨ ok = true → Reaches (exec (.hcpCommandDone ok) s) fun t => (hcp t).run = none ∧ rbit t R.HCP_STAT 5 = false ∧
      rbits t R.HCP_STAT 15 8 = x.cmd ∧ rbits t R.HCP_STAT 23 16 = x.status.toNat ∧
      (hcp t).held = some (hcpFrame (x.cmd + 0x80) (hcpResponse s x)) ∧ quiet s t) ∧
    (x.cmd = 8 → x.status = 0 → ok = false → Reaches (exec (.hcpCommandDone ok) s) fun t => (hcp t).run = none ∧ rbits t R.HCP_STAT 23 16 = 0x0E ∧ quiet s t)) ∧
  (∀ (s : State) (x : HcpRun), (x.seq = none → x.status ≠ 0 → x.status ≠ 8 → x.status ≠ 12 → hcpResponse s x = [x.status]) ∧
    (∀ q, x.seq = some q → x.status = 0 → let p := leBytes 4 q.toNat ++ x.body
      hcpResponse s x = [0] ++ p ++ aesCmac (hcp s).rspKey (leBytes 1 (x.cmd + 0x80) ++ leBytes 2 (17 + p.length) ++ [0] ++ p)))) ∧
  (
  (∀ (b : List Byte) (s : State), hcpFree s → fieldAt b 0 1 = 1 → b.length = 1 →
    (rbit s R.HCP_CFG 0 = true → Reaches (exec (.sessionOpen b) s) fun t => HcpAnswer t 0x0C none 15 [] ∧ quiet s t) ∧
    (rbit s R.HCP_CFG 0 = false → rbit s R.HCP_STAT 6 = true → Reaches (exec (.sessionOpen b) s) fun t => HcpAnswer t 0x0C none 6 [] ∧ quiet s t) ∧
    (rbit s R.HCP_CFG 0 = false → rbit s R.HCP_STAT 6 = false → hcpOpen s = true → (dtbNs s).toNat ≤ (hcp s).used + rbits s R.HCP_CFG 15 8 * 1000000000 →
      Reaches (exec (.sessionOpen b) s) fun t => HcpAnswer t 0x0C none 10 [] ∧ hcpOpen t = true ∧ (hcp t).reqKey = (hcp s).reqKey ∧ quiet s t) ∧
    (∀ u v, rbit s R.HCP_CFG 0 = false → rbit s R.HCP_STAT 6 = false → hcpOpen s = false → cxClaim s hcpBare = (u, v) → v.toNat % 16 ≠ 15 → drbgReady u = true →
      Reaches (exec (.sessionOpen b) s) fun t => hcpOpen t = false ∧ quiet s t ∧ ∃ c p, c.length = 32 ∧ p.length = 97 ∧ HcpAnswer t 0x0C none 0 (c ++ p) ∧
        (hcp t).challenge = some c ∧ (hcp t).ephPub = p ∧ p = sub (Config.ecPublic 384 (hcp t).eph) 0 97)) ∧
  (∀ (b : List Byte) (s u : State) (v : Word), hcpFree s → rbit s R.HCP_CFG 0 = false → rbit s R.HCP_STAT 6 = false → b.length = 5566 → fieldAt b 0 1 = 2 →
    cxClaim s hcpBare = (u, v) → v.toNat % 16 ≠ 15 →
    (∀ chal z, (hcp u).challenge = some chal → hcpProofOk u b chal = true → Config.ecdh 384 (hcp u).eph (sub b 2064 97) = some z →
      Reaches (exec (.sessionProve b) s) fun t => HcpAnswer t 0x0C none 0 [] ∧ hcpOpen t = true ∧ rbit t R.HCP_STAT 4 = hcpSecure s ∧
        (hcp t).challenge = none ∧ (hcp t).seq = 0 ∧ (hcp t).reqKey = kdf384 z (ascii "HCPREQ") chal 32 ∧
        (hcp t).rspKey = kdf384 z (ascii "HCPRSP") chal 32 ∧ quiet s t) ∧
    ((hcp u).challenge = none ∨ (∃ chal, (hcp u).challenge = some chal ∧ hcpProofOk u b chal = false) → Reaches (exec (.sessionProve b) s) fun t =>
      HcpAnswer t 0x0C none 6 [] ∧ hcpOpen t = hcpOpen s ∧ (hcp t).challenge = none ∧ counted s t R.HCP_AUTHERR ∧ t.hcpRefused = s.hcpRefused + 1 ∧
      (8 ≤ s.hcpRefused + 1 → rbit t R.HCP_STAT 6 = true) ∧ (s.hcpRefused + 1 < 8 → rbit t R.HCP_STAT 6 = false) ∧ quiet s t)) ∧
  (∀ (b : List Byte) (s : State), hcpFree s → rbit s R.HCP_CFG 0 = false → rbit s R.HCP_STAT 6 = false → b.length = 1 → fieldAt b 0 1 = 3 →
    (hcpOpen s = true → Reaches (exec (.sessionClose b) s) fun t => HcpAnswer t 0x0C none 0 [] ∧ hcpOpen t = false ∧ (hcp t).reqKey = [] ∧ (hcp t).rspKey = [] ∧
      t.mem = s.mem ∧ t.grants = s.grants) ∧
    (hcpOpen s = false → Reaches (exec (.sessionClose b) s) fun t => HcpAnswer t 0x0C none 5 [] ∧ quiet s t)) ∧
  (∀ s : State, (hcpOpen s = false → exec .hcpSessionIdleTimeout s = .next s) ∧
    (hcpOpen s = true → Reaches (exec .hcpSessionIdleTimeout s) fun t => hcpOpen t = false ∧ (hcp t).reqKey = [] ∧ (hcp t).rspKey = [] ∧
      t.mem = s.mem ∧ t.grants = s.grants)) ∧
  (∀ (q : RegAcc) (s : State), WriteOk s q R.HCP_CFG → Reaches (exec (.hcpCfgClose q) s) fun t => rbit t R.HCP_CFG 1 = false ∧
    rbit t R.HCP_CFG 0 = bit q.wr.v 0 ∧ rbits t R.HCP_CFG 15 8 = (if q.wr.bits 15 8 = 0 then rbits s R.HCP_CFG 15 8 else q.wr.bits 15 8) ∧
    (bit q.wr.v 1 = true ∨ bit q.wr.v 0 = true → hcpOpen t = false) ∧ (bit q.wr.v 1 = false → bit q.wr.v 0 = false → hcpOpen t = hcpOpen s) ∧ t.mem = s.mem))

/-- R580, R584, R586 to R589, R592: each command of R586, in a session where it needs one, runs with the answer of its row; a request with a wrong SEQ or TAG is answered AUTH and carried out in no part; READ and WRITE act as an access by the session,
and a refusal is DENIED with its cause.

R54 to R62, R590, R591: PROVISION and LOAD act in KILN only; each sub-command has its effect where its rule allows it and is DENIED else; a verified vendor image runs on CC0 at its entry, and a failure answers with its reason.

Where the spec is silent it rests on the model's choices of log entries 38, 39, 60 and 61. -/
def Obligations.HcpCommands : Prop :=
  (
  (∀ s : State, hcpFree s → Reaches (exec (.hcpIdent []) s) fun t => quiet s t ∧
    HcpAnswer t 0x01 none 0 (leBytes 4 (syscon_id s) ++ deviceId s ++ leBytes 1 (lifecycle s) ++ [1] ++ leBytes 4 (caps s 0) ++ leBytes 4 (caps s 1))) ∧
  (∀ s : State, hcpFree s → Reaches (exec (.hcpStatus []) s) fun t => quiet s t ∧ ∃ body, HcpAnswer t 0x02 none 0 body ∧ body.length = 14 ∧
    fieldAt body 0 4 = (rget s R.AON_BOOT_STATUS).toNat % 2 ^ 32 ∧ fieldAt body 4 1 = pccMode s % 256 ∧
    fieldAt body 6 4 = (rget s R.STEEP_RETIRED).toNat % 2 ^ 32 ∧ fieldAt body 10 4 = (rget s R.HCP_STAT).toNat % 2 ^ 32) ∧
  (∀ (b : List Byte) (s : State), hcpFree s → b ≠ [] → Reaches (exec (.hcpIdent b) s) fun t => HcpAnswer t 0x01 none 3 [] ∧ quiet s t) ∧
  (∀ (b : List Byte) (s : State), hcpFree s → b.length = 4 → let n := fieldAt b 3 1
    let x := logTake s 0 n (lget s 0 0 - (lget s 0 0 + 65536 - fieldAt b 1 2) % 65536)
    (fieldAt b 0 1 = 0 → 1 ≤ n → n ≤ 128 → Reaches (exec (.hcpLogread b) s) fun t => HcpAnswer t 0x03 none 0 (x.1 ++ leBytes 2 x.2) ∧ quiet s t) ∧
    (fieldAt b 0 1 = 0 → n = 0 ∨ 128 < n → Reaches (exec (.hcpLogread b) s) fun t => HcpAnswer t 0x03 none 9 [] ∧ quiet s t) ∧
    (fieldAt b 0 1 ≠ 0 → rbit s R.HCP_CFG 0 = false → Reaches (exec (.hcpLogread b) s) fun t => HcpAnswer t 0x03 none 5 [] ∧ quiet s t)) ∧
  (∀ (b : List Byte) (s u v : State) (w : Word) (k r : List Byte), hcpFree s → b.length = 32 → cxClaim s hcpBare = (u, w) → w.toNat % 16 ≠ 15 → attestKey u = some k →
    drbgReady u = true → drbgGen u 48 = (r, v) → Reaches (exec (.hcpAttest b) s) fun t => quiet s t ∧
      HcpAnswer t 0x07 none 0 (attestReport v b ++ sub (Config.ecdsaSign 384 k (sha384 (attestReport v b)) r) 0 96)) ∧
  (∀ (b : List Byte) (s : State), hcpFree s → rbit s R.HCP_CFG 0 = false → let x := fun (i : List Byte → Instr) (cmd : Nat) =>
    (hcpOpen s = false → Reaches (exec (i b) s) fun t => HcpAnswer t cmd none 5 [] ∧ quiet s t) ∧
    (hcpOpen s = true → b.length = 21 → (fieldAt b 0 4 ≠ (hcp s).seq + 1 ∨
        aesCmac (hcp s).reqKey (leBytes 1 cmd ++ leBytes 2 21 ++ b.take 5) ≠ b.drop 5) → Reaches (exec (i b) s) fun t =>
      HcpAnswer t cmd none 6 [] ∧ counted s t R.HCP_AUTHERR ∧ (hcp t).seq = (hcp s).seq ∧ t.steep = s.steep ∧ t.pcc = s.pcc ∧ quiet s t)
    x .hcpMode 0x04 ∧ x .hcpSelftest 0x05 ∧ x .hcpReset 0x0B) ∧
  (∀ (b : List Byte) (s : State), HcpAuth s 0x04 b → b.length = 21 → let u := hcpTaken s b
    let m := fieldAt b 4 1
    let v := modeRequest u (hcpSecure s) false m
    (4 < m → Reaches (exec (.hcpMode b) s) fun t => HcpAnswer t 0x04 (hcpSeq b) 9 [] ∧ quiet s t) ∧
    (m ≤ 4 → Reaches (exec (.hcpMode b) s) fun t => HcpAnswer t 0x04 (hcpSeq b) 0 (leBytes 1 (if hcpSecure s then v.pcc.ansS else v.pcc.ansN)) ∧
      t.mem = v.mem ∧ t.cores = v.cores ∧ (hcp t).seq = fieldAt b 0 4)) ∧
  (∀ (b : List Byte) (s : State), HcpAuth s 0x05 b → b.length = 21 → fieldAt b 4 1 ≠ 0xFF → let p := fieldAt b 4 1
    (hcpSecure s = false → Reaches (exec (.hcpSelftest b) s) fun t => HcpAnswer t 0x05 (hcpSeq b) 8 [4] ∧ quiet s t) ∧
    (hcpSecure s = true → (aliveTuns s).contains p = false → Reaches (exec (.hcpSelftest b) s) fun t => HcpAnswer t 0x05 (hcpSeq b) 9 [] ∧ quiet s t) ∧
    (hcpSecure s = true → (aliveTuns s).contains p = true → s.steep.direct.isSome = true → Reaches (exec (.hcpSelftest b) s) fun t =>
      HcpAnswer t 0x05 (hcpSeq b) 11 [] ∧ t.steep = s.steep ∧ quiet s t) ∧
    (hcpSecure s = true → (aliveTuns s).contains p = true → s.steep.direct = none → Reaches (exec (.hcpSelftest b) s) fun t =>
      t.steep.direct = some p ∧ (∃ x, (hcp t).run = some x ∧ x.cmd = 5 ∧ x.waits = 3 ∧ x.n = p) ∧ quiet s t)) ∧
  (∀ (b : List Byte) (s : State), HcpAuth s 0x06 b → let u := hcpTaken s b
    let body := hcpBody b
    let n := fieldAt body 0 1
    let k := fieldAt body 1 1
    n < 32 → 1 ≤ k → k ≤ 16 → b.length = 22 + 64 * k →
    (∀ e, unitCheck u (hcpReq u) (R.ORDER_QDOOR n) 4 true = some e → Reaches (exec (.hcpOrder b) s) fun t =>
      HcpAnswer t 0x06 (hcpSeq b) 8 (leBytes 1 (busErrNum e)) ∧ t.mem = s.mem ∧ t.doors = s.doors) ∧
    (∀ v w got g, unitCheck u (hcpReq u) (R.ORDER_QDOOR n) 4 true = none → (∀ m, m < 64 → streamLive u m = true → strQueue u m ≠ n) →
      hcpOrderWrite u (hcpReq u) n k (body.drop 2) = (v, none) → doorNow v (hcpReq u) n k = (w, got, g) → Reaches (exec (.hcpOrder b) s) fun t =>
        HcpAnswer t 0x06 (hcpSeq b) 0 (leBytes 2 got ++ leBytes 8 g) ∧ t.mem = w.mem ∧ t.journal = w.journal)) ∧
  (∀ (b : List Byte) (s : State), HcpAuth s 0x08 b → let u := hcpTaken s b
    let body := hcpBody b
    let o := fieldAt body 0 4
    25 ≤ b.length → b.length ≤ 25 + 4096 → o + (b.length - 25) ≤ 0x10000000 → fieldAt body 4 1 = 0 → ∀ v e, memWrite u (hcpReq u) (0x60000000 + o) (body.drop 5) = (v, e) →
      Reaches (exec (.hcpFlashwrite b) s) fun t => t.mem = v.mem ∧
        (e = none → HcpAnswer t 0x08 (hcpSeq b) 0 []) ∧ (∀ x, e = some x → HcpAnswer t 0x08 (hcpSeq b) 8 (leBytes 1 (busErrNum x)))) ∧
  (∀ (b : List Byte) (s : State), HcpAuth s 0x09 b → let body := hcpBody b
    let o := fieldAt body 0 4
    let l := body.drop 5
    25 ≤ b.length → (hcpSecure s = false → Reaches (exec (.hcpKeevewrite b) s) fun t => HcpAnswer t 0x09 (hcpSeq b) 8 (leBytes 1 KR.DENIED) ∧ t.keeve = s.keeve ∧ quiet s t) ∧
    (hcpSecure s = true → s.keeve.running = none → fieldAt body 4 1 = 1 → 8 ≤ l.length → l.length ≤ 256 → l.length % 8 = 0 → o % 8 = 0 → 0xC000 ≤ o →
      o + l.length ≤ 0x40000 → (∀ i, i < l.length → mget s.keeve.data (o + i) 0xFF = 0xFF) → Reaches (exec (.hcpKeevewrite b) s) fun t =>
        t.keeve.running = some (.program o l) ∧ (∃ x, (hcp t).run = some x ∧ x.cmd = 9 ∧ x.waits = 2) ∧ quiet s t) ∧
    (hcpSecure s = true → s.keeve.running = none → fieldAt body 4 1 = 2 → b.length = 25 → 0xC000 ≤ o → o < 0x40000 → Reaches (exec (.hcpKeevewrite b) s) fun t =>
      t.keeve.running = some (.erase (o / 4096)) ∧ (∃ x, (hcp t).run = some x ∧ x.cmd = 9 ∧ x.waits = 2) ∧ quiet s t)) ∧
  (∀ (b : List Byte) (s : State), HcpAuth s 0x0B b → b.length = 21 → let k := fieldAt b 4 1
    (k = 1 ∨ k = 2 → Reaches (exec (.hcpReset b) s) fun t => (hcp t).reset = some (decide (k = 2)) ∧ (hcp t).resetRead = false ∧
      HcpAnswer t 0x0B (hcpSeq b) 0 [] ∧ quiet s t) ∧
    (k = 0 ∨ 2 < k → Reaches (exec (.hcpReset b) s) fun t => (hcp t).reset = (hcp s).reset ∧ HcpAnswer t 0x0B (hcpSeq b) 9 [] ∧ quiet s t)) ∧
  (∀ s : State, ((hcp s).resetRead = false → exec .hcpResetStart s = .next s) ∧
    ((hcp s).resetRead = true → (hcp s).reset = some true → Reaches (exec .hcpResetStart s) fun t => ColdDone s t Cause.HCP) ∧
    (s.boot.phase = .running → (hcp s).resetRead = true → (hcp s).reset = some false → Reaches (exec .hcpResetStart s) fun t => WarmDone s t Cause.HCP)) ∧
  (∀ (b : List Byte) (s : State), HcpAuth s 0x0D b → b.length = 29 → let u := hcpTaken s b
    let a := fieldAt b 4 8
    let n := fieldAt b 12 1
    (n ≠ 4 ∧ n ≠ 8 → Reaches (exec (.hcpRead b) s) fun t => HcpAnswer t 0x0D (hcpSeq b) 9 [] ∧ quiet s t) ∧
    (n = 4 ∨ n = 8 → a < 2 ^ 40 → a % n = 0 → remNeeds u (hcpReq u) a n false = [] → ∀ v,
      (∀ l, busRead u (hcpReq u) a n = (v, .inr l) → Reaches (exec (.hcpRead b) s) fun t => HcpAnswer t 0x0D (hcpSeq b) 0 (sub l 0 n ++ [0]) ∧ t.mem = v.mem ∧ t.cores = v.cores) ∧
      (∀ e, busRead u (hcpReq u) a n = (v, .inl e) → Reaches (exec (.hcpRead b) s) fun t => HcpAnswer t 0x0D (hcpSeq b) 8 (leBytes 1 (busErrNum e)) ∧ t.mem = v.mem))) ∧
  (∀ (b : List Byte) (s : State), HcpAuth s 0x0E b → let u := hcpTaken s b
    let a := fieldAt b 4 8
    let n := fieldAt b 12 1
    n = 4 ∨ n = 8 → b.length = 29 + n → a < 2 ^ 40 → a % n = 0 → remNeeds u (hcpReq u) a n true = [] → ∀ v e, busWrite u (hcpReq u) a (sub b 13 n) = (v, e) →
      Reaches (exec (.hcpWrite b) s) fun t => t.mem = v.mem ∧ t.cores = v.cores ∧
        (e = none → HcpAnswer t 0x0E (hcpSeq b) 0 [0]) ∧ (∀ x, e = some x → HcpAnswer t 0x0E (hcpSeq b) 8 (leBytes 1 (busErrNum x))))) ∧
  (
  (∀ (b : List Byte) (s : State), hcpFree s → isKiln s = false → let x := fun (i : Instr) (cmd : Nat) => Reaches (exec i s) fun t => HcpAnswer t cmd none 7 [] ∧ quiet s t ∧ t.otp = s.otp
    x (.provisionChallenge b) 0x0A ∧ x (.provisionToken b) 0x0A ∧ x (.provisionLifecycle b) 0x0A ∧ x (.loadChunk b) 0x0F ∧ x (.loadExec b) 0x0F) ∧
  (∀ s : State, hcpFree s → isKiln s = true → Reaches (exec (.provisionChallenge [1]) s) fun t =>
    HcpAnswer t 0x0A none 0 ([0] ++ dbgChallengeBytes t) ∧ t.dbg.valid = true ∧ rbits t R.DEBUG_STATUS 3 2 = 0 ∧ quiet s t) ∧
  (∀ (b : List Byte) (s : State), hcpFree s → isKiln s = true → fieldAt b 0 1 = 2 → 1 ≤ b.length → b.length ≤ 8192 →
    (rbit s R.DEBUG_STATUS 8 = true → Reaches (exec (.provisionToken b) s) fun t => HcpAnswer t 0x0A none 8 [1] ∧ t.dbg = s.dbg ∧ quiet s t) ∧
    (rbit s R.DEBUG_STATUS 8 = false → let u := (List.range 1024).foldl (fun s i => rset s (R.DEBUG_TOKEN i) (word (fieldAt b (1 + 8 * i) 8))) s
      let v := { u with dbg := { u.dbg with busy := false } }
      tokenOk v (dbgToken v) = true → s.dbg.valid = true → Reaches (exec (.provisionToken b) s) fun t =>
        rbit t R.DEBUG_STATUS (1 + fieldAt (dbgToken v) 4 1) = true ∧ quiet s t ∧ (∃ x, (hcp t).run = some x ∧ x.cmd = 0x0A))) ∧
  (∀ (b : List Byte) (s : State), hcpFree s → isKiln s = true → fieldAt b 0 1 = 3 → b.length = 2 → let nx := fieldAt b 1 1
    (lifecycleOk s nx = false → Reaches (exec (.provisionLifecycle b) s) fun t => HcpAnswer t 0x0A none 8 [1] ∧ t.otp = s.otp ∧ quiet s t) ∧
    (lifecycleOk s nx = true → Reaches (exec (.provisionLifecycle b) s) fun t => HcpAnswer t 0x0A none 0 [0] ∧
      t.otp = { s.otp with lifecycle := s.otp.lifecycle ||| (1#4 <<< (nx - 1)) } ∧ t.dbg.valid = false ∧ rbits t R.DEBUG_STATUS 1 0 = 0 ∧
      (nx = 4 → t.keeve.licences = [] ∧ t.copper.attestErased = true) ∧ quiet s t)) ∧
  (∀ (b : List Byte) (s : State), hcpFree s → isKiln s = true → fieldAt b 0 1 = 4 → b.length = 50 → let k := fieldAt b 1 1
    k < 4 → (rootWriteOk s k = false → Reaches (exec (.provisionRoothash b) s) fun t => HcpAnswer t 0x0A none 8 [1] ∧ t.keeve = s.keeve ∧ quiet s t) ∧
    (rootWriteOk s k = true → s.keeve.running = none → Reaches (exec (.provisionRoothash b) s) fun t => t.keeve.running = some (.root k (sub b 2 48)) ∧
      (∃ x, (hcp t).run = some x ∧ x.waits = 2) ∧ quiet s t)) ∧
  (∀ (b : List Byte) (s : State), hcpFree s → isKiln s = true → fieldAt b 0 1 = 5 → b.length = 13 → s.keeve.running = none → Reaches (exec (.provisionPolicy b) s) fun t =>
    t.keeve.running = some (.policy (word (fieldAt b 1 8)) (fieldAt b 9 4)) ∧ (∃ x, (hcp t).run = some x ∧ x.waits = 2) ∧ quiet s t) ∧
  (∀ (b : List Byte) (s : State), hcpFree s → isKiln s = true → fieldAt b 0 1 = 6 → 33 ≤ b.length →
    (1 < lifecycle s → Reaches (exec (.provisionVendor b) s) fun t => HcpAnswer t 0x0A none 8 [1] ∧ t.keeve = s.keeve ∧ quiet s t) ∧
    (lifecycle s ≤ 1 → s.keeve.running = none → Reaches (exec (.provisionVendor b) s) fun t =>
      t.keeve.running = some (.vendor (sub b 1 32) (b.drop 33)) ∧ (∃ x, (hcp t).run = some x ∧ x.waits = 2) ∧ quiet s t)) ∧
  (∀ (b : List Byte) (s : State), hcpFree s → isKiln s = true → fieldAt b 0 1 = 7 → 3 ≤ b.length →
    (fieldAt b 1 2 ∉ s.keeve.lost → Reaches (exec (.provisionRepair b) s) fun t => HcpAnswer t 0x0A none 8 [1] ∧ t.keeve = s.keeve ∧ quiet s t) ∧
    (∀ k, repairReq s b = some k → s.keeve.running = none → Reaches (exec (.provisionRepair b) s) fun t => t.keeve.running = some k ∧
      (∃ x, (hcp t).run = some x ∧ x.waits = 2) ∧ quiet s t)) ∧
  (∀ (b : List Byte) (s : State), hcpFree s → isKiln s = true → rbits s R.AON_BOOT_STATUS 1 0 = 2 → fieldAt b 0 1 = 1 → 5 ≤ b.length → b.length ≤ 5 + 4096 → let o := fieldAt b 1 4
    (0x100000 < o + (b.length - 5) → Reaches (exec (.loadChunk b) s) fun t => HcpAnswer t 0x0F none 9 [] ∧ quiet s t) ∧
    (o + (b.length - 5) ≤ 0x100000 → Reaches (exec (.loadChunk b) s) fun t => HcpAnswer t 0x0F none 0 [] ∧ t.regs = (rputb s R.HCP_STAT 5 true).regs ∧
      (∀ i, i < b.length - 5 → readByte t (0x10000000 + o + i) = b.getD (5 + i) 0) ∧
      (∀ a, a < 0x10000000 + o ∨ 0x10000000 + o + (b.length - 5) ≤ a → readByte t a = readByte s a))) ∧
  (∀ s : State, hcpFree s → isKiln s = true → rbits s R.AON_BOOT_STATUS 1 0 = 2 → let h := readBytes s 0x10000000 0x1600
    let c := loadCheck s h (readBytes s 0x10001600 (if fieldAt h 8 4 ≤ 0x80000 then fieldAt h 8 4 else 0))
    (c ≠ 0 → Reaches (exec (.loadExec [2]) s) fun t => HcpAnswer t 0x0F none 0 (leBytes 1 c) ∧ isKiln t = true ∧ quiet s t) ∧
    (c = 0 → Reaches (exec (.loadExec [2]) s) fun t => HcpAnswer t 0x0F none 0 [0] ∧ rbits t R.PART_PHASE 1 0 = 1 ∧ rbit t R.SYSCON_CC_RELEASE 0 = true ∧
      (coreOf t 0).phase = .running ∧ (coreOf t 0).pc = fieldAt h 0x18 8 ∧ measBytes t 0 = sha384 (measBytes s 0 ++ headerDigest h) ∧ t.mem = s.mem)))

/-! PCC and the wake block -/

/-- R596 to R603, R605, R608, R613: a mode request is answered with the first code of R598 whose condition holds, kept for its world, and starts its transition only on DONE; a transition ends in its mode; CONDITION powers the tuns off and
the return restarts them; an EIC request ends REST.

R606, R607, R614: a gate request of a gateable unit is REFUSED, STREAMS_LIVE, DEFERRED (normal world, secure unit, off) or DONE with its action; only a secure GRANT carries a deferred one out; power on gives cold-reset values; a trim
waits in its shadow until it applies.

R609 to R611, R674, R692: an enabled wake source is recorded from the latch of AON_WAKECFG on; SOC_PWR_EN rises where a wake is due, has waited its time, and VDD_SOC has discharged; LPDDR keeps its contents in self-refresh; the
oscillator fails over and returns.

Where the spec is silent it rests on the model's choices of log entries 11, 44, 65 and 66. -/
def Obligations.PowerControl : Prop :=
  (
  (∀ (s : State) (m : Bool) (t : Nat), rbit s R.PCC_STAT 13 = false ∨ t ≠ 0 → let deep := t = 3 ∨ t = 4
    (s.pcc.target ≠ none → modeAnswer s m t = 7) ∧
    (s.pcc.target = none → 5 ≤ t ∨ modeAllowed s t = false → modeAnswer s m t = 3) ∧
    (s.pcc.target = none → t < 5 → modeAllowed s t = true → deep → m = false → rbit s R.PCC_CONSENT (t - 3) = false → modeAnswer s m t = 4) ∧
    (s.pcc.target = none → t < 5 → modeAllowed s t = true → deep → m = true ∨ rbit s R.PCC_CONSENT (t - 3) = true →
      (keepStat s ≠ 0 → modeAnswer s m t = 2) ∧ (keepStat s = 0 → anyStreamLive s = true → modeAnswer s m t = 5) ∧
      (keepStat s = 0 → anyStreamLive s = false → t = 4 → s.journal ≠ [] → modeAnswer s m t = 6) ∧
      (keepStat s = 0 → anyStreamLive s = false → t = 3 ∨ s.journal = [] → modeAnswer s m t = 0)) ∧
    (s.pcc.target = none → t = 2 → modeAllowed s t = true → modeAnswer s m t = if anyStreamLive s then 5 else 0) ∧
    (s.pcc.target = none → t ≤ 1 → modeAllowed s t = true → modeAnswer s m t = 0)) ∧
  (∀ (s : State) (t : Nat), (modeAllowed s t = true ↔ (pccMode s ≤ 1 ∧ t ≤ 4 ∧ t ≠ pccMode s) ∨ (pccMode s = 2 ∧ t = rbits s R.PCC_STAT 10 8) ∨
    (pccMode s = 3 ∧ (t ≤ 1 ∨ t = 4)))) ∧
  (
    let asked := fun (i : RegAcc → Instr) => ∀ (q : RegAcc) (s : State), WriteOk s q R.PCC_MODE → let m := q.wr.bits 2 0
      let r := reqOf s q.who
      let a := modeAnswer s r.machine m
      Reaches (exec (i q) s) fun t => quiet s t ∧
        (r.world = .secure → t.pcc.ansS = a ∧ t.pcc.ansN = s.pcc.ansN) ∧ (r.world = .normal → t.pcc.ansN = a ∧ t.pcc.ansS = s.pcc.ansS) ∧
        (a ≠ 0 → t.pcc.target = s.pcc.target ∧ rget t R.PCC_STAT = rget s R.PCC_STAT) ∧
        (a = 0 → rbit s R.PCC_STAT 13 = false ∨ m ≠ 0 → t.pcc.target = some m ∧ rbit t R.PCC_STAT 12 = true ∧ pccMode t = pccMode s ∧
          (m ≤ 1 → rbits t R.PCC_STAT 6 4 = m) ∧ (m = 2 → rbits t R.PCC_STAT 10 8 = pccMode s) ∧
          (m = 4 → t.boot.wakeCfg = (rget s R.AON_WAKECFG).setWidth 10)) ∧
        (a = 0 → rbit s R.PCC_STAT 13 = true → m = 0 → pccMode s = 1 → t.pcc.target = s.pcc.target ∧ rbits t R.PCC_STAT 6 4 = 0 ∧ pccMode t = 1)
    asked .modeBoil ∧ asked .modeMash ∧ asked .modeRest ∧ asked .modeCondition ∧ asked .modeDormant) ∧
  (∀ (s : State) (m : Nat), s.pcc.target = some m → (modeReady s m = false → exec .modeTransitionDone s = .next s) ∧
    (modeReady s m = true → m < 8 → Reaches (exec .modeTransitionDone s) fun t => t.pcc.target = none ∧ rbit t R.PCC_STAT 12 = false ∧ pccMode t = m ∧
      (m = 3 → (∀ p, p ∈ aliveTuns s → (coreOf t p).phase = .off) ∧ ((coreOf s 1).phase = .running → (coreOf t 1).phase = .off) ∧ coreOf t 0 = coreOf s 0) ∧
      (m = 4 → t.boot.dormant = true ∧ t.boot.pwrEn = false ∧ rget t R.AON_DORMCNT = word (((rget s R.AON_DORMCNT).toNat + 1) % 2 ^ 32)) ∧
      (m ≤ 1 → pccMode s = 3 → rbit s R.SYSCON_TUN_RELEASE 0 = true → ∀ p, p ∈ aliveTuns s → p ≠ steepSpare s →
        coreOf t p = freshTun (rbits s R.SYSCON_TUN_VECTOR 39 2 * 4) false) ∧
      (m ≤ 2 → pccMode s ≤ 2 → quiet s t))) ∧
  (∀ s : State, (eicAnyRequest s 0 = false → eicAnyRequest s 1 = false → exec .restWake s = .next s) ∧
    (eicAnyRequest s 0 = true ∨ eicAnyRequest s 1 = true → s.pcc.target = none → pccMode s = 2 → Reaches (exec .restWake s) fun t =>
      pccMode t = rbits s R.PCC_STAT 10 8 ∧ quiet s t)) ∧
  (∀ s : State, (rbit s R.PCC_STAT 13 = true → (∀ i, i < 6 → sensorCool s i = true) → Reaches (exec .throttleRelease s) fun t => rbit t R.PCC_STAT 13 = false ∧ quiet s t ∧
      (rbits s R.PCC_STAT 6 4 = 0 → pccMode s = 1 → s.pcc.target = none → t.pcc.target = some 0 ∧ rbit t R.PCC_STAT 12 = true) ∧
      (rbits s R.PCC_STAT 6 4 ≠ 0 → t.pcc.target = s.pcc.target ∧ pccMode t = pccMode s)) ∧
    (rbit s R.PCC_STAT 13 = false ∨ (∃ i, i < 6 ∧ sensorCool s i = false) → exec .throttleRelease s = .next s))) ∧
  (
  (
    let asked := fun (i : RegAcc → Instr) => ∀ (q : RegAcc) (s : State), WriteOk s q R.PCC_REQ → let k := q.wr.bits 5 0
      let a := q.wr.bits 9 8
      let sec := (reqOf s q.who).world = .secure
      let off := a = 1 ∨ a = 2
      let ans := fun (t : State) (c : Nat) => (sec → t.pcc.ansS = c) ∧ (¬ sec → t.pcc.ansN = c)
      let can := gateable k = true ∧ unitPresent s k = true
      (¬ can → Reaches (exec (i q) s) fun t => ans t 3 ∧ t.regs = s.regs ∧ quiet s t) ∧
      (can → off → unitStreams s k = true → Reaches (exec (i q) s) fun t => ans t 5 ∧ t.regs = s.regs ∧ quiet s t) ∧
      (can → off → unitStreams s k = false → ¬ sec → unitSecure s k = true → Reaches (exec (i q) s) fun t => ans t 1 ∧ quiet s t ∧
        rbit t R.PCC_DEFER k = true ∧ unitGated t k = unitGated s k ∧ unitOff t k = unitOff s k ∧
        (rbit s R.PCC_DEFER k = false → rbit t R.PCC_DEFACT k = decide (a = 2) ∧ rbit t (R.EIC_PEND 0) 3 = true) ∧
        (rbit s R.PCC_DEFER k = true → t.regs = s.regs)) ∧
      (can → off → unitStreams s k = false → sec ∨ unitSecure s k = false → Reaches (exec (i q) s) fun t => ans t 0 ∧ quiet s t ∧
        (a = 1 → unitGated t k = true ∧ unitOff t k = unitOff s k) ∧ (a = 2 → unitOff t k = true ∧ unitGated t k = unitGated s k)) ∧
      (can → ¬ off → Reaches (exec (i q) s) fun t => ans t 0 ∧ quiet s t ∧ (¬ sec → rbit t R.PCC_DEFER k = false) ∧
        (a = 0 → unitGated t k = false ∧ unitOff t k = unitOff s k) ∧
        (a = 3 → unitOff t k = false ∧ (unitOff s k = true → ∀ x, x / 0x10000 = 0x4000 + k → rget t x = regReset x)))
    asked .gateClockOn ∧ asked .gateClockOff ∧ asked .gatePowerOff ∧ asked .gatePowerOn) ∧
  (∀ (q : RegAcc) (s : State), WriteOk s q R.PCC_DEFRESP → let k := q.wr.bits 5 0
    k < 36 → (rbit s R.PCC_DEFER k = false → exec (.deferGrant q) s = .next s ∧ exec (.deferDeny q) s = .next s) ∧
    (rbit s R.PCC_DEFER k = true → bit q.wr.v 8 = true → Reaches (exec (.deferGrant q) s) fun t => rbit t R.PCC_DEFER k = false ∧ quiet s t ∧
      (rbit s R.PCC_DEFACT k = true → unitOff t k = true) ∧ (rbit s R.PCC_DEFACT k = false → unitGated t k = true)) ∧
    (rbit s R.PCC_DEFER k = true → bit q.wr.v 8 = false → bit q.wr.v 9 = true → Reaches (exec (.deferDeny q) s) fun t => rbit t R.PCC_DEFER k = false ∧ quiet s t ∧
      unitOff t k = unitOff s k ∧ unitGated t k = unitGated s k)) ∧
  (∀ (q : RegAcc) (s : State), WriteOk s q R.PCC_TRIMVAL → Reaches (exec (.trimWrite q) s) fun t => let x := rbits s R.PCC_TRIMSEL 2 0
    mget t.pcc.shadow x 0 = q.wr.v.setWidth 16 ∧ (∀ y, y ≠ x → mget t.pcc.shadow y 0 = mget s.pcc.shadow y 0) ∧ t.pcc.trim = s.pcc.trim ∧
    rbit t R.PCC_TRIMCTL 0 = true ∧ quiet s t) ∧
  (∀ (x : Fin 6) (s : State) (v : BitVec 16), (s.pcc.shadow.find? (fun e => e.1 = x.val) = some (x.val, v) → Reaches (exec (.trimApply x) s) fun t =>
      mget t.pcc.trim x.val 0 = v ∧ rbit t R.PCC_TRIMCTL 1 = true ∧ quiet s t ∧ (s.pcc.shadow = [(x.val, v)] → rbit t R.PCC_TRIMCTL 0 = false)) ∧
    (s.pcc.shadow.find? (fun e => e.1 = x.val) = none → exec (.trimApply x) s = .next s))) ∧
  (
  (∀ (w : WakeSrc) (s : State), let c := (wakeBits w).1
    let b := (wakeBits w).2
    let live := s.boot.dormant = true ∨ s.pcc.target = some 4
    (¬ live ∨ s.boot.wakeCfg.getLsbD c = false → exec (.wakeEvent w) s = .next s) ∧
    (live → s.boot.wakeCfg.getLsbD c = true → Reaches (exec (.wakeEvent w) s) fun t => rbit t R.AON_WAKESRC b = true ∧ t.boot.wakeDue = true ∧ quiet s t ∧
      (s.boot.wakeDue = true → ∀ k, k < 10 → rbit s R.AON_WAKESRC k = true → rbit t R.AON_WAKESRC k = true) ∧
      (s.boot.dormant = true → s.boot.low = true → t.boot.dormant = false ∧ t.boot.pwrEn = true) ∧
      (s.boot.dormant = true → s.boot.low = false → t.boot.dormant = true ∧ t.boot.pwrEn = s.boot.pwrEn))) ∧
  (∀ s : State, (s.boot.dormant = true → s.boot.wakeDue = true → Reaches (exec .dormantWakeServe s) fun t => t.boot.wakeReady = true ∧ t.regs = s.regs ∧ quiet s t ∧
      t.boot.pwrEn = (s.boot.pwrEn || s.boot.low)) ∧
    (s.boot.dormant = false ∨ s.boot.wakeDue = false → exec .dormantWakeServe s = .next s)) ∧
  (∀ s : State, (s.boot.dormant = true → Reaches (exec .vddSocDischarged s) fun t => t.boot.soc = false ∧ t.boot.low = true ∧ t.regs = s.regs ∧ quiet s t ∧
      t.boot.pwrEn = (s.boot.pwrEn || (s.boot.wakeDue && s.boot.wakeReady))) ∧
    (s.boot.dormant = false → exec .vddSocDischarged s = .next s)) ∧
  (∀ s : State, exec .ddrSelfRefreshEntry s = .next s) ∧
  (∀ s : State, s.boot.aon = true → exec .aonOscFailover s = .next { s with boot := { s.boot with internalOsc := true } } ∧
    exec .aonOscReturn s = .next { s with boot := { s.boot with internalOsc := false } }))

/-! LOG, WDT and MON -/

/-- R618 to R627, R637: an event is queued for its ring, a code marked A for the always-on ring too, and one that finds 16 queued is lost; a ring takes its queue's head with SEQ WSEQ, in the guest part of the secure ring where the normal world caused it,
the oldest being replaced where the part is full and counted where it was unread; ARG1's read advances RSEQ; a write of RSEQ is held within the ring; a clear leaves LOG_CLEARED, and is refused by world.

R628 to R633, R638, R612: EN starts the watchdog and stays; an accepted kick restarts the first stage and cancels the final one, any other value is BADKICK; the first expiry pends EIC source 0 and starts the final stage; a reading past its threshold sets
its sticky bit, and 105 °C or a failed sensor throttles.

Where the spec is silent it rests on the model's choices of log entries 34 and 67. -/
def Obligations.LogsAndHealth : Prop :=
  (
  (∀ (s : State) (ring code : Nat) (req : Byte) (sec : Bool) (a0 a1 : Word), ring < 2 → code < 65536 → code ≠ Code.BOOT_FAIL →
    let e : LogEntry := ⟨dtbNs s, 0, BitVec.ofNat 16 code, req, if sec then 1 else 0, a0, a1⟩
    let t := logTo s ring code req sec a0 a1
    ((ringOf s ring).queue.length < 16 → (ringOf t ring).queue = (ringOf s ring).queue ++ [e]) ∧
    (16 ≤ (ringOf s ring).queue.length → (ringOf t ring).queue = (ringOf s ring).queue ∧ counted s t (logReg ring 0x10)) ∧
    (ringOf t (1 - ring) = ringOf s (1 - ring)) ∧
    (code ∉ alwaysCodes → t.ring2 = s.ring2) ∧
    (code ∈ alwaysCodes → s.ring2.queue.length < 16 → t.ring2.queue = s.ring2.queue ++ [{ e with time := rget s R.AON_RTC, flags := if sec then 5 else 4 }])) ∧
  (∀ (s : State) (req : Byte) (sec : Bool) (a0 a1 : Word), let t := logTo s 1 Code.BOOT_FAIL req sec a0 a1
    t.ring0 = s.ring0 ∧ t.ring1 = s.ring1) ∧
  (∀ (r : Fin 3) (s : State), ((ringOf s r).queue = [] → exec (.logEntryAccept r) s = .next s) ∧
    (∀ e l, (ringOf s r).queue = e :: l → let x := ringOf s r
      let guest := r = 1 ∧ e.flags.getLsbD 0 = false
      let f := { e with seq := rget s (logReg r 0) }
      Reaches (exec (.logEntryAccept r) s) fun t => let y := ringOf t r
        y.queue = l ∧ rget t (logReg r 0) = rget s (logReg r 0) + 1 ∧ rget t (logReg r 8) = rget s (logReg r 8) ∧ quiet s t ∧
        (guest → y.main = x.main ∧ (x.guest.length < 256 → y.guest = x.guest ++ [f]) ∧ (∀ g k, x.guest = g :: k → x.guest.length = 256 → y.guest = k ++ [f] ∧
          (lget s r 8 ≤ g.seq.toNat → counted s t (logReg r 0x14)) ∧ (g.seq.toNat < lget s r 8 → rget t (logReg r 0x14) = rget s (logReg r 0x14))) ∧
          rget t (logReg r 0x10) = rget s (logReg r 0x10)) ∧
        (¬ guest → y.guest = x.guest ∧ let cap := if r = 0 then 2048 else if r = 1 then 1792 else 256
          (x.main.length < cap → y.main = x.main ++ [f]) ∧ (∀ g k, x.main = g :: k → x.main.length = cap → y.main = k ++ [f] ∧
          (lget s r 8 ≤ g.seq.toNat → counted s t (logReg r 0x10)))) ∧
        (r ≠ 2 → logCond s r = false → logCond t r = true → rbit t (R.EIC_PEND 0) (5 - r.val) = true))) ∧
  (∀ (q : RegAcc) (r : Fin 3) (x : Ecc) (s : State), ReadOk s q (logReg r 0x38) →
    (lget s r 0 ≤ lget s r 8 → Reaches (exec (.logReadAdvance q r x) s) fun t => t.lastRead = 0 ∧ t.regs = s.regs ∧ quiet s t) ∧
    (∀ e, lget s r 8 < lget s r 0 → ringAt s r (lget s r 8) = some e → Reaches (exec (.logReadAdvance q r x) s) fun t =>
      t.lastRead = (if x = .uncorrected then 0 else e.arg1) ∧ rget t (logReg r 8) = word (e.seq.toNat + 1) ∧
      rget t (logReg r 0) = rget s (logReg r 0) ∧ ringOf t r = ringOf s r ∧ quiet s t)) ∧
  (∀ (q : RegAcc) (r : Fin 3) (s : State), WriteOk s q (logReg r 8) → q.wide = true → Reaches (exec (.logRseqWrite q r) s) fun t =>
    lget t r 8 = min (lget s r 0) (max q.wr.v.toNat (ringOldest s r)) ∧ lget t r 0 = lget s r 0 ∧ ringOf t r = ringOf s r ∧ quiet s t) ∧
  (∀ (q : RegAcc) (r : Fin 3) (s : State), WriteOk s q (logReg r 0x1C) → bit q.wr.v 0 = true → let x := reqOf s q.who
    let may := r = 0 ∨ (r = 1 ∧ x.world = .secure) ∨ x.machine = true
    (may → Reaches (exec (.logClear q r) s) fun t => lget t r 0 = 1 ∧ lget t r 8 = 0 ∧ lget t r 0x10 = 0 ∧ lget t r 0x14 = 0 ∧
      rbit t (logReg r 0x1C) 0 = rbit s (logReg r 0x1C) 0 ∧ quiet s t ∧
      ∃ e : LogEntry, (ringOf t r).main ++ (ringOf t r).guest = [e] ∧ e.code = BitVec.ofNat 16 Code.LOG_CLEARED ∧ e.req = x.id ∧ e.seq = 0) ∧
    (¬ may → Reaches (exec (.logClear q r) s) fun t => (ringOf t r).main = (ringOf s r).main ∧ (ringOf t r).guest = (ringOf s r).guest ∧
      lget t r 0 = lget s r 0 ∧ lget t r 8 = lget s r 8 ∧ quiet s t))) ∧
  (
  (∀ (q : RegAcc) (s : State), WriteOk s q R.WDT_CTRL → (bit q.wr.v 0 = true → rbit s R.WDT_CTRL 0 = false → Reaches (exec (.wdtEnable q) s) fun t =>
      rbit t R.WDT_CTRL 0 = true ∧ rbit t R.WDT_CTRL 1 = bit q.wr.v 1 ∧ rget t R.WDT_COUNT = rget s R.WDT_FIRST ∧ quiet s t) ∧
    (rbit s R.WDT_CTRL 0 = true → Reaches (exec (.wdtEnable q) s) fun t => rbit t R.WDT_CTRL 0 = true ∧ rget t R.WDT_COUNT = rget s R.WDT_COUNT ∧ quiet s t)) ∧
  (∀ (q : RegAcc) (s : State), WriteOk s q R.WDT_KICK →
    (q.wr.bits 31 0 = 0x4B1C → rbit s R.WDT_CTRL 0 = true → Reaches (exec (.wdtKick q) s) fun t => rbit t R.WDT_STAT 2 = false ∧
      rget t R.WDT_COUNT = rget s R.WDT_FIRST ∧ rbit t R.WDT_STAT 1 = rbit s R.WDT_STAT 1 ∧ quiet s t) ∧
    (q.wr.bits 31 0 ≠ 0x4B1C → Reaches (exec (.wdtKick q) s) fun t => rbit t R.WDT_STAT 1 = true ∧ rbit t R.WDT_STAT 2 = rbit s R.WDT_STAT 2 ∧
      rget t R.WDT_COUNT = rget s R.WDT_COUNT ∧ quiet s t)) ∧
  (∀ s : State, (rbit s R.WDT_CTRL 0 = true → rbit s R.WDT_STAT 2 = false → wdtPaused s = false → Reaches (exec .wdtFirstExpiry s) fun t =>
      rbit t (R.EIC_PEND 0) 0 = true ∧ rbit t R.WDT_STAT 0 = true ∧ rbit t R.WDT_STAT 2 = true ∧ rget t R.WDT_COUNT = rget s R.WDT_FINAL ∧ quiet s t) ∧
    (rbit s R.WDT_CTRL 0 = false ∨ rbit s R.WDT_STAT 2 = true ∨ wdtPaused s = true → exec .wdtFirstExpiry s = .next s)) ∧
  (∀ (i : Fin 6) (v : BitVec 16) (s : State), outOfReset s = true → v ≠ 0x7FFF → Reaches (exec (.monConversion (.temp i (some v))) s) fun t =>
    rget t (R.MON_TEMP i) = v.setWidth 64 ∧ quiet s t ∧
    ((tempOf (rbits s (R.MON_TALARM i) 15 0) < v.toInt) → rbit t R.MON_STAT i = true ∧
      (rbit s R.MON_STAT i = false → rbit s R.MON_IRQ 0 = true → rbit t (R.EIC_PEND 0) 1 = true)) ∧
    (v.toInt ≤ tempOf (rbits s (R.MON_TALARM i) 15 0) → rbit t R.MON_STAT i = rbit s R.MON_STAT i) ∧
    (1680 ≤ v.toInt → rbit t R.PCC_STAT 13 = true ∧ (rbit s R.PCC_STAT 13 = false → pccMode s = 0 → s.pcc.target = none →
      t.pcc.target = some 1 ∧ rbit t R.PCC_STAT 12 = true)) ∧
    (v.toInt < 1680 → rget t R.PCC_STAT = rget s R.PCC_STAT ∧ t.pcc.target = s.pcc.target)) ∧
  (∀ (i : Fin 6) (s : State), outOfReset s = true → Reaches (exec (.monConversion (.temp i none)) s) fun t =>
    rget t (R.MON_TEMP i) = 0x7FFF ∧ rbit t R.MON_STAT (16 + i.val) = true ∧ rbit t R.PCC_STAT 13 = true ∧ quiet s t) ∧
  (∀ (i : Fin 7) (mv : BitVec 16) (s : State), outOfReset s = true → let out := mv.toNat < rbits s (R.MON_VLIM i) 15 0 ∨ rbits s (R.MON_VLIM i) 31 16 < mv.toNat
    Reaches (exec (.monConversion (.volt i mv)) s) fun t => rget t (R.MON_VOLT i) = mv.setWidth 64 ∧ quiet s t ∧
      (out → rbit t R.MON_STAT (8 + i.val) = true ∧ (rbit s R.MON_STAT (8 + i.val) = false → rbit s R.MON_IRQ 1 = true → rbit t (R.EIC_PEND 0) 2 = true)) ∧
      (¬ out → rbit t R.MON_STAT (8 + i.val) = rbit s R.MON_STAT (8 + i.val))))

/-! Single rules -/

/-- R630: an accepted kick restarts the first stage and cancels a running final stage; any other value changes nothing but BADKICK and is logged; a 64-bit access over WDT_KICK changes nothing at all. -/
def Obligations.WatchdogKick : Prop :=
  (∀ (q : RegAcc) (s : State), WriteOk s q R.WDT_KICK → q.wide = false → (reqOf s q.who).world = .secure →
    (q.value.toNat % 2 ^ 32 = 0x4B1C → rbit s R.WDT_CTRL 0 = true → Reaches (exec (.wdtKick q) s) fun t =>
      rget t R.WDT_COUNT = rget s R.WDT_FIRST ∧ rbit t R.WDT_STAT 2 = false ∧ (∀ i, i ≠ 2 → rbit t R.WDT_STAT i = rbit s R.WDT_STAT i) ∧
      (∀ a, a ≠ R.WDT_COUNT → a ≠ R.WDT_STAT → rget t a = rget s a) ∧ t.ring1 = s.ring1 ∧ quiet s t) ∧
    (q.value.toNat % 2 ^ 32 ≠ 0x4B1C → Reaches (exec (.wdtKick q) s) fun t =>
      rbit t R.WDT_STAT 1 = true ∧ (∀ i, i ≠ 1 → rbit t R.WDT_STAT i = rbit s R.WDT_STAT i) ∧
      rget t R.WDT_COUNT = rget s R.WDT_COUNT ∧ rget t R.WDT_CTRL = rget s R.WDT_CTRL ∧ rget t R.WDT_FIRST = rget s R.WDT_FIRST ∧
      rget t R.WDT_FINAL = rget s R.WDT_FINAL ∧ quiet s t ∧
      (s.ring1.queue.length < 16 → ∃ e : LogEntry, t.ring1.queue = s.ring1.queue ++ [e] ∧ e.code = BitVec.ofNat 16 Code.WDT_BADKICK))) ∧
  (∀ (q : RegAcc) (s : State), q.wide = true → (reqOf s q.who).world = .secure → exec (.registerWrite q 0x401F0008) s = .next s)

/-- R578: the CRC-16, bit by bit with the most significant bit first, over CMD, LEN and the payload of a frame. -/
def Obligations.FrameCrc : Prop :=
  (∀ l : List Byte, crc16 l = ((l.flatMap fun b => (List.range 8).map fun i => b.getLsbD (7 - i)).foldl
    (fun (c : BitVec 16) x => (c <<< 1) ^^^ (if c.getLsbD 15 = x then 0 else 0x1021)) 0xFFFF).toNat) ∧
  (∀ (cmd : Nat) (pay : List Byte), let body := leBytes 1 cmd ++ leBytes 2 pay.length ++ pay
    (hcpFrame cmd pay).length = 6 + pay.length ∧ sub (hcpFrame cmd pay) 1 (3 + pay.length) = body ∧
    fieldAt (hcpFrame cmd pay) (4 + pay.length) 2 = crc16 body) ∧
  crc16 (ascii "123456789") = 0x29B1

/-- R594: a frame cut short, or a run of bytes where a frame must start, is counted once in HCP_FRAMEERR and has no response. -/
def Obligations.FrameCutShort : Prop :=
  ∀ (badSync : Bool) (s : State), hcpLive s = true → Reaches (exec (.hcpFrameAbort badSync) s) fun t =>
    counted s t R.HCP_FRAMEERR ∧ hcp t = hcp s ∧ t.wire = s.wire ∧ quiet s t
end

