-- ==== Sys2Proof/Laws/State.lean ====
section
/-! SUPPORT. What each named update leaves alone: one lemma for each field and update, true by rfl. -/
namespace Sys2Proof.Machine

/-! `rset` -/

@[simp] theorem rset_variant (s : State) (a : Nat) (v : Word) : (rset s a v).variant = s.variant := rfl
@[simp] theorem rset_pending (s : State) (a : Nat) (v : Word) : (rset s a v).pending = s.pending := rfl
@[simp] theorem rset_freeIx (s : State) (a : Nat) (v : Word) : (rset s a v).freeIx = s.freeIx := rfl
@[simp] theorem rset_mem (s : State) (a : Nat) (v : Word) : (rset s a v).mem = s.mem := rfl
@[simp] theorem rset_lpddr (s : State) (a : Nat) (v : Word) : (rset s a v).lpddr = s.lpddr := rfl
@[simp] theorem rset_dtb (s : State) (a : Nat) (v : Word) : (rset s a v).dtb = s.dtb := rfl
@[simp] theorem rset_ticks (s : State) (a : Nat) (v : Word) : (rset s a v).ticks = s.ticks := rfl
@[simp] theorem rset_servo (s : State) (a : Nat) (v : Word) : (rset s a v).servo = s.servo := rfl
@[simp] theorem rset_cores (s : State) (a : Nat) (v : Word) : (rset s a v).cores = s.cores := rfl
@[simp] theorem rset_ring0 (s : State) (a : Nat) (v : Word) : (rset s a v).ring0 = s.ring0 := rfl
@[simp] theorem rset_ring1 (s : State) (a : Nat) (v : Word) : (rset s a v).ring1 = s.ring1 := rfl
@[simp] theorem rset_ring2 (s : State) (a : Nat) (v : Word) : (rset s a v).ring2 = s.ring2 := rfl
@[simp] theorem rset_claims (s : State) (a : Nat) (v : Word) : (rset s a v).claims = s.claims := rfl
@[simp] theorem rset_bungs (s : State) (a : Nat) (v : Word) : (rset s a v).bungs = s.bungs := rfl
@[simp] theorem rset_grants (s : State) (a : Nat) (v : Word) : (rset s a v).grants = s.grants := rfl
@[simp] theorem rset_sparge (s : State) (a : Nat) (v : Word) : (rset s a v).sparge = s.sparge := rfl
@[simp] theorem rset_journal (s : State) (a : Nat) (v : Word) : (rset s a v).journal = s.journal := rfl
@[simp] theorem rset_doors (s : State) (a : Nat) (v : Word) : (rset s a v).doors = s.doors := rfl
@[simp] theorem rset_safeWait (s : State) (a : Nat) (v : Word) : (rset s a v).safeWait = s.safeWait := rfl
@[simp] theorem rset_steep (s : State) (a : Nat) (v : Word) : (rset s a v).steep = s.steep := rfl
@[simp] theorem rset_eccPend (s : State) (a : Nat) (v : Word) : (rset s a v).eccPend = s.eccPend := rfl
@[simp] theorem rset_retiredSeen (s : State) (a : Nat) (v : Word) : (rset s a v).retiredSeen = s.retiredSeen := rfl
@[simp] theorem rset_otp (s : State) (a : Nat) (v : Word) : (rset s a v).otp = s.otp := rfl
@[simp] theorem rset_wire (s : State) (a : Nat) (v : Word) : (rset s a v).wire = s.wire := rfl
@[simp] theorem rset_keeve (s : State) (a : Nat) (v : Word) : (rset s a v).keeve = s.keeve := rfl
@[simp] theorem rset_copper (s : State) (a : Nat) (v : Word) : (rset s a v).copper = s.copper := rfl
@[simp] theorem rset_trng (s : State) (a : Nat) (v : Word) : (rset s a v).trng = s.trng := rfl
@[simp] theorem rset_dukWritten (s : State) (a : Nat) (v : Word) : (rset s a v).dukWritten = s.dukWritten := rfl
@[simp] theorem rset_lastRead (s : State) (a : Nat) (v : Word) : (rset s a v).lastRead = s.lastRead := rfl
@[simp] theorem rset_boot (s : State) (a : Nat) (v : Word) : (rset s a v).boot = s.boot := rfl
@[simp] theorem rset_dbg (s : State) (a : Nat) (v : Word) : (rset s a v).dbg = s.dbg := rfl
@[simp] theorem rset_pcc (s : State) (a : Nat) (v : Word) : (rset s a v).pcc = s.pcc := rfl
@[simp] theorem rset_remote (s : State) (a : Nat) (v : Word) : (rset s a v).remote = s.remote := rfl
@[simp] theorem rset_nextTag (s : State) (a : Nat) (v : Word) : (rset s a v).nextTag = s.nextTag := rfl
@[simp] theorem rset_pcie (s : State) (a : Nat) (v : Word) : (rset s a v).pcie = s.pcie := rfl
@[simp] theorem rset_sdk (s : State) (a : Nat) (v : Word) : (rset s a v).sdk = s.sdk := rfl
@[simp] theorem rset_sdkMarks (s : State) (a : Nat) (v : Word) : (rset s a v).sdkMarks = s.sdkMarks := rfl
@[simp] theorem rset_streams (s : State) (a : Nat) (v : Word) : (rset s a v).streams = s.streams := rfl
@[simp] theorem rset_scenes (s : State) (a : Nat) (v : Word) : (rset s a v).scenes = s.scenes := rfl
@[simp] theorem rset_io (s : State) (a : Nat) (v : Word) : (rset s a v).io = s.io := rfl
@[simp] theorem rset_hcpRefused (s : State) (a : Nat) (v : Word) : (rset s a v).hcpRefused = s.hcpRefused := rfl
@[simp] theorem rset_balls (s : State) (a : Nat) (v : Word) : (rset s a v).balls = s.balls := rfl

/-! `setCore` -/

@[simp] theorem setCore_variant (s : State) (p : Nat) (c : Core) : (setCore s p c).variant = s.variant := rfl
@[simp] theorem setCore_pending (s : State) (p : Nat) (c : Core) : (setCore s p c).pending = s.pending := rfl
@[simp] theorem setCore_freeIx (s : State) (p : Nat) (c : Core) : (setCore s p c).freeIx = s.freeIx := rfl
@[simp] theorem setCore_regs (s : State) (p : Nat) (c : Core) : (setCore s p c).regs = s.regs := rfl
@[simp] theorem setCore_mem (s : State) (p : Nat) (c : Core) : (setCore s p c).mem = s.mem := rfl
@[simp] theorem setCore_lpddr (s : State) (p : Nat) (c : Core) : (setCore s p c).lpddr = s.lpddr := rfl
@[simp] theorem setCore_dtb (s : State) (p : Nat) (c : Core) : (setCore s p c).dtb = s.dtb := rfl
@[simp] theorem setCore_ticks (s : State) (p : Nat) (c : Core) : (setCore s p c).ticks = s.ticks := rfl
@[simp] theorem setCore_servo (s : State) (p : Nat) (c : Core) : (setCore s p c).servo = s.servo := rfl
@[simp] theorem setCore_ring0 (s : State) (p : Nat) (c : Core) : (setCore s p c).ring0 = s.ring0 := rfl
@[simp] theorem setCore_ring1 (s : State) (p : Nat) (c : Core) : (setCore s p c).ring1 = s.ring1 := rfl
@[simp] theorem setCore_ring2 (s : State) (p : Nat) (c : Core) : (setCore s p c).ring2 = s.ring2 := rfl
@[simp] theorem setCore_claims (s : State) (p : Nat) (c : Core) : (setCore s p c).claims = s.claims := rfl
@[simp] theorem setCore_bungs (s : State) (p : Nat) (c : Core) : (setCore s p c).bungs = s.bungs := rfl
@[simp] theorem setCore_grants (s : State) (p : Nat) (c : Core) : (setCore s p c).grants = s.grants := rfl
@[simp] theorem setCore_sparge (s : State) (p : Nat) (c : Core) : (setCore s p c).sparge = s.sparge := rfl
@[simp] theorem setCore_journal (s : State) (p : Nat) (c : Core) : (setCore s p c).journal = s.journal := rfl
@[simp] theorem setCore_doors (s : State) (p : Nat) (c : Core) : (setCore s p c).doors = s.doors := rfl
@[simp] theorem setCore_safeWait (s : State) (p : Nat) (c : Core) : (setCore s p c).safeWait = s.safeWait := rfl
@[simp] theorem setCore_steep (s : State) (p : Nat) (c : Core) : (setCore s p c).steep = s.steep := rfl
@[simp] theorem setCore_eccPend (s : State) (p : Nat) (c : Core) : (setCore s p c).eccPend = s.eccPend := rfl
@[simp] theorem setCore_retiredSeen (s : State) (p : Nat) (c : Core) : (setCore s p c).retiredSeen = s.retiredSeen := rfl
@[simp] theorem setCore_otp (s : State) (p : Nat) (c : Core) : (setCore s p c).otp = s.otp := rfl
@[simp] theorem setCore_wire (s : State) (p : Nat) (c : Core) : (setCore s p c).wire = s.wire := rfl
@[simp] theorem setCore_keeve (s : State) (p : Nat) (c : Core) : (setCore s p c).keeve = s.keeve := rfl
@[simp] theorem setCore_copper (s : State) (p : Nat) (c : Core) : (setCore s p c).copper = s.copper := rfl
@[simp] theorem setCore_trng (s : State) (p : Nat) (c : Core) : (setCore s p c).trng = s.trng := rfl
@[simp] theorem setCore_dukWritten (s : State) (p : Nat) (c : Core) : (setCore s p c).dukWritten = s.dukWritten := rfl
@[simp] theorem setCore_lastRead (s : State) (p : Nat) (c : Core) : (setCore s p c).lastRead = s.lastRead := rfl
@[simp] theorem setCore_boot (s : State) (p : Nat) (c : Core) : (setCore s p c).boot = s.boot := rfl
@[simp] theorem setCore_dbg (s : State) (p : Nat) (c : Core) : (setCore s p c).dbg = s.dbg := rfl
@[simp] theorem setCore_pcc (s : State) (p : Nat) (c : Core) : (setCore s p c).pcc = s.pcc := rfl
@[simp] theorem setCore_remote (s : State) (p : Nat) (c : Core) : (setCore s p c).remote = s.remote := rfl
@[simp] theorem setCore_nextTag (s : State) (p : Nat) (c : Core) : (setCore s p c).nextTag = s.nextTag := rfl
@[simp] theorem setCore_pcie (s : State) (p : Nat) (c : Core) : (setCore s p c).pcie = s.pcie := rfl
@[simp] theorem setCore_sdk (s : State) (p : Nat) (c : Core) : (setCore s p c).sdk = s.sdk := rfl
@[simp] theorem setCore_sdkMarks (s : State) (p : Nat) (c : Core) : (setCore s p c).sdkMarks = s.sdkMarks := rfl
@[simp] theorem setCore_streams (s : State) (p : Nat) (c : Core) : (setCore s p c).streams = s.streams := rfl
@[simp] theorem setCore_scenes (s : State) (p : Nat) (c : Core) : (setCore s p c).scenes = s.scenes := rfl
@[simp] theorem setCore_io (s : State) (p : Nat) (c : Core) : (setCore s p c).io = s.io := rfl
@[simp] theorem setCore_hcpRefused (s : State) (p : Nat) (c : Core) : (setCore s p c).hcpRefused = s.hcpRefused := rfl
@[simp] theorem setCore_balls (s : State) (p : Nat) (c : Core) : (setCore s p c).balls = s.balls := rfl

/-! `setRing` -/

@[simp] theorem setRing_variant (s : State) (r : Nat) (x : Ring) : (setRing s r x).variant = s.variant := by
  unfold setRing; split <;> rfl
@[simp] theorem setRing_pending (s : State) (r : Nat) (x : Ring) : (setRing s r x).pending = s.pending := by
  unfold setRing; split <;> rfl
@[simp] theorem setRing_freeIx (s : State) (r : Nat) (x : Ring) : (setRing s r x).freeIx = s.freeIx := by
  unfold setRing; split <;> rfl
@[simp] theorem setRing_regs (s : State) (r : Nat) (x : Ring) : (setRing s r x).regs = s.regs := by
  unfold setRing; split <;> rfl
@[simp] theorem setRing_mem (s : State) (r : Nat) (x : Ring) : (setRing s r x).mem = s.mem := by
  unfold setRing; split <;> rfl
@[simp] theorem setRing_lpddr (s : State) (r : Nat) (x : Ring) : (setRing s r x).lpddr = s.lpddr := by
  unfold setRing; split <;> rfl
@[simp] theorem setRing_dtb (s : State) (r : Nat) (x : Ring) : (setRing s r x).dtb = s.dtb := by
  unfold setRing; split <;> rfl
@[simp] theorem setRing_ticks (s : State) (r : Nat) (x : Ring) : (setRing s r x).ticks = s.ticks := by
  unfold setRing; split <;> rfl
@[simp] theorem setRing_servo (s : State) (r : Nat) (x : Ring) : (setRing s r x).servo = s.servo := by
  unfold setRing; split <;> rfl
@[simp] theorem setRing_cores (s : State) (r : Nat) (x : Ring) : (setRing s r x).cores = s.cores := by
  unfold setRing; split <;> rfl
@[simp] theorem setRing_claims (s : State) (r : Nat) (x : Ring) : (setRing s r x).claims = s.claims := by
  unfold setRing; split <;> rfl
@[simp] theorem setRing_bungs (s : State) (r : Nat) (x : Ring) : (setRing s r x).bungs = s.bungs := by
  unfold setRing; split <;> rfl
@[simp] theorem setRing_grants (s : State) (r : Nat) (x : Ring) : (setRing s r x).grants = s.grants := by
  unfold setRing; split <;> rfl
@[simp] theorem setRing_sparge (s : State) (r : Nat) (x : Ring) : (setRing s r x).sparge = s.sparge := by
  unfold setRing; split <;> rfl
@[simp] theorem setRing_journal (s : State) (r : Nat) (x : Ring) : (setRing s r x).journal = s.journal := by
  unfold setRing; split <;> rfl
@[simp] theorem setRing_doors (s : State) (r : Nat) (x : Ring) : (setRing s r x).doors = s.doors := by
  unfold setRing; split <;> rfl
@[simp] theorem setRing_safeWait (s : State) (r : Nat) (x : Ring) : (setRing s r x).safeWait = s.safeWait := by
  unfold setRing; split <;> rfl
@[simp] theorem setRing_steep (s : State) (r : Nat) (x : Ring) : (setRing s r x).steep = s.steep := by
  unfold setRing; split <;> rfl
@[simp] theorem setRing_eccPend (s : State) (r : Nat) (x : Ring) : (setRing s r x).eccPend = s.eccPend := by
  unfold setRing; split <;> rfl
@[simp] theorem setRing_retiredSeen (s : State) (r : Nat) (x : Ring) : (setRing s r x).retiredSeen = s.retiredSeen := by
  unfold setRing; split <;> rfl
@[simp] theorem setRing_otp (s : State) (r : Nat) (x : Ring) : (setRing s r x).otp = s.otp := by
  unfold setRing; split <;> rfl
@[simp] theorem setRing_wire (s : State) (r : Nat) (x : Ring) : (setRing s r x).wire = s.wire := by
  unfold setRing; split <;> rfl
@[simp] theorem setRing_keeve (s : State) (r : Nat) (x : Ring) : (setRing s r x).keeve = s.keeve := by
  unfold setRing; split <;> rfl
@[simp] theorem setRing_copper (s : State) (r : Nat) (x : Ring) : (setRing s r x).copper = s.copper := by
  unfold setRing; split <;> rfl
@[simp] theorem setRing_trng (s : State) (r : Nat) (x : Ring) : (setRing s r x).trng = s.trng := by
  unfold setRing; split <;> rfl
@[simp] theorem setRing_dukWritten (s : State) (r : Nat) (x : Ring) : (setRing s r x).dukWritten = s.dukWritten := by
  unfold setRing; split <;> rfl
@[simp] theorem setRing_lastRead (s : State) (r : Nat) (x : Ring) : (setRing s r x).lastRead = s.lastRead := by
  unfold setRing; split <;> rfl
@[simp] theorem setRing_boot (s : State) (r : Nat) (x : Ring) : (setRing s r x).boot = s.boot := by
  unfold setRing; split <;> rfl
@[simp] theorem setRing_dbg (s : State) (r : Nat) (x : Ring) : (setRing s r x).dbg = s.dbg := by
  unfold setRing; split <;> rfl
@[simp] theorem setRing_pcc (s : State) (r : Nat) (x : Ring) : (setRing s r x).pcc = s.pcc := by
  unfold setRing; split <;> rfl
@[simp] theorem setRing_remote (s : State) (r : Nat) (x : Ring) : (setRing s r x).remote = s.remote := by
  unfold setRing; split <;> rfl
@[simp] theorem setRing_nextTag (s : State) (r : Nat) (x : Ring) : (setRing s r x).nextTag = s.nextTag := by
  unfold setRing; split <;> rfl
@[simp] theorem setRing_pcie (s : State) (r : Nat) (x : Ring) : (setRing s r x).pcie = s.pcie := by
  unfold setRing; split <;> rfl
@[simp] theorem setRing_sdk (s : State) (r : Nat) (x : Ring) : (setRing s r x).sdk = s.sdk := by
  unfold setRing; split <;> rfl
@[simp] theorem setRing_sdkMarks (s : State) (r : Nat) (x : Ring) : (setRing s r x).sdkMarks = s.sdkMarks := by
  unfold setRing; split <;> rfl
@[simp] theorem setRing_streams (s : State) (r : Nat) (x : Ring) : (setRing s r x).streams = s.streams := by
  unfold setRing; split <;> rfl
@[simp] theorem setRing_scenes (s : State) (r : Nat) (x : Ring) : (setRing s r x).scenes = s.scenes := by
  unfold setRing; split <;> rfl
@[simp] theorem setRing_io (s : State) (r : Nat) (x : Ring) : (setRing s r x).io = s.io := by
  unfold setRing; split <;> rfl
@[simp] theorem setRing_hcpRefused (s : State) (r : Nat) (x : Ring) : (setRing s r x).hcpRefused = s.hcpRefused := by
  unfold setRing; split <;> rfl
@[simp] theorem setRing_balls (s : State) (r : Nat) (x : Ring) : (setRing s r x).balls = s.balls := by
  unfold setRing; split <;> rfl

/-! `writeByte` -/

@[simp] theorem writeByte_variant (s : State) (a : Nat) (v : Byte) : (writeByte s a v).variant = s.variant := rfl
@[simp] theorem writeByte_pending (s : State) (a : Nat) (v : Byte) : (writeByte s a v).pending = s.pending := rfl
@[simp] theorem writeByte_freeIx (s : State) (a : Nat) (v : Byte) : (writeByte s a v).freeIx = s.freeIx := rfl
@[simp] theorem writeByte_regs (s : State) (a : Nat) (v : Byte) : (writeByte s a v).regs = s.regs := rfl
@[simp] theorem writeByte_lpddr (s : State) (a : Nat) (v : Byte) : (writeByte s a v).lpddr = s.lpddr := rfl
@[simp] theorem writeByte_dtb (s : State) (a : Nat) (v : Byte) : (writeByte s a v).dtb = s.dtb := rfl
@[simp] theorem writeByte_ticks (s : State) (a : Nat) (v : Byte) : (writeByte s a v).ticks = s.ticks := rfl
@[simp] theorem writeByte_servo (s : State) (a : Nat) (v : Byte) : (writeByte s a v).servo = s.servo := rfl
@[simp] theorem writeByte_cores (s : State) (a : Nat) (v : Byte) : (writeByte s a v).cores = s.cores := rfl
@[simp] theorem writeByte_ring0 (s : State) (a : Nat) (v : Byte) : (writeByte s a v).ring0 = s.ring0 := rfl
@[simp] theorem writeByte_ring1 (s : State) (a : Nat) (v : Byte) : (writeByte s a v).ring1 = s.ring1 := rfl
@[simp] theorem writeByte_ring2 (s : State) (a : Nat) (v : Byte) : (writeByte s a v).ring2 = s.ring2 := rfl
@[simp] theorem writeByte_claims (s : State) (a : Nat) (v : Byte) : (writeByte s a v).claims = s.claims := rfl
@[simp] theorem writeByte_bungs (s : State) (a : Nat) (v : Byte) : (writeByte s a v).bungs = s.bungs := rfl
@[simp] theorem writeByte_grants (s : State) (a : Nat) (v : Byte) : (writeByte s a v).grants = s.grants := rfl
@[simp] theorem writeByte_sparge (s : State) (a : Nat) (v : Byte) : (writeByte s a v).sparge = s.sparge := rfl
@[simp] theorem writeByte_journal (s : State) (a : Nat) (v : Byte) : (writeByte s a v).journal = s.journal := rfl
@[simp] theorem writeByte_doors (s : State) (a : Nat) (v : Byte) : (writeByte s a v).doors = s.doors := rfl
@[simp] theorem writeByte_safeWait (s : State) (a : Nat) (v : Byte) : (writeByte s a v).safeWait = s.safeWait := rfl
@[simp] theorem writeByte_steep (s : State) (a : Nat) (v : Byte) : (writeByte s a v).steep = s.steep := rfl
@[simp] theorem writeByte_eccPend (s : State) (a : Nat) (v : Byte) : (writeByte s a v).eccPend = s.eccPend := rfl
@[simp] theorem writeByte_retiredSeen (s : State) (a : Nat) (v : Byte) : (writeByte s a v).retiredSeen = s.retiredSeen := rfl
@[simp] theorem writeByte_otp (s : State) (a : Nat) (v : Byte) : (writeByte s a v).otp = s.otp := rfl
@[simp] theorem writeByte_wire (s : State) (a : Nat) (v : Byte) : (writeByte s a v).wire = s.wire := rfl
@[simp] theorem writeByte_keeve (s : State) (a : Nat) (v : Byte) : (writeByte s a v).keeve = s.keeve := rfl
@[simp] theorem writeByte_copper (s : State) (a : Nat) (v : Byte) : (writeByte s a v).copper = s.copper := rfl
@[simp] theorem writeByte_trng (s : State) (a : Nat) (v : Byte) : (writeByte s a v).trng = s.trng := rfl
@[simp] theorem writeByte_dukWritten (s : State) (a : Nat) (v : Byte) : (writeByte s a v).dukWritten = s.dukWritten := rfl
@[simp] theorem writeByte_lastRead (s : State) (a : Nat) (v : Byte) : (writeByte s a v).lastRead = s.lastRead := rfl
@[simp] theorem writeByte_boot (s : State) (a : Nat) (v : Byte) : (writeByte s a v).boot = s.boot := rfl
@[simp] theorem writeByte_dbg (s : State) (a : Nat) (v : Byte) : (writeByte s a v).dbg = s.dbg := rfl
@[simp] theorem writeByte_pcc (s : State) (a : Nat) (v : Byte) : (writeByte s a v).pcc = s.pcc := rfl
@[simp] theorem writeByte_remote (s : State) (a : Nat) (v : Byte) : (writeByte s a v).remote = s.remote := rfl
@[simp] theorem writeByte_nextTag (s : State) (a : Nat) (v : Byte) : (writeByte s a v).nextTag = s.nextTag := rfl
@[simp] theorem writeByte_pcie (s : State) (a : Nat) (v : Byte) : (writeByte s a v).pcie = s.pcie := rfl
@[simp] theorem writeByte_sdk (s : State) (a : Nat) (v : Byte) : (writeByte s a v).sdk = s.sdk := rfl
@[simp] theorem writeByte_sdkMarks (s : State) (a : Nat) (v : Byte) : (writeByte s a v).sdkMarks = s.sdkMarks := rfl
@[simp] theorem writeByte_streams (s : State) (a : Nat) (v : Byte) : (writeByte s a v).streams = s.streams := rfl
@[simp] theorem writeByte_scenes (s : State) (a : Nat) (v : Byte) : (writeByte s a v).scenes = s.scenes := rfl
@[simp] theorem writeByte_io (s : State) (a : Nat) (v : Byte) : (writeByte s a v).io = s.io := rfl
@[simp] theorem writeByte_hcpRefused (s : State) (a : Nat) (v : Byte) : (writeByte s a v).hcpRefused = s.hcpRefused := rfl
@[simp] theorem writeByte_balls (s : State) (a : Nat) (v : Byte) : (writeByte s a v).balls = s.balls := rfl

/-! `writeBytes` -/

@[simp] theorem writeBytes_variant (s : State) (a : Nat) (l : List Byte) : (writeBytes s a l).variant = s.variant := rfl
@[simp] theorem writeBytes_pending (s : State) (a : Nat) (l : List Byte) : (writeBytes s a l).pending = s.pending := rfl
@[simp] theorem writeBytes_freeIx (s : State) (a : Nat) (l : List Byte) : (writeBytes s a l).freeIx = s.freeIx := rfl
@[simp] theorem writeBytes_regs (s : State) (a : Nat) (l : List Byte) : (writeBytes s a l).regs = s.regs := rfl
@[simp] theorem writeBytes_lpddr (s : State) (a : Nat) (l : List Byte) : (writeBytes s a l).lpddr = s.lpddr := rfl
@[simp] theorem writeBytes_dtb (s : State) (a : Nat) (l : List Byte) : (writeBytes s a l).dtb = s.dtb := rfl
@[simp] theorem writeBytes_ticks (s : State) (a : Nat) (l : List Byte) : (writeBytes s a l).ticks = s.ticks := rfl
@[simp] theorem writeBytes_servo (s : State) (a : Nat) (l : List Byte) : (writeBytes s a l).servo = s.servo := rfl
@[simp] theorem writeBytes_cores (s : State) (a : Nat) (l : List Byte) : (writeBytes s a l).cores = s.cores := rfl
@[simp] theorem writeBytes_ring0 (s : State) (a : Nat) (l : List Byte) : (writeBytes s a l).ring0 = s.ring0 := rfl
@[simp] theorem writeBytes_ring1 (s : State) (a : Nat) (l : List Byte) : (writeBytes s a l).ring1 = s.ring1 := rfl
@[simp] theorem writeBytes_ring2 (s : State) (a : Nat) (l : List Byte) : (writeBytes s a l).ring2 = s.ring2 := rfl
@[simp] theorem writeBytes_claims (s : State) (a : Nat) (l : List Byte) : (writeBytes s a l).claims = s.claims := rfl
@[simp] theorem writeBytes_bungs (s : State) (a : Nat) (l : List Byte) : (writeBytes s a l).bungs = s.bungs := rfl
@[simp] theorem writeBytes_grants (s : State) (a : Nat) (l : List Byte) : (writeBytes s a l).grants = s.grants := rfl
@[simp] theorem writeBytes_sparge (s : State) (a : Nat) (l : List Byte) : (writeBytes s a l).sparge = s.sparge := rfl
@[simp] theorem writeBytes_journal (s : State) (a : Nat) (l : List Byte) : (writeBytes s a l).journal = s.journal := rfl
@[simp] theorem writeBytes_doors (s : State) (a : Nat) (l : List Byte) : (writeBytes s a l).doors = s.doors := rfl
@[simp] theorem writeBytes_safeWait (s : State) (a : Nat) (l : List Byte) : (writeBytes s a l).safeWait = s.safeWait := rfl
@[simp] theorem writeBytes_steep (s : State) (a : Nat) (l : List Byte) : (writeBytes s a l).steep = s.steep := rfl
@[simp] theorem writeBytes_eccPend (s : State) (a : Nat) (l : List Byte) : (writeBytes s a l).eccPend = s.eccPend := rfl
@[simp] theorem writeBytes_retiredSeen (s : State) (a : Nat) (l : List Byte) : (writeBytes s a l).retiredSeen = s.retiredSeen := rfl
@[simp] theorem writeBytes_otp (s : State) (a : Nat) (l : List Byte) : (writeBytes s a l).otp = s.otp := rfl
@[simp] theorem writeBytes_wire (s : State) (a : Nat) (l : List Byte) : (writeBytes s a l).wire = s.wire := rfl
@[simp] theorem writeBytes_keeve (s : State) (a : Nat) (l : List Byte) : (writeBytes s a l).keeve = s.keeve := rfl
@[simp] theorem writeBytes_copper (s : State) (a : Nat) (l : List Byte) : (writeBytes s a l).copper = s.copper := rfl
@[simp] theorem writeBytes_trng (s : State) (a : Nat) (l : List Byte) : (writeBytes s a l).trng = s.trng := rfl
@[simp] theorem writeBytes_dukWritten (s : State) (a : Nat) (l : List Byte) : (writeBytes s a l).dukWritten = s.dukWritten := rfl
@[simp] theorem writeBytes_lastRead (s : State) (a : Nat) (l : List Byte) : (writeBytes s a l).lastRead = s.lastRead := rfl
@[simp] theorem writeBytes_boot (s : State) (a : Nat) (l : List Byte) : (writeBytes s a l).boot = s.boot := rfl
@[simp] theorem writeBytes_dbg (s : State) (a : Nat) (l : List Byte) : (writeBytes s a l).dbg = s.dbg := rfl
@[simp] theorem writeBytes_pcc (s : State) (a : Nat) (l : List Byte) : (writeBytes s a l).pcc = s.pcc := rfl
@[simp] theorem writeBytes_remote (s : State) (a : Nat) (l : List Byte) : (writeBytes s a l).remote = s.remote := rfl
@[simp] theorem writeBytes_nextTag (s : State) (a : Nat) (l : List Byte) : (writeBytes s a l).nextTag = s.nextTag := rfl
@[simp] theorem writeBytes_pcie (s : State) (a : Nat) (l : List Byte) : (writeBytes s a l).pcie = s.pcie := rfl
@[simp] theorem writeBytes_sdk (s : State) (a : Nat) (l : List Byte) : (writeBytes s a l).sdk = s.sdk := rfl
@[simp] theorem writeBytes_sdkMarks (s : State) (a : Nat) (l : List Byte) : (writeBytes s a l).sdkMarks = s.sdkMarks := rfl
@[simp] theorem writeBytes_streams (s : State) (a : Nat) (l : List Byte) : (writeBytes s a l).streams = s.streams := rfl
@[simp] theorem writeBytes_scenes (s : State) (a : Nat) (l : List Byte) : (writeBytes s a l).scenes = s.scenes := rfl
@[simp] theorem writeBytes_io (s : State) (a : Nat) (l : List Byte) : (writeBytes s a l).io = s.io := rfl
@[simp] theorem writeBytes_hcpRefused (s : State) (a : Nat) (l : List Byte) : (writeBytes s a l).hcpRefused = s.hcpRefused := rfl
@[simp] theorem writeBytes_balls (s : State) (a : Nat) (l : List Byte) : (writeBytes s a l).balls = s.balls := rfl

/-! `clearRange` -/

@[simp] theorem clearRange_variant (s : State) (lo hi : Nat) : (clearRange s lo hi).variant = s.variant := rfl
@[simp] theorem clearRange_pending (s : State) (lo hi : Nat) : (clearRange s lo hi).pending = s.pending := rfl
@[simp] theorem clearRange_freeIx (s : State) (lo hi : Nat) : (clearRange s lo hi).freeIx = s.freeIx := rfl
@[simp] theorem clearRange_regs (s : State) (lo hi : Nat) : (clearRange s lo hi).regs = s.regs := rfl
@[simp] theorem clearRange_lpddr (s : State) (lo hi : Nat) : (clearRange s lo hi).lpddr = s.lpddr := rfl
@[simp] theorem clearRange_dtb (s : State) (lo hi : Nat) : (clearRange s lo hi).dtb = s.dtb := rfl
@[simp] theorem clearRange_ticks (s : State) (lo hi : Nat) : (clearRange s lo hi).ticks = s.ticks := rfl
@[simp] theorem clearRange_servo (s : State) (lo hi : Nat) : (clearRange s lo hi).servo = s.servo := rfl
@[simp] theorem clearRange_cores (s : State) (lo hi : Nat) : (clearRange s lo hi).cores = s.cores := rfl
@[simp] theorem clearRange_ring0 (s : State) (lo hi : Nat) : (clearRange s lo hi).ring0 = s.ring0 := rfl
@[simp] theorem clearRange_ring1 (s : State) (lo hi : Nat) : (clearRange s lo hi).ring1 = s.ring1 := rfl
@[simp] theorem clearRange_ring2 (s : State) (lo hi : Nat) : (clearRange s lo hi).ring2 = s.ring2 := rfl
@[simp] theorem clearRange_claims (s : State) (lo hi : Nat) : (clearRange s lo hi).claims = s.claims := rfl
@[simp] theorem clearRange_bungs (s : State) (lo hi : Nat) : (clearRange s lo hi).bungs = s.bungs := rfl
@[simp] theorem clearRange_grants (s : State) (lo hi : Nat) : (clearRange s lo hi).grants = s.grants := rfl
@[simp] theorem clearRange_sparge (s : State) (lo hi : Nat) : (clearRange s lo hi).sparge = s.sparge := rfl
@[simp] theorem clearRange_journal (s : State) (lo hi : Nat) : (clearRange s lo hi).journal = s.journal := rfl
@[simp] theorem clearRange_doors (s : State) (lo hi : Nat) : (clearRange s lo hi).doors = s.doors := rfl
@[simp] theorem clearRange_safeWait (s : State) (lo hi : Nat) : (clearRange s lo hi).safeWait = s.safeWait := rfl
@[simp] theorem clearRange_steep (s : State) (lo hi : Nat) : (clearRange s lo hi).steep = s.steep := rfl
@[simp] theorem clearRange_eccPend (s : State) (lo hi : Nat) : (clearRange s lo hi).eccPend = s.eccPend := rfl
@[simp] theorem clearRange_retiredSeen (s : State) (lo hi : Nat) : (clearRange s lo hi).retiredSeen = s.retiredSeen := rfl
@[simp] theorem clearRange_otp (s : State) (lo hi : Nat) : (clearRange s lo hi).otp = s.otp := rfl
@[simp] theorem clearRange_wire (s : State) (lo hi : Nat) : (clearRange s lo hi).wire = s.wire := rfl
@[simp] theorem clearRange_keeve (s : State) (lo hi : Nat) : (clearRange s lo hi).keeve = s.keeve := rfl
@[simp] theorem clearRange_copper (s : State) (lo hi : Nat) : (clearRange s lo hi).copper = s.copper := rfl
@[simp] theorem clearRange_trng (s : State) (lo hi : Nat) : (clearRange s lo hi).trng = s.trng := rfl
@[simp] theorem clearRange_dukWritten (s : State) (lo hi : Nat) : (clearRange s lo hi).dukWritten = s.dukWritten := rfl
@[simp] theorem clearRange_lastRead (s : State) (lo hi : Nat) : (clearRange s lo hi).lastRead = s.lastRead := rfl
@[simp] theorem clearRange_boot (s : State) (lo hi : Nat) : (clearRange s lo hi).boot = s.boot := rfl
@[simp] theorem clearRange_dbg (s : State) (lo hi : Nat) : (clearRange s lo hi).dbg = s.dbg := rfl
@[simp] theorem clearRange_pcc (s : State) (lo hi : Nat) : (clearRange s lo hi).pcc = s.pcc := rfl
@[simp] theorem clearRange_remote (s : State) (lo hi : Nat) : (clearRange s lo hi).remote = s.remote := rfl
@[simp] theorem clearRange_nextTag (s : State) (lo hi : Nat) : (clearRange s lo hi).nextTag = s.nextTag := rfl
@[simp] theorem clearRange_pcie (s : State) (lo hi : Nat) : (clearRange s lo hi).pcie = s.pcie := rfl
@[simp] theorem clearRange_sdk (s : State) (lo hi : Nat) : (clearRange s lo hi).sdk = s.sdk := rfl
@[simp] theorem clearRange_sdkMarks (s : State) (lo hi : Nat) : (clearRange s lo hi).sdkMarks = s.sdkMarks := rfl
@[simp] theorem clearRange_streams (s : State) (lo hi : Nat) : (clearRange s lo hi).streams = s.streams := rfl
@[simp] theorem clearRange_scenes (s : State) (lo hi : Nat) : (clearRange s lo hi).scenes = s.scenes := rfl
@[simp] theorem clearRange_io (s : State) (lo hi : Nat) : (clearRange s lo hi).io = s.io := rfl
@[simp] theorem clearRange_hcpRefused (s : State) (lo hi : Nat) : (clearRange s lo hi).hcpRefused = s.hcpRefused := rfl
@[simp] theorem clearRange_balls (s : State) (lo hi : Nat) : (clearRange s lo hi).balls = s.balls := rfl

/-! `setGrant` -/

@[simp] theorem setGrant_variant (s : State) (n : Nat) (g : Grant) : (setGrant s n g).variant = s.variant := rfl
@[simp] theorem setGrant_pending (s : State) (n : Nat) (g : Grant) : (setGrant s n g).pending = s.pending := rfl
@[simp] theorem setGrant_freeIx (s : State) (n : Nat) (g : Grant) : (setGrant s n g).freeIx = s.freeIx := rfl
@[simp] theorem setGrant_regs (s : State) (n : Nat) (g : Grant) : (setGrant s n g).regs = s.regs := rfl
@[simp] theorem setGrant_mem (s : State) (n : Nat) (g : Grant) : (setGrant s n g).mem = s.mem := rfl
@[simp] theorem setGrant_lpddr (s : State) (n : Nat) (g : Grant) : (setGrant s n g).lpddr = s.lpddr := rfl
@[simp] theorem setGrant_dtb (s : State) (n : Nat) (g : Grant) : (setGrant s n g).dtb = s.dtb := rfl
@[simp] theorem setGrant_ticks (s : State) (n : Nat) (g : Grant) : (setGrant s n g).ticks = s.ticks := rfl
@[simp] theorem setGrant_servo (s : State) (n : Nat) (g : Grant) : (setGrant s n g).servo = s.servo := rfl
@[simp] theorem setGrant_cores (s : State) (n : Nat) (g : Grant) : (setGrant s n g).cores = s.cores := rfl
@[simp] theorem setGrant_ring0 (s : State) (n : Nat) (g : Grant) : (setGrant s n g).ring0 = s.ring0 := rfl
@[simp] theorem setGrant_ring1 (s : State) (n : Nat) (g : Grant) : (setGrant s n g).ring1 = s.ring1 := rfl
@[simp] theorem setGrant_ring2 (s : State) (n : Nat) (g : Grant) : (setGrant s n g).ring2 = s.ring2 := rfl
@[simp] theorem setGrant_claims (s : State) (n : Nat) (g : Grant) : (setGrant s n g).claims = s.claims := rfl
@[simp] theorem setGrant_bungs (s : State) (n : Nat) (g : Grant) : (setGrant s n g).bungs = s.bungs := rfl
@[simp] theorem setGrant_sparge (s : State) (n : Nat) (g : Grant) : (setGrant s n g).sparge = s.sparge := rfl
@[simp] theorem setGrant_journal (s : State) (n : Nat) (g : Grant) : (setGrant s n g).journal = s.journal := rfl
@[simp] theorem setGrant_doors (s : State) (n : Nat) (g : Grant) : (setGrant s n g).doors = s.doors := rfl
@[simp] theorem setGrant_safeWait (s : State) (n : Nat) (g : Grant) : (setGrant s n g).safeWait = s.safeWait := rfl
@[simp] theorem setGrant_steep (s : State) (n : Nat) (g : Grant) : (setGrant s n g).steep = s.steep := rfl
@[simp] theorem setGrant_eccPend (s : State) (n : Nat) (g : Grant) : (setGrant s n g).eccPend = s.eccPend := rfl
@[simp] theorem setGrant_retiredSeen (s : State) (n : Nat) (g : Grant) : (setGrant s n g).retiredSeen = s.retiredSeen := rfl
@[simp] theorem setGrant_otp (s : State) (n : Nat) (g : Grant) : (setGrant s n g).otp = s.otp := rfl
@[simp] theorem setGrant_wire (s : State) (n : Nat) (g : Grant) : (setGrant s n g).wire = s.wire := rfl
@[simp] theorem setGrant_keeve (s : State) (n : Nat) (g : Grant) : (setGrant s n g).keeve = s.keeve := rfl
@[simp] theorem setGrant_copper (s : State) (n : Nat) (g : Grant) : (setGrant s n g).copper = s.copper := rfl
@[simp] theorem setGrant_trng (s : State) (n : Nat) (g : Grant) : (setGrant s n g).trng = s.trng := rfl
@[simp] theorem setGrant_dukWritten (s : State) (n : Nat) (g : Grant) : (setGrant s n g).dukWritten = s.dukWritten := rfl
@[simp] theorem setGrant_lastRead (s : State) (n : Nat) (g : Grant) : (setGrant s n g).lastRead = s.lastRead := rfl
@[simp] theorem setGrant_boot (s : State) (n : Nat) (g : Grant) : (setGrant s n g).boot = s.boot := rfl
@[simp] theorem setGrant_dbg (s : State) (n : Nat) (g : Grant) : (setGrant s n g).dbg = s.dbg := rfl
@[simp] theorem setGrant_pcc (s : State) (n : Nat) (g : Grant) : (setGrant s n g).pcc = s.pcc := rfl
@[simp] theorem setGrant_remote (s : State) (n : Nat) (g : Grant) : (setGrant s n g).remote = s.remote := rfl
@[simp] theorem setGrant_nextTag (s : State) (n : Nat) (g : Grant) : (setGrant s n g).nextTag = s.nextTag := rfl
@[simp] theorem setGrant_pcie (s : State) (n : Nat) (g : Grant) : (setGrant s n g).pcie = s.pcie := rfl
@[simp] theorem setGrant_sdk (s : State) (n : Nat) (g : Grant) : (setGrant s n g).sdk = s.sdk := rfl
@[simp] theorem setGrant_sdkMarks (s : State) (n : Nat) (g : Grant) : (setGrant s n g).sdkMarks = s.sdkMarks := rfl
@[simp] theorem setGrant_streams (s : State) (n : Nat) (g : Grant) : (setGrant s n g).streams = s.streams := rfl
@[simp] theorem setGrant_scenes (s : State) (n : Nat) (g : Grant) : (setGrant s n g).scenes = s.scenes := rfl
@[simp] theorem setGrant_io (s : State) (n : Nat) (g : Grant) : (setGrant s n g).io = s.io := rfl
@[simp] theorem setGrant_hcpRefused (s : State) (n : Nat) (g : Grant) : (setGrant s n g).hcpRefused = s.hcpRefused := rfl
@[simp] theorem setGrant_balls (s : State) (n : Nat) (g : Grant) : (setGrant s n g).balls = s.balls := rfl

/-! `setSpQueue` -/

@[simp] theorem setSpQueue_variant (s : State) (c : Nat) (q : List SpEntry) : (setSpQueue s c q).variant = s.variant := rfl
@[simp] theorem setSpQueue_pending (s : State) (c : Nat) (q : List SpEntry) : (setSpQueue s c q).pending = s.pending := rfl
@[simp] theorem setSpQueue_freeIx (s : State) (c : Nat) (q : List SpEntry) : (setSpQueue s c q).freeIx = s.freeIx := rfl
@[simp] theorem setSpQueue_regs (s : State) (c : Nat) (q : List SpEntry) : (setSpQueue s c q).regs = s.regs := rfl
@[simp] theorem setSpQueue_mem (s : State) (c : Nat) (q : List SpEntry) : (setSpQueue s c q).mem = s.mem := rfl
@[simp] theorem setSpQueue_lpddr (s : State) (c : Nat) (q : List SpEntry) : (setSpQueue s c q).lpddr = s.lpddr := rfl
@[simp] theorem setSpQueue_dtb (s : State) (c : Nat) (q : List SpEntry) : (setSpQueue s c q).dtb = s.dtb := rfl
@[simp] theorem setSpQueue_ticks (s : State) (c : Nat) (q : List SpEntry) : (setSpQueue s c q).ticks = s.ticks := rfl
@[simp] theorem setSpQueue_servo (s : State) (c : Nat) (q : List SpEntry) : (setSpQueue s c q).servo = s.servo := rfl
@[simp] theorem setSpQueue_cores (s : State) (c : Nat) (q : List SpEntry) : (setSpQueue s c q).cores = s.cores := rfl
@[simp] theorem setSpQueue_ring0 (s : State) (c : Nat) (q : List SpEntry) : (setSpQueue s c q).ring0 = s.ring0 := rfl
@[simp] theorem setSpQueue_ring1 (s : State) (c : Nat) (q : List SpEntry) : (setSpQueue s c q).ring1 = s.ring1 := rfl
@[simp] theorem setSpQueue_ring2 (s : State) (c : Nat) (q : List SpEntry) : (setSpQueue s c q).ring2 = s.ring2 := rfl
@[simp] theorem setSpQueue_claims (s : State) (c : Nat) (q : List SpEntry) : (setSpQueue s c q).claims = s.claims := rfl
@[simp] theorem setSpQueue_bungs (s : State) (c : Nat) (q : List SpEntry) : (setSpQueue s c q).bungs = s.bungs := rfl
@[simp] theorem setSpQueue_grants (s : State) (c : Nat) (q : List SpEntry) : (setSpQueue s c q).grants = s.grants := rfl
@[simp] theorem setSpQueue_journal (s : State) (c : Nat) (q : List SpEntry) : (setSpQueue s c q).journal = s.journal := rfl
@[simp] theorem setSpQueue_doors (s : State) (c : Nat) (q : List SpEntry) : (setSpQueue s c q).doors = s.doors := rfl
@[simp] theorem setSpQueue_safeWait (s : State) (c : Nat) (q : List SpEntry) : (setSpQueue s c q).safeWait = s.safeWait := rfl
@[simp] theorem setSpQueue_steep (s : State) (c : Nat) (q : List SpEntry) : (setSpQueue s c q).steep = s.steep := rfl
@[simp] theorem setSpQueue_eccPend (s : State) (c : Nat) (q : List SpEntry) : (setSpQueue s c q).eccPend = s.eccPend := rfl
@[simp] theorem setSpQueue_retiredSeen (s : State) (c : Nat) (q : List SpEntry) : (setSpQueue s c q).retiredSeen = s.retiredSeen := rfl
@[simp] theorem setSpQueue_otp (s : State) (c : Nat) (q : List SpEntry) : (setSpQueue s c q).otp = s.otp := rfl
@[simp] theorem setSpQueue_wire (s : State) (c : Nat) (q : List SpEntry) : (setSpQueue s c q).wire = s.wire := rfl
@[simp] theorem setSpQueue_keeve (s : State) (c : Nat) (q : List SpEntry) : (setSpQueue s c q).keeve = s.keeve := rfl
@[simp] theorem setSpQueue_copper (s : State) (c : Nat) (q : List SpEntry) : (setSpQueue s c q).copper = s.copper := rfl
@[simp] theorem setSpQueue_trng (s : State) (c : Nat) (q : List SpEntry) : (setSpQueue s c q).trng = s.trng := rfl
@[simp] theorem setSpQueue_dukWritten (s : State) (c : Nat) (q : List SpEntry) : (setSpQueue s c q).dukWritten = s.dukWritten := rfl
@[simp] theorem setSpQueue_lastRead (s : State) (c : Nat) (q : List SpEntry) : (setSpQueue s c q).lastRead = s.lastRead := rfl
@[simp] theorem setSpQueue_boot (s : State) (c : Nat) (q : List SpEntry) : (setSpQueue s c q).boot = s.boot := rfl
@[simp] theorem setSpQueue_dbg (s : State) (c : Nat) (q : List SpEntry) : (setSpQueue s c q).dbg = s.dbg := rfl
@[simp] theorem setSpQueue_pcc (s : State) (c : Nat) (q : List SpEntry) : (setSpQueue s c q).pcc = s.pcc := rfl
@[simp] theorem setSpQueue_remote (s : State) (c : Nat) (q : List SpEntry) : (setSpQueue s c q).remote = s.remote := rfl
@[simp] theorem setSpQueue_nextTag (s : State) (c : Nat) (q : List SpEntry) : (setSpQueue s c q).nextTag = s.nextTag := rfl
@[simp] theorem setSpQueue_pcie (s : State) (c : Nat) (q : List SpEntry) : (setSpQueue s c q).pcie = s.pcie := rfl
@[simp] theorem setSpQueue_sdk (s : State) (c : Nat) (q : List SpEntry) : (setSpQueue s c q).sdk = s.sdk := rfl
@[simp] theorem setSpQueue_sdkMarks (s : State) (c : Nat) (q : List SpEntry) : (setSpQueue s c q).sdkMarks = s.sdkMarks := rfl
@[simp] theorem setSpQueue_streams (s : State) (c : Nat) (q : List SpEntry) : (setSpQueue s c q).streams = s.streams := rfl
@[simp] theorem setSpQueue_scenes (s : State) (c : Nat) (q : List SpEntry) : (setSpQueue s c q).scenes = s.scenes := rfl
@[simp] theorem setSpQueue_io (s : State) (c : Nat) (q : List SpEntry) : (setSpQueue s c q).io = s.io := rfl
@[simp] theorem setSpQueue_hcpRefused (s : State) (c : Nat) (q : List SpEntry) : (setSpQueue s c q).hcpRefused = s.hcpRefused := rfl
@[simp] theorem setSpQueue_balls (s : State) (c : Nat) (q : List SpEntry) : (setSpQueue s c q).balls = s.balls := rfl

/-! `setJ` -/

@[simp] theorem setJ_variant (s : State) (j : Nat) (e : JEntry) : (setJ s j e).variant = s.variant := rfl
@[simp] theorem setJ_pending (s : State) (j : Nat) (e : JEntry) : (setJ s j e).pending = s.pending := rfl
@[simp] theorem setJ_freeIx (s : State) (j : Nat) (e : JEntry) : (setJ s j e).freeIx = s.freeIx := rfl
@[simp] theorem setJ_regs (s : State) (j : Nat) (e : JEntry) : (setJ s j e).regs = s.regs := rfl
@[simp] theorem setJ_mem (s : State) (j : Nat) (e : JEntry) : (setJ s j e).mem = s.mem := rfl
@[simp] theorem setJ_lpddr (s : State) (j : Nat) (e : JEntry) : (setJ s j e).lpddr = s.lpddr := rfl
@[simp] theorem setJ_dtb (s : State) (j : Nat) (e : JEntry) : (setJ s j e).dtb = s.dtb := rfl
@[simp] theorem setJ_ticks (s : State) (j : Nat) (e : JEntry) : (setJ s j e).ticks = s.ticks := rfl
@[simp] theorem setJ_servo (s : State) (j : Nat) (e : JEntry) : (setJ s j e).servo = s.servo := rfl
@[simp] theorem setJ_cores (s : State) (j : Nat) (e : JEntry) : (setJ s j e).cores = s.cores := rfl
@[simp] theorem setJ_ring0 (s : State) (j : Nat) (e : JEntry) : (setJ s j e).ring0 = s.ring0 := rfl
@[simp] theorem setJ_ring1 (s : State) (j : Nat) (e : JEntry) : (setJ s j e).ring1 = s.ring1 := rfl
@[simp] theorem setJ_ring2 (s : State) (j : Nat) (e : JEntry) : (setJ s j e).ring2 = s.ring2 := rfl
@[simp] theorem setJ_claims (s : State) (j : Nat) (e : JEntry) : (setJ s j e).claims = s.claims := rfl
@[simp] theorem setJ_bungs (s : State) (j : Nat) (e : JEntry) : (setJ s j e).bungs = s.bungs := rfl
@[simp] theorem setJ_grants (s : State) (j : Nat) (e : JEntry) : (setJ s j e).grants = s.grants := rfl
@[simp] theorem setJ_sparge (s : State) (j : Nat) (e : JEntry) : (setJ s j e).sparge = s.sparge := rfl
@[simp] theorem setJ_doors (s : State) (j : Nat) (e : JEntry) : (setJ s j e).doors = s.doors := rfl
@[simp] theorem setJ_safeWait (s : State) (j : Nat) (e : JEntry) : (setJ s j e).safeWait = s.safeWait := rfl
@[simp] theorem setJ_steep (s : State) (j : Nat) (e : JEntry) : (setJ s j e).steep = s.steep := rfl
@[simp] theorem setJ_eccPend (s : State) (j : Nat) (e : JEntry) : (setJ s j e).eccPend = s.eccPend := rfl
@[simp] theorem setJ_retiredSeen (s : State) (j : Nat) (e : JEntry) : (setJ s j e).retiredSeen = s.retiredSeen := rfl
@[simp] theorem setJ_otp (s : State) (j : Nat) (e : JEntry) : (setJ s j e).otp = s.otp := rfl
@[simp] theorem setJ_wire (s : State) (j : Nat) (e : JEntry) : (setJ s j e).wire = s.wire := rfl
@[simp] theorem setJ_keeve (s : State) (j : Nat) (e : JEntry) : (setJ s j e).keeve = s.keeve := rfl
@[simp] theorem setJ_copper (s : State) (j : Nat) (e : JEntry) : (setJ s j e).copper = s.copper := rfl
@[simp] theorem setJ_trng (s : State) (j : Nat) (e : JEntry) : (setJ s j e).trng = s.trng := rfl
@[simp] theorem setJ_dukWritten (s : State) (j : Nat) (e : JEntry) : (setJ s j e).dukWritten = s.dukWritten := rfl
@[simp] theorem setJ_lastRead (s : State) (j : Nat) (e : JEntry) : (setJ s j e).lastRead = s.lastRead := rfl
@[simp] theorem setJ_boot (s : State) (j : Nat) (e : JEntry) : (setJ s j e).boot = s.boot := rfl
@[simp] theorem setJ_dbg (s : State) (j : Nat) (e : JEntry) : (setJ s j e).dbg = s.dbg := rfl
@[simp] theorem setJ_pcc (s : State) (j : Nat) (e : JEntry) : (setJ s j e).pcc = s.pcc := rfl
@[simp] theorem setJ_remote (s : State) (j : Nat) (e : JEntry) : (setJ s j e).remote = s.remote := rfl
@[simp] theorem setJ_nextTag (s : State) (j : Nat) (e : JEntry) : (setJ s j e).nextTag = s.nextTag := rfl
@[simp] theorem setJ_pcie (s : State) (j : Nat) (e : JEntry) : (setJ s j e).pcie = s.pcie := rfl
@[simp] theorem setJ_sdk (s : State) (j : Nat) (e : JEntry) : (setJ s j e).sdk = s.sdk := rfl
@[simp] theorem setJ_sdkMarks (s : State) (j : Nat) (e : JEntry) : (setJ s j e).sdkMarks = s.sdkMarks := rfl
@[simp] theorem setJ_streams (s : State) (j : Nat) (e : JEntry) : (setJ s j e).streams = s.streams := rfl
@[simp] theorem setJ_scenes (s : State) (j : Nat) (e : JEntry) : (setJ s j e).scenes = s.scenes := rfl
@[simp] theorem setJ_io (s : State) (j : Nat) (e : JEntry) : (setJ s j e).io = s.io := rfl
@[simp] theorem setJ_hcpRefused (s : State) (j : Nat) (e : JEntry) : (setJ s j e).hcpRefused = s.hcpRefused := rfl
@[simp] theorem setJ_balls (s : State) (j : Nat) (e : JEntry) : (setJ s j e).balls = s.balls := rfl

/-! `setBung` -/

@[simp] theorem setBung_variant (s : State) (n : Nat) (b : BungState) : (setBung s n b).variant = s.variant := rfl
@[simp] theorem setBung_pending (s : State) (n : Nat) (b : BungState) : (setBung s n b).pending = s.pending := rfl
@[simp] theorem setBung_freeIx (s : State) (n : Nat) (b : BungState) : (setBung s n b).freeIx = s.freeIx := rfl
@[simp] theorem setBung_regs (s : State) (n : Nat) (b : BungState) : (setBung s n b).regs = s.regs := rfl
@[simp] theorem setBung_mem (s : State) (n : Nat) (b : BungState) : (setBung s n b).mem = s.mem := rfl
@[simp] theorem setBung_lpddr (s : State) (n : Nat) (b : BungState) : (setBung s n b).lpddr = s.lpddr := rfl
@[simp] theorem setBung_dtb (s : State) (n : Nat) (b : BungState) : (setBung s n b).dtb = s.dtb := rfl
@[simp] theorem setBung_ticks (s : State) (n : Nat) (b : BungState) : (setBung s n b).ticks = s.ticks := rfl
@[simp] theorem setBung_servo (s : State) (n : Nat) (b : BungState) : (setBung s n b).servo = s.servo := rfl
@[simp] theorem setBung_cores (s : State) (n : Nat) (b : BungState) : (setBung s n b).cores = s.cores := rfl
@[simp] theorem setBung_ring0 (s : State) (n : Nat) (b : BungState) : (setBung s n b).ring0 = s.ring0 := rfl
@[simp] theorem setBung_ring1 (s : State) (n : Nat) (b : BungState) : (setBung s n b).ring1 = s.ring1 := rfl
@[simp] theorem setBung_ring2 (s : State) (n : Nat) (b : BungState) : (setBung s n b).ring2 = s.ring2 := rfl
@[simp] theorem setBung_claims (s : State) (n : Nat) (b : BungState) : (setBung s n b).claims = s.claims := rfl
@[simp] theorem setBung_grants (s : State) (n : Nat) (b : BungState) : (setBung s n b).grants = s.grants := rfl
@[simp] theorem setBung_sparge (s : State) (n : Nat) (b : BungState) : (setBung s n b).sparge = s.sparge := rfl
@[simp] theorem setBung_journal (s : State) (n : Nat) (b : BungState) : (setBung s n b).journal = s.journal := rfl
@[simp] theorem setBung_doors (s : State) (n : Nat) (b : BungState) : (setBung s n b).doors = s.doors := rfl
@[simp] theorem setBung_safeWait (s : State) (n : Nat) (b : BungState) : (setBung s n b).safeWait = s.safeWait := rfl
@[simp] theorem setBung_steep (s : State) (n : Nat) (b : BungState) : (setBung s n b).steep = s.steep := rfl
@[simp] theorem setBung_eccPend (s : State) (n : Nat) (b : BungState) : (setBung s n b).eccPend = s.eccPend := rfl
@[simp] theorem setBung_retiredSeen (s : State) (n : Nat) (b : BungState) : (setBung s n b).retiredSeen = s.retiredSeen := rfl
@[simp] theorem setBung_otp (s : State) (n : Nat) (b : BungState) : (setBung s n b).otp = s.otp := rfl
@[simp] theorem setBung_wire (s : State) (n : Nat) (b : BungState) : (setBung s n b).wire = s.wire := rfl
@[simp] theorem setBung_keeve (s : State) (n : Nat) (b : BungState) : (setBung s n b).keeve = s.keeve := rfl
@[simp] theorem setBung_copper (s : State) (n : Nat) (b : BungState) : (setBung s n b).copper = s.copper := rfl
@[simp] theorem setBung_trng (s : State) (n : Nat) (b : BungState) : (setBung s n b).trng = s.trng := rfl
@[simp] theorem setBung_dukWritten (s : State) (n : Nat) (b : BungState) : (setBung s n b).dukWritten = s.dukWritten := rfl
@[simp] theorem setBung_lastRead (s : State) (n : Nat) (b : BungState) : (setBung s n b).lastRead = s.lastRead := rfl
@[simp] theorem setBung_boot (s : State) (n : Nat) (b : BungState) : (setBung s n b).boot = s.boot := rfl
@[simp] theorem setBung_dbg (s : State) (n : Nat) (b : BungState) : (setBung s n b).dbg = s.dbg := rfl
@[simp] theorem setBung_pcc (s : State) (n : Nat) (b : BungState) : (setBung s n b).pcc = s.pcc := rfl
@[simp] theorem setBung_remote (s : State) (n : Nat) (b : BungState) : (setBung s n b).remote = s.remote := rfl
@[simp] theorem setBung_nextTag (s : State) (n : Nat) (b : BungState) : (setBung s n b).nextTag = s.nextTag := rfl
@[simp] theorem setBung_pcie (s : State) (n : Nat) (b : BungState) : (setBung s n b).pcie = s.pcie := rfl
@[simp] theorem setBung_sdk (s : State) (n : Nat) (b : BungState) : (setBung s n b).sdk = s.sdk := rfl
@[simp] theorem setBung_sdkMarks (s : State) (n : Nat) (b : BungState) : (setBung s n b).sdkMarks = s.sdkMarks := rfl
@[simp] theorem setBung_streams (s : State) (n : Nat) (b : BungState) : (setBung s n b).streams = s.streams := rfl
@[simp] theorem setBung_scenes (s : State) (n : Nat) (b : BungState) : (setBung s n b).scenes = s.scenes := rfl
@[simp] theorem setBung_io (s : State) (n : Nat) (b : BungState) : (setBung s n b).io = s.io := rfl
@[simp] theorem setBung_hcpRefused (s : State) (n : Nat) (b : BungState) : (setBung s n b).hcpRefused = s.hcpRefused := rfl
@[simp] theorem setBung_balls (s : State) (n : Nat) (b : BungState) : (setBung s n b).balls = s.balls := rfl

/-! `setCx` -/

@[simp] theorem setCx_variant (s : State) (n : Nat) (c : Cx) : (setCx s n c).variant = s.variant := rfl
@[simp] theorem setCx_pending (s : State) (n : Nat) (c : Cx) : (setCx s n c).pending = s.pending := rfl
@[simp] theorem setCx_freeIx (s : State) (n : Nat) (c : Cx) : (setCx s n c).freeIx = s.freeIx := rfl
@[simp] theorem setCx_regs (s : State) (n : Nat) (c : Cx) : (setCx s n c).regs = s.regs := rfl
@[simp] theorem setCx_mem (s : State) (n : Nat) (c : Cx) : (setCx s n c).mem = s.mem := rfl
@[simp] theorem setCx_lpddr (s : State) (n : Nat) (c : Cx) : (setCx s n c).lpddr = s.lpddr := rfl
@[simp] theorem setCx_dtb (s : State) (n : Nat) (c : Cx) : (setCx s n c).dtb = s.dtb := rfl
@[simp] theorem setCx_ticks (s : State) (n : Nat) (c : Cx) : (setCx s n c).ticks = s.ticks := rfl
@[simp] theorem setCx_servo (s : State) (n : Nat) (c : Cx) : (setCx s n c).servo = s.servo := rfl
@[simp] theorem setCx_cores (s : State) (n : Nat) (c : Cx) : (setCx s n c).cores = s.cores := rfl
@[simp] theorem setCx_ring0 (s : State) (n : Nat) (c : Cx) : (setCx s n c).ring0 = s.ring0 := rfl
@[simp] theorem setCx_ring1 (s : State) (n : Nat) (c : Cx) : (setCx s n c).ring1 = s.ring1 := rfl
@[simp] theorem setCx_ring2 (s : State) (n : Nat) (c : Cx) : (setCx s n c).ring2 = s.ring2 := rfl
@[simp] theorem setCx_claims (s : State) (n : Nat) (c : Cx) : (setCx s n c).claims = s.claims := rfl
@[simp] theorem setCx_bungs (s : State) (n : Nat) (c : Cx) : (setCx s n c).bungs = s.bungs := rfl
@[simp] theorem setCx_grants (s : State) (n : Nat) (c : Cx) : (setCx s n c).grants = s.grants := rfl
@[simp] theorem setCx_sparge (s : State) (n : Nat) (c : Cx) : (setCx s n c).sparge = s.sparge := rfl
@[simp] theorem setCx_journal (s : State) (n : Nat) (c : Cx) : (setCx s n c).journal = s.journal := rfl
@[simp] theorem setCx_doors (s : State) (n : Nat) (c : Cx) : (setCx s n c).doors = s.doors := rfl
@[simp] theorem setCx_safeWait (s : State) (n : Nat) (c : Cx) : (setCx s n c).safeWait = s.safeWait := rfl
@[simp] theorem setCx_steep (s : State) (n : Nat) (c : Cx) : (setCx s n c).steep = s.steep := rfl
@[simp] theorem setCx_eccPend (s : State) (n : Nat) (c : Cx) : (setCx s n c).eccPend = s.eccPend := rfl
@[simp] theorem setCx_retiredSeen (s : State) (n : Nat) (c : Cx) : (setCx s n c).retiredSeen = s.retiredSeen := rfl
@[simp] theorem setCx_otp (s : State) (n : Nat) (c : Cx) : (setCx s n c).otp = s.otp := rfl
@[simp] theorem setCx_wire (s : State) (n : Nat) (c : Cx) : (setCx s n c).wire = s.wire := rfl
@[simp] theorem setCx_keeve (s : State) (n : Nat) (c : Cx) : (setCx s n c).keeve = s.keeve := rfl
@[simp] theorem setCx_trng (s : State) (n : Nat) (c : Cx) : (setCx s n c).trng = s.trng := rfl
@[simp] theorem setCx_dukWritten (s : State) (n : Nat) (c : Cx) : (setCx s n c).dukWritten = s.dukWritten := rfl
@[simp] theorem setCx_lastRead (s : State) (n : Nat) (c : Cx) : (setCx s n c).lastRead = s.lastRead := rfl
@[simp] theorem setCx_boot (s : State) (n : Nat) (c : Cx) : (setCx s n c).boot = s.boot := rfl
@[simp] theorem setCx_dbg (s : State) (n : Nat) (c : Cx) : (setCx s n c).dbg = s.dbg := rfl
@[simp] theorem setCx_pcc (s : State) (n : Nat) (c : Cx) : (setCx s n c).pcc = s.pcc := rfl
@[simp] theorem setCx_remote (s : State) (n : Nat) (c : Cx) : (setCx s n c).remote = s.remote := rfl
@[simp] theorem setCx_nextTag (s : State) (n : Nat) (c : Cx) : (setCx s n c).nextTag = s.nextTag := rfl
@[simp] theorem setCx_pcie (s : State) (n : Nat) (c : Cx) : (setCx s n c).pcie = s.pcie := rfl
@[simp] theorem setCx_sdk (s : State) (n : Nat) (c : Cx) : (setCx s n c).sdk = s.sdk := rfl
@[simp] theorem setCx_sdkMarks (s : State) (n : Nat) (c : Cx) : (setCx s n c).sdkMarks = s.sdkMarks := rfl
@[simp] theorem setCx_streams (s : State) (n : Nat) (c : Cx) : (setCx s n c).streams = s.streams := rfl
@[simp] theorem setCx_scenes (s : State) (n : Nat) (c : Cx) : (setCx s n c).scenes = s.scenes := rfl
@[simp] theorem setCx_io (s : State) (n : Nat) (c : Cx) : (setCx s n c).io = s.io := rfl
@[simp] theorem setCx_hcpRefused (s : State) (n : Nat) (c : Cx) : (setCx s n c).hcpRefused = s.hcpRefused := rfl
@[simp] theorem setCx_balls (s : State) (n : Nat) (c : Cx) : (setCx s n c).balls = s.balls := rfl

/-! `setPort` -/

@[simp] theorem setPort_variant (s : State) (n : Nat) (p : SdkPort) : (setPort s n p).variant = s.variant := rfl
@[simp] theorem setPort_pending (s : State) (n : Nat) (p : SdkPort) : (setPort s n p).pending = s.pending := rfl
@[simp] theorem setPort_freeIx (s : State) (n : Nat) (p : SdkPort) : (setPort s n p).freeIx = s.freeIx := rfl
@[simp] theorem setPort_regs (s : State) (n : Nat) (p : SdkPort) : (setPort s n p).regs = s.regs := rfl
@[simp] theorem setPort_mem (s : State) (n : Nat) (p : SdkPort) : (setPort s n p).mem = s.mem := rfl
@[simp] theorem setPort_lpddr (s : State) (n : Nat) (p : SdkPort) : (setPort s n p).lpddr = s.lpddr := rfl
@[simp] theorem setPort_dtb (s : State) (n : Nat) (p : SdkPort) : (setPort s n p).dtb = s.dtb := rfl
@[simp] theorem setPort_ticks (s : State) (n : Nat) (p : SdkPort) : (setPort s n p).ticks = s.ticks := rfl
@[simp] theorem setPort_servo (s : State) (n : Nat) (p : SdkPort) : (setPort s n p).servo = s.servo := rfl
@[simp] theorem setPort_cores (s : State) (n : Nat) (p : SdkPort) : (setPort s n p).cores = s.cores := rfl
@[simp] theorem setPort_ring0 (s : State) (n : Nat) (p : SdkPort) : (setPort s n p).ring0 = s.ring0 := rfl
@[simp] theorem setPort_ring1 (s : State) (n : Nat) (p : SdkPort) : (setPort s n p).ring1 = s.ring1 := rfl
@[simp] theorem setPort_ring2 (s : State) (n : Nat) (p : SdkPort) : (setPort s n p).ring2 = s.ring2 := rfl
@[simp] theorem setPort_claims (s : State) (n : Nat) (p : SdkPort) : (setPort s n p).claims = s.claims := rfl
@[simp] theorem setPort_bungs (s : State) (n : Nat) (p : SdkPort) : (setPort s n p).bungs = s.bungs := rfl
@[simp] theorem setPort_grants (s : State) (n : Nat) (p : SdkPort) : (setPort s n p).grants = s.grants := rfl
@[simp] theorem setPort_sparge (s : State) (n : Nat) (p : SdkPort) : (setPort s n p).sparge = s.sparge := rfl
@[simp] theorem setPort_journal (s : State) (n : Nat) (p : SdkPort) : (setPort s n p).journal = s.journal := rfl
@[simp] theorem setPort_doors (s : State) (n : Nat) (p : SdkPort) : (setPort s n p).doors = s.doors := rfl
@[simp] theorem setPort_safeWait (s : State) (n : Nat) (p : SdkPort) : (setPort s n p).safeWait = s.safeWait := rfl
@[simp] theorem setPort_steep (s : State) (n : Nat) (p : SdkPort) : (setPort s n p).steep = s.steep := rfl
@[simp] theorem setPort_eccPend (s : State) (n : Nat) (p : SdkPort) : (setPort s n p).eccPend = s.eccPend := rfl
@[simp] theorem setPort_retiredSeen (s : State) (n : Nat) (p : SdkPort) : (setPort s n p).retiredSeen = s.retiredSeen := rfl
@[simp] theorem setPort_otp (s : State) (n : Nat) (p : SdkPort) : (setPort s n p).otp = s.otp := rfl
@[simp] theorem setPort_wire (s : State) (n : Nat) (p : SdkPort) : (setPort s n p).wire = s.wire := rfl
@[simp] theorem setPort_keeve (s : State) (n : Nat) (p : SdkPort) : (setPort s n p).keeve = s.keeve := rfl
@[simp] theorem setPort_copper (s : State) (n : Nat) (p : SdkPort) : (setPort s n p).copper = s.copper := rfl
@[simp] theorem setPort_trng (s : State) (n : Nat) (p : SdkPort) : (setPort s n p).trng = s.trng := rfl
@[simp] theorem setPort_dukWritten (s : State) (n : Nat) (p : SdkPort) : (setPort s n p).dukWritten = s.dukWritten := rfl
@[simp] theorem setPort_lastRead (s : State) (n : Nat) (p : SdkPort) : (setPort s n p).lastRead = s.lastRead := rfl
@[simp] theorem setPort_boot (s : State) (n : Nat) (p : SdkPort) : (setPort s n p).boot = s.boot := rfl
@[simp] theorem setPort_dbg (s : State) (n : Nat) (p : SdkPort) : (setPort s n p).dbg = s.dbg := rfl
@[simp] theorem setPort_pcc (s : State) (n : Nat) (p : SdkPort) : (setPort s n p).pcc = s.pcc := rfl
@[simp] theorem setPort_remote (s : State) (n : Nat) (p : SdkPort) : (setPort s n p).remote = s.remote := rfl
@[simp] theorem setPort_nextTag (s : State) (n : Nat) (p : SdkPort) : (setPort s n p).nextTag = s.nextTag := rfl
@[simp] theorem setPort_pcie (s : State) (n : Nat) (p : SdkPort) : (setPort s n p).pcie = s.pcie := rfl
@[simp] theorem setPort_sdkMarks (s : State) (n : Nat) (p : SdkPort) : (setPort s n p).sdkMarks = s.sdkMarks := rfl
@[simp] theorem setPort_streams (s : State) (n : Nat) (p : SdkPort) : (setPort s n p).streams = s.streams := rfl
@[simp] theorem setPort_scenes (s : State) (n : Nat) (p : SdkPort) : (setPort s n p).scenes = s.scenes := rfl
@[simp] theorem setPort_io (s : State) (n : Nat) (p : SdkPort) : (setPort s n p).io = s.io := rfl
@[simp] theorem setPort_hcpRefused (s : State) (n : Nat) (p : SdkPort) : (setPort s n p).hcpRefused = s.hcpRefused := rfl
@[simp] theorem setPort_balls (s : State) (n : Nat) (p : SdkPort) : (setPort s n p).balls = s.balls := rfl

/-! `setStrm` -/

@[simp] theorem setStrm_variant (s : State) (n : Nat) (x : Stream) : (setStrm s n x).variant = s.variant := rfl
@[simp] theorem setStrm_pending (s : State) (n : Nat) (x : Stream) : (setStrm s n x).pending = s.pending := rfl
@[simp] theorem setStrm_freeIx (s : State) (n : Nat) (x : Stream) : (setStrm s n x).freeIx = s.freeIx := rfl
@[simp] theorem setStrm_regs (s : State) (n : Nat) (x : Stream) : (setStrm s n x).regs = s.regs := rfl
@[simp] theorem setStrm_mem (s : State) (n : Nat) (x : Stream) : (setStrm s n x).mem = s.mem := rfl
@[simp] theorem setStrm_lpddr (s : State) (n : Nat) (x : Stream) : (setStrm s n x).lpddr = s.lpddr := rfl
@[simp] theorem setStrm_dtb (s : State) (n : Nat) (x : Stream) : (setStrm s n x).dtb = s.dtb := rfl
@[simp] theorem setStrm_ticks (s : State) (n : Nat) (x : Stream) : (setStrm s n x).ticks = s.ticks := rfl
@[simp] theorem setStrm_servo (s : State) (n : Nat) (x : Stream) : (setStrm s n x).servo = s.servo := rfl
@[simp] theorem setStrm_cores (s : State) (n : Nat) (x : Stream) : (setStrm s n x).cores = s.cores := rfl
@[simp] theorem setStrm_ring0 (s : State) (n : Nat) (x : Stream) : (setStrm s n x).ring0 = s.ring0 := rfl
@[simp] theorem setStrm_ring1 (s : State) (n : Nat) (x : Stream) : (setStrm s n x).ring1 = s.ring1 := rfl
@[simp] theorem setStrm_ring2 (s : State) (n : Nat) (x : Stream) : (setStrm s n x).ring2 = s.ring2 := rfl
@[simp] theorem setStrm_claims (s : State) (n : Nat) (x : Stream) : (setStrm s n x).claims = s.claims := rfl
@[simp] theorem setStrm_bungs (s : State) (n : Nat) (x : Stream) : (setStrm s n x).bungs = s.bungs := rfl
@[simp] theorem setStrm_grants (s : State) (n : Nat) (x : Stream) : (setStrm s n x).grants = s.grants := rfl
@[simp] theorem setStrm_sparge (s : State) (n : Nat) (x : Stream) : (setStrm s n x).sparge = s.sparge := rfl
@[simp] theorem setStrm_journal (s : State) (n : Nat) (x : Stream) : (setStrm s n x).journal = s.journal := rfl
@[simp] theorem setStrm_doors (s : State) (n : Nat) (x : Stream) : (setStrm s n x).doors = s.doors := rfl
@[simp] theorem setStrm_safeWait (s : State) (n : Nat) (x : Stream) : (setStrm s n x).safeWait = s.safeWait := rfl
@[simp] theorem setStrm_steep (s : State) (n : Nat) (x : Stream) : (setStrm s n x).steep = s.steep := rfl
@[simp] theorem setStrm_eccPend (s : State) (n : Nat) (x : Stream) : (setStrm s n x).eccPend = s.eccPend := rfl
@[simp] theorem setStrm_retiredSeen (s : State) (n : Nat) (x : Stream) : (setStrm s n x).retiredSeen = s.retiredSeen := rfl
@[simp] theorem setStrm_otp (s : State) (n : Nat) (x : Stream) : (setStrm s n x).otp = s.otp := rfl
@[simp] theorem setStrm_wire (s : State) (n : Nat) (x : Stream) : (setStrm s n x).wire = s.wire := rfl
@[simp] theorem setStrm_keeve (s : State) (n : Nat) (x : Stream) : (setStrm s n x).keeve = s.keeve := rfl
@[simp] theorem setStrm_copper (s : State) (n : Nat) (x : Stream) : (setStrm s n x).copper = s.copper := rfl
@[simp] theorem setStrm_trng (s : State) (n : Nat) (x : Stream) : (setStrm s n x).trng = s.trng := rfl
@[simp] theorem setStrm_dukWritten (s : State) (n : Nat) (x : Stream) : (setStrm s n x).dukWritten = s.dukWritten := rfl
@[simp] theorem setStrm_lastRead (s : State) (n : Nat) (x : Stream) : (setStrm s n x).lastRead = s.lastRead := rfl
@[simp] theorem setStrm_boot (s : State) (n : Nat) (x : Stream) : (setStrm s n x).boot = s.boot := rfl
@[simp] theorem setStrm_dbg (s : State) (n : Nat) (x : Stream) : (setStrm s n x).dbg = s.dbg := rfl
@[simp] theorem setStrm_pcc (s : State) (n : Nat) (x : Stream) : (setStrm s n x).pcc = s.pcc := rfl
@[simp] theorem setStrm_remote (s : State) (n : Nat) (x : Stream) : (setStrm s n x).remote = s.remote := rfl
@[simp] theorem setStrm_nextTag (s : State) (n : Nat) (x : Stream) : (setStrm s n x).nextTag = s.nextTag := rfl
@[simp] theorem setStrm_pcie (s : State) (n : Nat) (x : Stream) : (setStrm s n x).pcie = s.pcie := rfl
@[simp] theorem setStrm_sdk (s : State) (n : Nat) (x : Stream) : (setStrm s n x).sdk = s.sdk := rfl
@[simp] theorem setStrm_sdkMarks (s : State) (n : Nat) (x : Stream) : (setStrm s n x).sdkMarks = s.sdkMarks := rfl
@[simp] theorem setStrm_scenes (s : State) (n : Nat) (x : Stream) : (setStrm s n x).scenes = s.scenes := rfl
@[simp] theorem setStrm_io (s : State) (n : Nat) (x : Stream) : (setStrm s n x).io = s.io := rfl
@[simp] theorem setStrm_hcpRefused (s : State) (n : Nat) (x : Stream) : (setStrm s n x).hcpRefused = s.hcpRefused := rfl
@[simp] theorem setStrm_balls (s : State) (n : Nat) (x : Stream) : (setStrm s n x).balls = s.balls := rfl

/-! `setSap` -/

@[simp] theorem setSap_variant (s : State) (p : Nat) (x : Sap) : (setSap s p x).variant = s.variant := rfl
@[simp] theorem setSap_pending (s : State) (p : Nat) (x : Sap) : (setSap s p x).pending = s.pending := rfl
@[simp] theorem setSap_freeIx (s : State) (p : Nat) (x : Sap) : (setSap s p x).freeIx = s.freeIx := rfl
@[simp] theorem setSap_regs (s : State) (p : Nat) (x : Sap) : (setSap s p x).regs = s.regs := rfl
@[simp] theorem setSap_mem (s : State) (p : Nat) (x : Sap) : (setSap s p x).mem = s.mem := rfl
@[simp] theorem setSap_lpddr (s : State) (p : Nat) (x : Sap) : (setSap s p x).lpddr = s.lpddr := rfl
@[simp] theorem setSap_dtb (s : State) (p : Nat) (x : Sap) : (setSap s p x).dtb = s.dtb := rfl
@[simp] theorem setSap_ticks (s : State) (p : Nat) (x : Sap) : (setSap s p x).ticks = s.ticks := rfl
@[simp] theorem setSap_servo (s : State) (p : Nat) (x : Sap) : (setSap s p x).servo = s.servo := rfl
@[simp] theorem setSap_cores (s : State) (p : Nat) (x : Sap) : (setSap s p x).cores = s.cores := rfl
@[simp] theorem setSap_ring0 (s : State) (p : Nat) (x : Sap) : (setSap s p x).ring0 = s.ring0 := rfl
@[simp] theorem setSap_ring1 (s : State) (p : Nat) (x : Sap) : (setSap s p x).ring1 = s.ring1 := rfl
@[simp] theorem setSap_ring2 (s : State) (p : Nat) (x : Sap) : (setSap s p x).ring2 = s.ring2 := rfl
@[simp] theorem setSap_claims (s : State) (p : Nat) (x : Sap) : (setSap s p x).claims = s.claims := rfl
@[simp] theorem setSap_bungs (s : State) (p : Nat) (x : Sap) : (setSap s p x).bungs = s.bungs := rfl
@[simp] theorem setSap_grants (s : State) (p : Nat) (x : Sap) : (setSap s p x).grants = s.grants := rfl
@[simp] theorem setSap_sparge (s : State) (p : Nat) (x : Sap) : (setSap s p x).sparge = s.sparge := rfl
@[simp] theorem setSap_journal (s : State) (p : Nat) (x : Sap) : (setSap s p x).journal = s.journal := rfl
@[simp] theorem setSap_doors (s : State) (p : Nat) (x : Sap) : (setSap s p x).doors = s.doors := rfl
@[simp] theorem setSap_safeWait (s : State) (p : Nat) (x : Sap) : (setSap s p x).safeWait = s.safeWait := rfl
@[simp] theorem setSap_steep (s : State) (p : Nat) (x : Sap) : (setSap s p x).steep = s.steep := rfl
@[simp] theorem setSap_eccPend (s : State) (p : Nat) (x : Sap) : (setSap s p x).eccPend = s.eccPend := rfl
@[simp] theorem setSap_retiredSeen (s : State) (p : Nat) (x : Sap) : (setSap s p x).retiredSeen = s.retiredSeen := rfl
@[simp] theorem setSap_otp (s : State) (p : Nat) (x : Sap) : (setSap s p x).otp = s.otp := rfl
@[simp] theorem setSap_wire (s : State) (p : Nat) (x : Sap) : (setSap s p x).wire = s.wire := rfl
@[simp] theorem setSap_keeve (s : State) (p : Nat) (x : Sap) : (setSap s p x).keeve = s.keeve := rfl
@[simp] theorem setSap_copper (s : State) (p : Nat) (x : Sap) : (setSap s p x).copper = s.copper := rfl
@[simp] theorem setSap_trng (s : State) (p : Nat) (x : Sap) : (setSap s p x).trng = s.trng := rfl
@[simp] theorem setSap_dukWritten (s : State) (p : Nat) (x : Sap) : (setSap s p x).dukWritten = s.dukWritten := rfl
@[simp] theorem setSap_lastRead (s : State) (p : Nat) (x : Sap) : (setSap s p x).lastRead = s.lastRead := rfl
@[simp] theorem setSap_boot (s : State) (p : Nat) (x : Sap) : (setSap s p x).boot = s.boot := rfl
@[simp] theorem setSap_dbg (s : State) (p : Nat) (x : Sap) : (setSap s p x).dbg = s.dbg := rfl
@[simp] theorem setSap_pcc (s : State) (p : Nat) (x : Sap) : (setSap s p x).pcc = s.pcc := rfl
@[simp] theorem setSap_remote (s : State) (p : Nat) (x : Sap) : (setSap s p x).remote = s.remote := rfl
@[simp] theorem setSap_nextTag (s : State) (p : Nat) (x : Sap) : (setSap s p x).nextTag = s.nextTag := rfl
@[simp] theorem setSap_pcie (s : State) (p : Nat) (x : Sap) : (setSap s p x).pcie = s.pcie := rfl
@[simp] theorem setSap_sdk (s : State) (p : Nat) (x : Sap) : (setSap s p x).sdk = s.sdk := rfl
@[simp] theorem setSap_sdkMarks (s : State) (p : Nat) (x : Sap) : (setSap s p x).sdkMarks = s.sdkMarks := rfl
@[simp] theorem setSap_streams (s : State) (p : Nat) (x : Sap) : (setSap s p x).streams = s.streams := rfl
@[simp] theorem setSap_scenes (s : State) (p : Nat) (x : Sap) : (setSap s p x).scenes = s.scenes := rfl
@[simp] theorem setSap_hcpRefused (s : State) (p : Nat) (x : Sap) : (setSap s p x).hcpRefused = s.hcpRefused := rfl
@[simp] theorem setSap_balls (s : State) (p : Nat) (x : Sap) : (setSap s p x).balls = s.balls := rfl

/-! `setSdiRx` -/

@[simp] theorem setSdiRx_variant (s : State) (p : Nat) (x : SdiRx) : (setSdiRx s p x).variant = s.variant := rfl
@[simp] theorem setSdiRx_pending (s : State) (p : Nat) (x : SdiRx) : (setSdiRx s p x).pending = s.pending := rfl
@[simp] theorem setSdiRx_freeIx (s : State) (p : Nat) (x : SdiRx) : (setSdiRx s p x).freeIx = s.freeIx := rfl
@[simp] theorem setSdiRx_regs (s : State) (p : Nat) (x : SdiRx) : (setSdiRx s p x).regs = s.regs := rfl
@[simp] theorem setSdiRx_mem (s : State) (p : Nat) (x : SdiRx) : (setSdiRx s p x).mem = s.mem := rfl
@[simp] theorem setSdiRx_lpddr (s : State) (p : Nat) (x : SdiRx) : (setSdiRx s p x).lpddr = s.lpddr := rfl
@[simp] theorem setSdiRx_dtb (s : State) (p : Nat) (x : SdiRx) : (setSdiRx s p x).dtb = s.dtb := rfl
@[simp] theorem setSdiRx_ticks (s : State) (p : Nat) (x : SdiRx) : (setSdiRx s p x).ticks = s.ticks := rfl
@[simp] theorem setSdiRx_servo (s : State) (p : Nat) (x : SdiRx) : (setSdiRx s p x).servo = s.servo := rfl
@[simp] theorem setSdiRx_cores (s : State) (p : Nat) (x : SdiRx) : (setSdiRx s p x).cores = s.cores := rfl
@[simp] theorem setSdiRx_ring0 (s : State) (p : Nat) (x : SdiRx) : (setSdiRx s p x).ring0 = s.ring0 := rfl
@[simp] theorem setSdiRx_ring1 (s : State) (p : Nat) (x : SdiRx) : (setSdiRx s p x).ring1 = s.ring1 := rfl
@[simp] theorem setSdiRx_ring2 (s : State) (p : Nat) (x : SdiRx) : (setSdiRx s p x).ring2 = s.ring2 := rfl
@[simp] theorem setSdiRx_claims (s : State) (p : Nat) (x : SdiRx) : (setSdiRx s p x).claims = s.claims := rfl
@[simp] theorem setSdiRx_bungs (s : State) (p : Nat) (x : SdiRx) : (setSdiRx s p x).bungs = s.bungs := rfl
@[simp] theorem setSdiRx_grants (s : State) (p : Nat) (x : SdiRx) : (setSdiRx s p x).grants = s.grants := rfl
@[simp] theorem setSdiRx_sparge (s : State) (p : Nat) (x : SdiRx) : (setSdiRx s p x).sparge = s.sparge := rfl
@[simp] theorem setSdiRx_journal (s : State) (p : Nat) (x : SdiRx) : (setSdiRx s p x).journal = s.journal := rfl
@[simp] theorem setSdiRx_doors (s : State) (p : Nat) (x : SdiRx) : (setSdiRx s p x).doors = s.doors := rfl
@[simp] theorem setSdiRx_safeWait (s : State) (p : Nat) (x : SdiRx) : (setSdiRx s p x).safeWait = s.safeWait := rfl
@[simp] theorem setSdiRx_steep (s : State) (p : Nat) (x : SdiRx) : (setSdiRx s p x).steep = s.steep := rfl
@[simp] theorem setSdiRx_eccPend (s : State) (p : Nat) (x : SdiRx) : (setSdiRx s p x).eccPend = s.eccPend := rfl
@[simp] theorem setSdiRx_retiredSeen (s : State) (p : Nat) (x : SdiRx) : (setSdiRx s p x).retiredSeen = s.retiredSeen := rfl
@[simp] theorem setSdiRx_otp (s : State) (p : Nat) (x : SdiRx) : (setSdiRx s p x).otp = s.otp := rfl
@[simp] theorem setSdiRx_wire (s : State) (p : Nat) (x : SdiRx) : (setSdiRx s p x).wire = s.wire := rfl
@[simp] theorem setSdiRx_keeve (s : State) (p : Nat) (x : SdiRx) : (setSdiRx s p x).keeve = s.keeve := rfl
@[simp] theorem setSdiRx_copper (s : State) (p : Nat) (x : SdiRx) : (setSdiRx s p x).copper = s.copper := rfl
@[simp] theorem setSdiRx_trng (s : State) (p : Nat) (x : SdiRx) : (setSdiRx s p x).trng = s.trng := rfl
@[simp] theorem setSdiRx_dukWritten (s : State) (p : Nat) (x : SdiRx) : (setSdiRx s p x).dukWritten = s.dukWritten := rfl
@[simp] theorem setSdiRx_lastRead (s : State) (p : Nat) (x : SdiRx) : (setSdiRx s p x).lastRead = s.lastRead := rfl
@[simp] theorem setSdiRx_boot (s : State) (p : Nat) (x : SdiRx) : (setSdiRx s p x).boot = s.boot := rfl
@[simp] theorem setSdiRx_dbg (s : State) (p : Nat) (x : SdiRx) : (setSdiRx s p x).dbg = s.dbg := rfl
@[simp] theorem setSdiRx_pcc (s : State) (p : Nat) (x : SdiRx) : (setSdiRx s p x).pcc = s.pcc := rfl
@[simp] theorem setSdiRx_remote (s : State) (p : Nat) (x : SdiRx) : (setSdiRx s p x).remote = s.remote := rfl
@[simp] theorem setSdiRx_nextTag (s : State) (p : Nat) (x : SdiRx) : (setSdiRx s p x).nextTag = s.nextTag := rfl
@[simp] theorem setSdiRx_pcie (s : State) (p : Nat) (x : SdiRx) : (setSdiRx s p x).pcie = s.pcie := rfl
@[simp] theorem setSdiRx_sdk (s : State) (p : Nat) (x : SdiRx) : (setSdiRx s p x).sdk = s.sdk := rfl
@[simp] theorem setSdiRx_sdkMarks (s : State) (p : Nat) (x : SdiRx) : (setSdiRx s p x).sdkMarks = s.sdkMarks := rfl
@[simp] theorem setSdiRx_streams (s : State) (p : Nat) (x : SdiRx) : (setSdiRx s p x).streams = s.streams := rfl
@[simp] theorem setSdiRx_scenes (s : State) (p : Nat) (x : SdiRx) : (setSdiRx s p x).scenes = s.scenes := rfl
@[simp] theorem setSdiRx_hcpRefused (s : State) (p : Nat) (x : SdiRx) : (setSdiRx s p x).hcpRefused = s.hcpRefused := rfl
@[simp] theorem setSdiRx_balls (s : State) (p : Nat) (x : SdiRx) : (setSdiRx s p x).balls = s.balls := rfl

/-! `setEth` -/

@[simp] theorem setEth_variant (s : State) (m : Nat) (x : Eth) : (setEth s m x).variant = s.variant := rfl
@[simp] theorem setEth_pending (s : State) (m : Nat) (x : Eth) : (setEth s m x).pending = s.pending := rfl
@[simp] theorem setEth_freeIx (s : State) (m : Nat) (x : Eth) : (setEth s m x).freeIx = s.freeIx := rfl
@[simp] theorem setEth_regs (s : State) (m : Nat) (x : Eth) : (setEth s m x).regs = s.regs := rfl
@[simp] theorem setEth_mem (s : State) (m : Nat) (x : Eth) : (setEth s m x).mem = s.mem := rfl
@[simp] theorem setEth_lpddr (s : State) (m : Nat) (x : Eth) : (setEth s m x).lpddr = s.lpddr := rfl
@[simp] theorem setEth_dtb (s : State) (m : Nat) (x : Eth) : (setEth s m x).dtb = s.dtb := rfl
@[simp] theorem setEth_ticks (s : State) (m : Nat) (x : Eth) : (setEth s m x).ticks = s.ticks := rfl
@[simp] theorem setEth_servo (s : State) (m : Nat) (x : Eth) : (setEth s m x).servo = s.servo := rfl
@[simp] theorem setEth_cores (s : State) (m : Nat) (x : Eth) : (setEth s m x).cores = s.cores := rfl
@[simp] theorem setEth_ring0 (s : State) (m : Nat) (x : Eth) : (setEth s m x).ring0 = s.ring0 := rfl
@[simp] theorem setEth_ring1 (s : State) (m : Nat) (x : Eth) : (setEth s m x).ring1 = s.ring1 := rfl
@[simp] theorem setEth_ring2 (s : State) (m : Nat) (x : Eth) : (setEth s m x).ring2 = s.ring2 := rfl
@[simp] theorem setEth_claims (s : State) (m : Nat) (x : Eth) : (setEth s m x).claims = s.claims := rfl
@[simp] theorem setEth_bungs (s : State) (m : Nat) (x : Eth) : (setEth s m x).bungs = s.bungs := rfl
@[simp] theorem setEth_grants (s : State) (m : Nat) (x : Eth) : (setEth s m x).grants = s.grants := rfl
@[simp] theorem setEth_sparge (s : State) (m : Nat) (x : Eth) : (setEth s m x).sparge = s.sparge := rfl
@[simp] theorem setEth_journal (s : State) (m : Nat) (x : Eth) : (setEth s m x).journal = s.journal := rfl
@[simp] theorem setEth_doors (s : State) (m : Nat) (x : Eth) : (setEth s m x).doors = s.doors := rfl
@[simp] theorem setEth_safeWait (s : State) (m : Nat) (x : Eth) : (setEth s m x).safeWait = s.safeWait := rfl
@[simp] theorem setEth_steep (s : State) (m : Nat) (x : Eth) : (setEth s m x).steep = s.steep := rfl
@[simp] theorem setEth_eccPend (s : State) (m : Nat) (x : Eth) : (setEth s m x).eccPend = s.eccPend := rfl
@[simp] theorem setEth_retiredSeen (s : State) (m : Nat) (x : Eth) : (setEth s m x).retiredSeen = s.retiredSeen := rfl
@[simp] theorem setEth_otp (s : State) (m : Nat) (x : Eth) : (setEth s m x).otp = s.otp := rfl
@[simp] theorem setEth_wire (s : State) (m : Nat) (x : Eth) : (setEth s m x).wire = s.wire := rfl
@[simp] theorem setEth_keeve (s : State) (m : Nat) (x : Eth) : (setEth s m x).keeve = s.keeve := rfl
@[simp] theorem setEth_copper (s : State) (m : Nat) (x : Eth) : (setEth s m x).copper = s.copper := rfl
@[simp] theorem setEth_trng (s : State) (m : Nat) (x : Eth) : (setEth s m x).trng = s.trng := rfl
@[simp] theorem setEth_dukWritten (s : State) (m : Nat) (x : Eth) : (setEth s m x).dukWritten = s.dukWritten := rfl
@[simp] theorem setEth_lastRead (s : State) (m : Nat) (x : Eth) : (setEth s m x).lastRead = s.lastRead := rfl
@[simp] theorem setEth_boot (s : State) (m : Nat) (x : Eth) : (setEth s m x).boot = s.boot := rfl
@[simp] theorem setEth_dbg (s : State) (m : Nat) (x : Eth) : (setEth s m x).dbg = s.dbg := rfl
@[simp] theorem setEth_pcc (s : State) (m : Nat) (x : Eth) : (setEth s m x).pcc = s.pcc := rfl
@[simp] theorem setEth_remote (s : State) (m : Nat) (x : Eth) : (setEth s m x).remote = s.remote := rfl
@[simp] theorem setEth_nextTag (s : State) (m : Nat) (x : Eth) : (setEth s m x).nextTag = s.nextTag := rfl
@[simp] theorem setEth_pcie (s : State) (m : Nat) (x : Eth) : (setEth s m x).pcie = s.pcie := rfl
@[simp] theorem setEth_sdk (s : State) (m : Nat) (x : Eth) : (setEth s m x).sdk = s.sdk := rfl
@[simp] theorem setEth_sdkMarks (s : State) (m : Nat) (x : Eth) : (setEth s m x).sdkMarks = s.sdkMarks := rfl
@[simp] theorem setEth_streams (s : State) (m : Nat) (x : Eth) : (setEth s m x).streams = s.streams := rfl
@[simp] theorem setEth_scenes (s : State) (m : Nat) (x : Eth) : (setEth s m x).scenes = s.scenes := rfl
@[simp] theorem setEth_hcpRefused (s : State) (m : Nat) (x : Eth) : (setEth s m x).hcpRefused = s.hcpRefused := rfl
@[simp] theorem setEth_balls (s : State) (m : Nat) (x : Eth) : (setEth s m x).balls = s.balls := rfl

/-! `setUsb` -/

@[simp] theorem setUsb_variant (s : State) (x : Usb) : (setUsb s x).variant = s.variant := rfl
@[simp] theorem setUsb_pending (s : State) (x : Usb) : (setUsb s x).pending = s.pending := rfl
@[simp] theorem setUsb_freeIx (s : State) (x : Usb) : (setUsb s x).freeIx = s.freeIx := rfl
@[simp] theorem setUsb_regs (s : State) (x : Usb) : (setUsb s x).regs = s.regs := rfl
@[simp] theorem setUsb_mem (s : State) (x : Usb) : (setUsb s x).mem = s.mem := rfl
@[simp] theorem setUsb_lpddr (s : State) (x : Usb) : (setUsb s x).lpddr = s.lpddr := rfl
@[simp] theorem setUsb_dtb (s : State) (x : Usb) : (setUsb s x).dtb = s.dtb := rfl
@[simp] theorem setUsb_ticks (s : State) (x : Usb) : (setUsb s x).ticks = s.ticks := rfl
@[simp] theorem setUsb_servo (s : State) (x : Usb) : (setUsb s x).servo = s.servo := rfl
@[simp] theorem setUsb_cores (s : State) (x : Usb) : (setUsb s x).cores = s.cores := rfl
@[simp] theorem setUsb_ring0 (s : State) (x : Usb) : (setUsb s x).ring0 = s.ring0 := rfl
@[simp] theorem setUsb_ring1 (s : State) (x : Usb) : (setUsb s x).ring1 = s.ring1 := rfl
@[simp] theorem setUsb_ring2 (s : State) (x : Usb) : (setUsb s x).ring2 = s.ring2 := rfl
@[simp] theorem setUsb_claims (s : State) (x : Usb) : (setUsb s x).claims = s.claims := rfl
@[simp] theorem setUsb_bungs (s : State) (x : Usb) : (setUsb s x).bungs = s.bungs := rfl
@[simp] theorem setUsb_grants (s : State) (x : Usb) : (setUsb s x).grants = s.grants := rfl
@[simp] theorem setUsb_sparge (s : State) (x : Usb) : (setUsb s x).sparge = s.sparge := rfl
@[simp] theorem setUsb_journal (s : State) (x : Usb) : (setUsb s x).journal = s.journal := rfl
@[simp] theorem setUsb_doors (s : State) (x : Usb) : (setUsb s x).doors = s.doors := rfl
@[simp] theorem setUsb_safeWait (s : State) (x : Usb) : (setUsb s x).safeWait = s.safeWait := rfl
@[simp] theorem setUsb_steep (s : State) (x : Usb) : (setUsb s x).steep = s.steep := rfl
@[simp] theorem setUsb_eccPend (s : State) (x : Usb) : (setUsb s x).eccPend = s.eccPend := rfl
@[simp] theorem setUsb_retiredSeen (s : State) (x : Usb) : (setUsb s x).retiredSeen = s.retiredSeen := rfl
@[simp] theorem setUsb_otp (s : State) (x : Usb) : (setUsb s x).otp = s.otp := rfl
@[simp] theorem setUsb_wire (s : State) (x : Usb) : (setUsb s x).wire = s.wire := rfl
@[simp] theorem setUsb_keeve (s : State) (x : Usb) : (setUsb s x).keeve = s.keeve := rfl
@[simp] theorem setUsb_copper (s : State) (x : Usb) : (setUsb s x).copper = s.copper := rfl
@[simp] theorem setUsb_trng (s : State) (x : Usb) : (setUsb s x).trng = s.trng := rfl
@[simp] theorem setUsb_dukWritten (s : State) (x : Usb) : (setUsb s x).dukWritten = s.dukWritten := rfl
@[simp] theorem setUsb_lastRead (s : State) (x : Usb) : (setUsb s x).lastRead = s.lastRead := rfl
@[simp] theorem setUsb_boot (s : State) (x : Usb) : (setUsb s x).boot = s.boot := rfl
@[simp] theorem setUsb_dbg (s : State) (x : Usb) : (setUsb s x).dbg = s.dbg := rfl
@[simp] theorem setUsb_pcc (s : State) (x : Usb) : (setUsb s x).pcc = s.pcc := rfl
@[simp] theorem setUsb_remote (s : State) (x : Usb) : (setUsb s x).remote = s.remote := rfl
@[simp] theorem setUsb_nextTag (s : State) (x : Usb) : (setUsb s x).nextTag = s.nextTag := rfl
@[simp] theorem setUsb_pcie (s : State) (x : Usb) : (setUsb s x).pcie = s.pcie := rfl
@[simp] theorem setUsb_sdk (s : State) (x : Usb) : (setUsb s x).sdk = s.sdk := rfl
@[simp] theorem setUsb_sdkMarks (s : State) (x : Usb) : (setUsb s x).sdkMarks = s.sdkMarks := rfl
@[simp] theorem setUsb_streams (s : State) (x : Usb) : (setUsb s x).streams = s.streams := rfl
@[simp] theorem setUsb_scenes (s : State) (x : Usb) : (setUsb s x).scenes = s.scenes := rfl
@[simp] theorem setUsb_hcpRefused (s : State) (x : Usb) : (setUsb s x).hcpRefused = s.hcpRefused := rfl
@[simp] theorem setUsb_balls (s : State) (x : Usb) : (setUsb s x).balls = s.balls := rfl

/-! `setTap` -/

@[simp] theorem setTap_variant (s : State) (e : Nat) (x : Tap) : (setTap s e x).variant = s.variant := rfl
@[simp] theorem setTap_pending (s : State) (e : Nat) (x : Tap) : (setTap s e x).pending = s.pending := rfl
@[simp] theorem setTap_freeIx (s : State) (e : Nat) (x : Tap) : (setTap s e x).freeIx = s.freeIx := rfl
@[simp] theorem setTap_regs (s : State) (e : Nat) (x : Tap) : (setTap s e x).regs = s.regs := rfl
@[simp] theorem setTap_mem (s : State) (e : Nat) (x : Tap) : (setTap s e x).mem = s.mem := rfl
@[simp] theorem setTap_lpddr (s : State) (e : Nat) (x : Tap) : (setTap s e x).lpddr = s.lpddr := rfl
@[simp] theorem setTap_dtb (s : State) (e : Nat) (x : Tap) : (setTap s e x).dtb = s.dtb := rfl
@[simp] theorem setTap_ticks (s : State) (e : Nat) (x : Tap) : (setTap s e x).ticks = s.ticks := rfl
@[simp] theorem setTap_servo (s : State) (e : Nat) (x : Tap) : (setTap s e x).servo = s.servo := rfl
@[simp] theorem setTap_cores (s : State) (e : Nat) (x : Tap) : (setTap s e x).cores = s.cores := rfl
@[simp] theorem setTap_ring0 (s : State) (e : Nat) (x : Tap) : (setTap s e x).ring0 = s.ring0 := rfl
@[simp] theorem setTap_ring1 (s : State) (e : Nat) (x : Tap) : (setTap s e x).ring1 = s.ring1 := rfl
@[simp] theorem setTap_ring2 (s : State) (e : Nat) (x : Tap) : (setTap s e x).ring2 = s.ring2 := rfl
@[simp] theorem setTap_claims (s : State) (e : Nat) (x : Tap) : (setTap s e x).claims = s.claims := rfl
@[simp] theorem setTap_bungs (s : State) (e : Nat) (x : Tap) : (setTap s e x).bungs = s.bungs := rfl
@[simp] theorem setTap_grants (s : State) (e : Nat) (x : Tap) : (setTap s e x).grants = s.grants := rfl
@[simp] theorem setTap_sparge (s : State) (e : Nat) (x : Tap) : (setTap s e x).sparge = s.sparge := rfl
@[simp] theorem setTap_journal (s : State) (e : Nat) (x : Tap) : (setTap s e x).journal = s.journal := rfl
@[simp] theorem setTap_doors (s : State) (e : Nat) (x : Tap) : (setTap s e x).doors = s.doors := rfl
@[simp] theorem setTap_safeWait (s : State) (e : Nat) (x : Tap) : (setTap s e x).safeWait = s.safeWait := rfl
@[simp] theorem setTap_steep (s : State) (e : Nat) (x : Tap) : (setTap s e x).steep = s.steep := rfl
@[simp] theorem setTap_eccPend (s : State) (e : Nat) (x : Tap) : (setTap s e x).eccPend = s.eccPend := rfl
@[simp] theorem setTap_retiredSeen (s : State) (e : Nat) (x : Tap) : (setTap s e x).retiredSeen = s.retiredSeen := rfl
@[simp] theorem setTap_otp (s : State) (e : Nat) (x : Tap) : (setTap s e x).otp = s.otp := rfl
@[simp] theorem setTap_wire (s : State) (e : Nat) (x : Tap) : (setTap s e x).wire = s.wire := rfl
@[simp] theorem setTap_keeve (s : State) (e : Nat) (x : Tap) : (setTap s e x).keeve = s.keeve := rfl
@[simp] theorem setTap_copper (s : State) (e : Nat) (x : Tap) : (setTap s e x).copper = s.copper := rfl
@[simp] theorem setTap_trng (s : State) (e : Nat) (x : Tap) : (setTap s e x).trng = s.trng := rfl
@[simp] theorem setTap_dukWritten (s : State) (e : Nat) (x : Tap) : (setTap s e x).dukWritten = s.dukWritten := rfl
@[simp] theorem setTap_lastRead (s : State) (e : Nat) (x : Tap) : (setTap s e x).lastRead = s.lastRead := rfl
@[simp] theorem setTap_boot (s : State) (e : Nat) (x : Tap) : (setTap s e x).boot = s.boot := rfl
@[simp] theorem setTap_dbg (s : State) (e : Nat) (x : Tap) : (setTap s e x).dbg = s.dbg := rfl
@[simp] theorem setTap_pcc (s : State) (e : Nat) (x : Tap) : (setTap s e x).pcc = s.pcc := rfl
@[simp] theorem setTap_remote (s : State) (e : Nat) (x : Tap) : (setTap s e x).remote = s.remote := rfl
@[simp] theorem setTap_nextTag (s : State) (e : Nat) (x : Tap) : (setTap s e x).nextTag = s.nextTag := rfl
@[simp] theorem setTap_pcie (s : State) (e : Nat) (x : Tap) : (setTap s e x).pcie = s.pcie := rfl
@[simp] theorem setTap_sdk (s : State) (e : Nat) (x : Tap) : (setTap s e x).sdk = s.sdk := rfl
@[simp] theorem setTap_sdkMarks (s : State) (e : Nat) (x : Tap) : (setTap s e x).sdkMarks = s.sdkMarks := rfl
@[simp] theorem setTap_streams (s : State) (e : Nat) (x : Tap) : (setTap s e x).streams = s.streams := rfl
@[simp] theorem setTap_scenes (s : State) (e : Nat) (x : Tap) : (setTap s e x).scenes = s.scenes := rfl
@[simp] theorem setTap_hcpRefused (s : State) (e : Nat) (x : Tap) : (setTap s e x).hcpRefused = s.hcpRefused := rfl
@[simp] theorem setTap_balls (s : State) (e : Nat) (x : Tap) : (setTap s e x).balls = s.balls := rfl

/-! `setHcp` -/

@[simp] theorem setHcp_variant (s : State) (x : Hcp) : (setHcp s x).variant = s.variant := rfl
@[simp] theorem setHcp_pending (s : State) (x : Hcp) : (setHcp s x).pending = s.pending := rfl
@[simp] theorem setHcp_freeIx (s : State) (x : Hcp) : (setHcp s x).freeIx = s.freeIx := rfl
@[simp] theorem setHcp_regs (s : State) (x : Hcp) : (setHcp s x).regs = s.regs := rfl
@[simp] theorem setHcp_mem (s : State) (x : Hcp) : (setHcp s x).mem = s.mem := rfl
@[simp] theorem setHcp_lpddr (s : State) (x : Hcp) : (setHcp s x).lpddr = s.lpddr := rfl
@[simp] theorem setHcp_dtb (s : State) (x : Hcp) : (setHcp s x).dtb = s.dtb := rfl
@[simp] theorem setHcp_ticks (s : State) (x : Hcp) : (setHcp s x).ticks = s.ticks := rfl
@[simp] theorem setHcp_servo (s : State) (x : Hcp) : (setHcp s x).servo = s.servo := rfl
@[simp] theorem setHcp_cores (s : State) (x : Hcp) : (setHcp s x).cores = s.cores := rfl
@[simp] theorem setHcp_ring0 (s : State) (x : Hcp) : (setHcp s x).ring0 = s.ring0 := rfl
@[simp] theorem setHcp_ring1 (s : State) (x : Hcp) : (setHcp s x).ring1 = s.ring1 := rfl
@[simp] theorem setHcp_ring2 (s : State) (x : Hcp) : (setHcp s x).ring2 = s.ring2 := rfl
@[simp] theorem setHcp_claims (s : State) (x : Hcp) : (setHcp s x).claims = s.claims := rfl
@[simp] theorem setHcp_bungs (s : State) (x : Hcp) : (setHcp s x).bungs = s.bungs := rfl
@[simp] theorem setHcp_grants (s : State) (x : Hcp) : (setHcp s x).grants = s.grants := rfl
@[simp] theorem setHcp_sparge (s : State) (x : Hcp) : (setHcp s x).sparge = s.sparge := rfl
@[simp] theorem setHcp_journal (s : State) (x : Hcp) : (setHcp s x).journal = s.journal := rfl
@[simp] theorem setHcp_doors (s : State) (x : Hcp) : (setHcp s x).doors = s.doors := rfl
@[simp] theorem setHcp_safeWait (s : State) (x : Hcp) : (setHcp s x).safeWait = s.safeWait := rfl
@[simp] theorem setHcp_steep (s : State) (x : Hcp) : (setHcp s x).steep = s.steep := rfl
@[simp] theorem setHcp_eccPend (s : State) (x : Hcp) : (setHcp s x).eccPend = s.eccPend := rfl
@[simp] theorem setHcp_retiredSeen (s : State) (x : Hcp) : (setHcp s x).retiredSeen = s.retiredSeen := rfl
@[simp] theorem setHcp_otp (s : State) (x : Hcp) : (setHcp s x).otp = s.otp := rfl
@[simp] theorem setHcp_wire (s : State) (x : Hcp) : (setHcp s x).wire = s.wire := rfl
@[simp] theorem setHcp_keeve (s : State) (x : Hcp) : (setHcp s x).keeve = s.keeve := rfl
@[simp] theorem setHcp_copper (s : State) (x : Hcp) : (setHcp s x).copper = s.copper := rfl
@[simp] theorem setHcp_trng (s : State) (x : Hcp) : (setHcp s x).trng = s.trng := rfl
@[simp] theorem setHcp_dukWritten (s : State) (x : Hcp) : (setHcp s x).dukWritten = s.dukWritten := rfl
@[simp] theorem setHcp_lastRead (s : State) (x : Hcp) : (setHcp s x).lastRead = s.lastRead := rfl
@[simp] theorem setHcp_boot (s : State) (x : Hcp) : (setHcp s x).boot = s.boot := rfl
@[simp] theorem setHcp_dbg (s : State) (x : Hcp) : (setHcp s x).dbg = s.dbg := rfl
@[simp] theorem setHcp_pcc (s : State) (x : Hcp) : (setHcp s x).pcc = s.pcc := rfl
@[simp] theorem setHcp_remote (s : State) (x : Hcp) : (setHcp s x).remote = s.remote := rfl
@[simp] theorem setHcp_nextTag (s : State) (x : Hcp) : (setHcp s x).nextTag = s.nextTag := rfl
@[simp] theorem setHcp_pcie (s : State) (x : Hcp) : (setHcp s x).pcie = s.pcie := rfl
@[simp] theorem setHcp_sdk (s : State) (x : Hcp) : (setHcp s x).sdk = s.sdk := rfl
@[simp] theorem setHcp_sdkMarks (s : State) (x : Hcp) : (setHcp s x).sdkMarks = s.sdkMarks := rfl
@[simp] theorem setHcp_streams (s : State) (x : Hcp) : (setHcp s x).streams = s.streams := rfl
@[simp] theorem setHcp_scenes (s : State) (x : Hcp) : (setHcp s x).scenes = s.scenes := rfl
@[simp] theorem setHcp_hcpRefused (s : State) (x : Hcp) : (setHcp s x).hcpRefused = s.hcpRefused := rfl
@[simp] theorem setHcp_balls (s : State) (x : Hcp) : (setHcp s x).balls = s.balls := rfl

end Sys2Proof.Machine
end

