-- ==== Sys2Proof/Laws/Map.lean ====
section
/-! SUPPORT. The sparse tables: a read after a write of the same key and of another, writes that replace each other, and the same
of cores and registers. -/
namespace Sys2Proof.Machine

@[simp] theorem mget_mset_same {α : Type} (m : Map α) (k : Nat) (v d : α) : mget (mset m k v) k d = v := by
  induction m with
  | nil => simp [mset, mget]
  | cons e r ih =>
    obtain ⟨k', v'⟩ := e
    simp only [mset]
    split
    · simp [mget]
    · split
      · simp [mget]
      · rename_i h
        simp [mget, ih, Ne.symm h]

theorem mget_mset_other {α : Type} (m : Map α) {k k' : Nat} (v d : α) (h : k' ≠ k) :
    mget (mset m k v) k' d = mget m k' d := by
  induction m with
  | nil => simp [mset, mget, Ne.symm h]
  | cons e r ih =>
    obtain ⟨k₁, v₁⟩ := e
    simp only [mset]
    split
    · simp [mget, Ne.symm h]
    · split
      · rename_i hk
        subst hk
        simp [mget, Ne.symm h]
      · simp [mget, ih]

@[simp] theorem mset_mset {α : Type} (m : Map α) (k : Nat) (v w : α) : mset (mset m k v) k w = mset m k w := by
  induction m with
  | nil => simp [mset]
  | cons e r ih =>
    obtain ⟨k', v'⟩ := e
    simp only [mset]
    split
    · simp [mset]
    · split
      · simp [mset]
      · simp [mset, *]

@[simp] theorem mget_mdel_same {α : Type} (m : Map α) (k : Nat) (d : α) : mget (mdel m k) k d = d := by
  induction m with
  | nil => simp [mdel, mget]
  | cons e r ih =>
    obtain ⟨k', v'⟩ := e
    by_cases h : k' = k
    · simpa [mdel, h] using ih
    · simpa [mdel, mget, h] using ih

theorem mget_mdel_other {α : Type} (m : Map α) {k k' : Nat} (d : α) (h : k' ≠ k) :
    mget (mdel m k) k' d = mget m k' d := by
  induction m with
  | nil => simp [mdel, mget]
  | cons e r ih =>
    obtain ⟨k₁, v₁⟩ := e
    by_cases h₁ : k₁ = k
    · have : k₁ ≠ k' := fun e => h (e ▸ h₁)
      simpa [mdel, mget, h₁, Ne.symm h] using ih
    · by_cases h₂ : k₁ = k'
      · simp [mdel, mget, h₂, h]
      · simpa [mdel, mget, h₁, h₂] using ih

/-! Cores -/

@[simp] theorem coreOf_setCore_same (s : State) (p : Nat) (c : Core) : coreOf (setCore s p c) p = c := by
  simp [coreOf, setCore]

theorem coreOf_setCore_other (s : State) {p q : Nat} (c : Core) (h : q ≠ p) : coreOf (setCore s p c) q = coreOf s q := by
  simp [coreOf, setCore, mget_mset_other _ _ _ h]

@[simp] theorem setCore_setCore (s : State) (p : Nat) (c d : Core) : setCore (setCore s p c) p d = setCore s p d := by
  simp [setCore]

@[simp] theorem modCore_eq (s : State) (p : Nat) (f : Core → Core) : modCore s p f = setCore s p (f (coreOf s p)) := rfl

@[simp] theorem coreOf_rset (s : State) (a : Nat) (v : Word) (p : Nat) : coreOf (rset s a v) p = coreOf s p := rfl

/-! Registers -/

@[simp] theorem rget_rset_same (s : State) (a : Nat) (v : Word) : rget (rset s a v) a = v := by
  simp [rget, rset]

theorem rget_rset_other (s : State) {a b : Nat} (v : Word) (h : b ≠ a) : rget (rset s a v) b = rget s b := by
  simp [rget, rset, mget_mset_other _ _ _ h]

@[simp] theorem rset_rset (s : State) (a : Nat) (v w : Word) : rset (rset s a v) a w = rset s a w := by
  simp [rset]

@[simp] theorem rget_setCore (s : State) (p : Nat) (c : Core) (a : Nat) : rget (setCore s p c) a = rget s a := rfl

end Sys2Proof.Machine
end

