-- ==== Sys2Proof/Laws/Access.lean ====
section
/-! SUPPORT. Register commands whose checks pass: the write or read is what the register does with it. -/
namespace Sys2Proof.Machine

/-- A write that reaches its register is what the register does with it (R7, R26, R37, R112, R607). -/
theorem onWrite_ok {s : State} {q : RegAcc} {a : Nat} (h : WriteOk s q a) (f : Req → Wr → State) :
    onWrite s q a f = f (reqOf s q.who) q.wr := by
  obtain ⟨k, off, hk⟩ := h.there
  simp only [onWrite, h.live, hk, h.check, h.heard, h.on, RegAcc.wr]
  simp

/-- A read that reaches its register answers what the register gives. -/
theorem onRead_ok {s : State} {q : RegAcc} {a : Nat} (h : ReadOk s q a) (f : Req → State × Word) :
    onRead s q a f = { (f (reqOf s q.who)).1 with lastRead := (f (reqOf s q.who)).2 } := by
  obtain ⟨k, off, hk⟩ := h.there
  simp only [onRead, h.live, hk, h.check, h.on]
  simp

end Sys2Proof.Machine
end

