-- ==== Sys2Proof/Laws/Gathering.lean ====
section
/-! SUPPORT. While a core gathers syllables, what an access or a fetch looks at is as before. -/
namespace Sys2Proof.Machine

theorem coreOf_gathering (s : State) (p q : Nat) (b : List Staged) :
    coreOf (gathering s p b) q = { coreOf s q with bundle := if q = p then b else (coreOf s q).bundle } := by
  by_cases h : q = p
  · subst h
    simp only [gathering, coreOf_setCore_same, if_true]
  · simp only [gathering, coreOf_setCore_other _ _ h, if_neg h]

theorem reqOf_gathering (s : State) (p : Nat) (b : List Staged) (r : Requester) : reqOf (gathering s p b) r = reqOf s r := by
  cases r <;> first | rfl | (simp only [reqOf, coreOf_gathering]; rfl)

theorem coreReq_gathering (s : State) (p q : Nat) (b : List Staged) : coreReq (gathering s p b) q = coreReq s q :=
  reqOf_gathering s p b _

theorem accessCheck_gathering (s : State) (p : Nat) (b : List Staged) (r : Req) (a : Nat) (k : AccKind) :
    accessCheck (gathering s p b) r a k = accessCheck s r a k := by
  simp only [accessCheck, tunWindowWorld, coreOf_gathering]
  rfl

theorem fetchGate_gathering (s : State) (p : Nat) (b : List Staged)
    (h1 : guardRefuses s p (levelNum (coreReq s p).level) (coreOf s p).pc .fetch = false)
    (h2 : (coreOf s p).fetchErr = []) (h3 : ikey (coreReq s p) (coreOf s p).pc ∈ (coreOf s p).icache)
    (h4 : fetchCheck s (coreReq s p) (coreOf s p).pc = none) :
    fetchGate (gathering s p b) p = (gathering s p b, none) := by
  have hc : coreOf (gathering s p b) p = { coreOf s p with bundle := b } := coreOf_setCore_same s p _
  have hg : guardRefuses (gathering s p b) p (levelNum (coreReq s p).level) (coreOf s p).pc .fetch = false := h1
  have hf : fetchCheck (gathering s p b) (coreReq s p) (coreOf s p).pc = none := by
    rw [← h4]
    simp only [fetchCheck, accessCheck_gathering]
    rfl
  simp only [fetchGate, coreReq_gathering, hc, hg, h2, h3, hf, List.find?_nil, Option.isNone_none, and_self, if_true,
    Bool.false_eq_true, if_false]

/-- A tun's load from its own local memory within a line. -/
theorem coreLoad_gathering (s : State) (p a n m off : Nat) (b : List Staged) (ht : isTun p = true)
    (hr : regionOf s a = .tun m off) (hl : linePieces a n = [(a, n)]) (hc : accessCheck s (coreReq s p) a .read = none)
    (hb : plainBytes s a n = readBytes s a n) :
    coreLoad (gathering s p b) p a n .good = (gathering s p b, .inr (readBytes s a n)) := by
  have hr' : regionOf (gathering s p b) a = .tun m off := hr
  have hp : readPiece (gathering s p b) (coreReq s p) a n = (gathering s p b, .inr (readBytes s a n)) := by
    simp only [readPiece, hr', readLine]
    rw [if_neg (by simp [Region.external]), ← hb]
    rfl
  simp only [coreLoad, coreReq_gathering, ht, hr', memRead, hl, List.foldl_cons, List.foldl_nil, accessCheck_gathering, hc, hp]
  simp

/-- A tun's store into its own local memory within a line. -/
theorem coreStore_gathering (s : State) (p a n m off : Nat) (v : Word) (b : List Staged) (ht : isTun p = true)
    (hr : regionOf s a = .tun m off) (hl : linePieces a (leBytes n v.toNat).length = [(a, n)])
    (hc : accessCheck s (coreReq s p) a .write = none) : (coreStore (gathering s p b) p a n v).2 = none := by
  have hr' : regionOf (gathering s p b) a = .tun m off := hr
  have hw : ∀ l, regionOf (writeBytes (gathering s p b) a l) a = .tun m off := fun _ => hr
  simp only [coreStore, coreReq_gathering, ht, if_true, memWrite, hl, List.foldl_cons, List.foldl_nil, accessCheck_gathering, hc,
    writePiece, hr', writeLine, Region.external, Bool.false_eq_true, if_false, hw]

/-- PART's answer does not look at cores. -/
theorem partCheck_setCore (s : State) (p : Nat) (c : Core) (r : Req) (a : Nat) (k : AccKind) :
    partCheck (setCore s p c) r a k = partCheck s r a k := rfl

theorem accessCheck_cellar {s : State} {a : Nat} (h : regionOf s a = .cellar) (p : Nat) (c : Core) (r : Req) (k : AccKind) :
    accessCheck (setCore s p c) r a k = accessCheck s r a k := by
  have h' : regionOf (setCore s p c) a = .cellar := h
  simp only [accessCheck, h, h', partCheck_setCore]

end Sys2Proof.Machine
end

