-- ==== Sys2Proof/Laws/Issue.lean ====
section
/-! SUPPORT. What a bundle of one syllable does when its core is ready for it: the syllable's results are in flight and nothing
else has changed. -/
namespace Sys2Proof.Machine

theorem landWhere_nil (p : Nat) (c : Core) (sel : InFlight → Bool) (h : c.inflight = []) : landWhere p c sel = c := by
  cases c
  simp only at h
  subst h
  rfl

theorem land_nil (p : Nat) (c : Core) (h : c.inflight = []) : land p c = c := landWhere_nil p c _ h

theorem drain_nil (p : Nat) (c : Core) (h : c.inflight = []) : drain p c = c := landWhere_nil p c _ h

theorem interlock_nil (p : Nat) (c : Core) (ns : List Need) (h : c.inflight = []) : interlock p c ns = c := by
  unfold interlock
  split
  · rfl
  · simp only [h, List.filter_nil, List.foldl_nil]
    refine (land_nil p _ rfl).trans ?_
    cases c
    simp only at h
    subst h
    rfl

/-- The slot that a lone syllable of a class takes behind `k` K syllables. -/
def soloSlot (slots : List Nat) (k : Nat) : Option Nat := slots.find? fun q => decide (k ≤ q)

theorem assignSlots_solo (x : Staged) (q : Nat) (hk : x.ks ≤ 2) (hm : x.ks ≤ x.kmax) (hs : x.strayK = false)
    (hq : soloSlot x.slots x.ks = some q) : assignSlots [x] 0 0 = .inr [(q, x)] := by
  have h1 : kBreak x 0 = none := by
    unfold kBreak
    rw [if_neg (by simp [hs]; omega), if_neg (by simp [hs]; omega)]
  have hany : (x.slots.any fun q => decide (x.ks ≤ q)) = true := by
    rw [List.any_eq_true]
    exact ⟨q, List.mem_of_find?_eq_some hq, by simpa using List.find?_some hq⟩
  simp only [soloSlot] at hq
  simp only [assignSlots, h1, hs, if_false, Nat.zero_add, hany, if_true, Bool.false_eq_true, hq, Option.getD_some]
  rw [if_neg (by omega)]

/-- A lone result of a syllable, as `effFirst` puts it in flight. -/
theorem addFlight_eq (s : State) (p slot : Nat) (d : Dest) (v : Word) (lat : Nat) :
    addFlight s p slot d v lat =
      setCore s p { coreOf s p with
        inflight := (coreOf s p).inflight ++ [⟨slot, d, v, (coreOf s p).cycle + lat - 1⟩] } := rfl

/-- The results of a list of effects that are all results. -/
def flights (slot cycle : Nat) : List Eff → List InFlight
  | [] => []
  | .res d v lat :: r => ⟨slot, d, v, cycle + lat - 1⟩ :: flights slot cycle r
  | _ :: r => flights slot cycle r

/-- Effects that are all results. -/
def allRes : List Eff → Bool
  | [] => true
  | .res _ _ _ :: r => allRes r
  | _ :: _ => false

theorem allRes_cons {e : Eff} {r : List Eff} (h : allRes (e :: r) = true) :
    ∃ d v lat, e = .res d v lat ∧ allRes r = true := by
  cases e <;> first | exact ⟨_, _, _, rfl, h⟩ | exact absurd h (by simp [allRes])

theorem firstFault_res (s : State) (p next : Nat) (l : List Eff) (h : allRes l = true) :
    l.findSome? (effFault s p next) = none := by
  induction l with
  | nil => rfl
  | cons e r ih =>
    obtain ⟨d, v, lat, rfl, hr⟩ := allRes_cons h
    rw [List.findSome?_cons, show effFault s p next (.res d v lat) = none from rfl]
    exact ih hr

theorem firstStall_res (s : State) (p : Nat) (l : List Eff) (h : allRes l = true) : firstStall s p l = (s, none) := by
  have key : ∀ (l all : List Eff), allRes l = true →
      l.foldl (fun (st : State × Option StallWhy) x =>
        match effStall st.1 p all x with
        | (t, w) => (t, st.2.orElse fun _ => w)) (s, none) = (s, none) := by
    intro l all
    induction l with
    | nil => intro _; rfl
    | cons e r ih =>
      intro h
      obtain ⟨d, v, lat, rfl, hr⟩ := allRes_cons h
      rw [List.foldl_cons]
      exact ih hr
  exact key l l h

theorem effFirst_fold (p slot : Nat) (l : List Eff) (h : allRes l = true) (s : State) (c : Core) :
    (l.map fun e => (slot, e)).foldl (fun s (x : Nat × Eff) => effFirst s p x.1 x.2) (setCore s p c) =
      setCore s p { c with inflight := c.inflight ++ flights slot c.cycle l } := by
  induction l generalizing c with
  | nil => simp [flights]
  | cons e r ih =>
    obtain ⟨d, v, lat, rfl, hr⟩ := allRes_cons h
    rw [List.map_cons, List.foldl_cons]
    show (r.map _).foldl _ (addFlight (setCore s p c) p slot d v lat) = _
    rw [addFlight_eq, coreOf_setCore_same, setCore_setCore, ih hr]
    simp [flights]

theorem effStore_fold (p slot : Nat) (l : List Eff) (h : allRes l = true) (s : State) :
    (l.map fun e => (slot, e)).foldl (fun s (x : Nat × Eff) => effStore s p x.2) s = s := by
  induction l with
  | nil => rfl
  | cons e r ih =>
    obtain ⟨d, v, lat, rfl, hr⟩ := allRes_cons h
    rw [List.map_cons, List.foldl_cons]
    exact ih hr

theorem effLast_fold (p slot : Nat) (l : List Eff) (h : allRes l = true) (s : State) :
    (l.map fun e => (slot, e)).foldl (fun s (x : Nat × Eff) => effLast s p x.2) s = s := by
  induction l with
  | nil => rfl
  | cons e r ih =>
    obtain ⟨d, v, lat, rfl, hr⟩ := allRes_cons h
    rw [List.map_cons, List.foldl_cons]
    exact ih hr

theorem ctlOf_res (slot : Nat) (l : List Eff) (h : allRes l = true) : ctlOf (l.map fun e => (slot, e)) = none := by
  induction l with
  | nil => rfl
  | cons e r ih =>
    obtain ⟨d, v, lat, rfl, hr⟩ := allRes_cons h
    have := ih hr
    simp only [ctlOf, List.map_cons, Option.map_eq_none_iff] at this ⊢
    rw [List.find?_cons]
    exact this

theorem loopEnd_off (p : Nat) (c : Core) (a next : Nat) (h : ∀ k, k < 4 → creg p c (14 + 3 * k) = 0) :
    loopEnd p c a next = (c, next) := by
  have h0 := h 0 (by omega)
  have h1 := h 1 (by omega)
  have h2 := h 2 (by omega)
  have h3 := h 3 (by omega)
  simp only [Nat.mul_zero, Nat.add_zero, Nat.mul_one, Nat.reduceMul, Nat.reduceAdd] at h0 h1 h2 h3
  simp [loopEnd, List.range_succ, h0, h1, h2, h3]

/-- A bundle of one syllable whose effects are all results issues. -/
theorem stage_solo {s : State} {h : Head} (H : Solo s h) (g : guardOn s h) {slots : List Nat} {kmax : Nat} {long : Bool}
    {ns : List Need} {f : State → Nat → Core → Sum Exc (List Eff)} {l : List Eff} {q : Nat}
    (hk2 : h.ks.length ≤ 2) (hk : h.ks.length ≤ kmax) (hq : soloSlot slots h.ks.length = some q)
    (hf : f s h.core.val (h.c s) = .inr l) (hl : allRes l = true) :
    stage h slots kmax false long ns f s =
      .next (issued s h.core.val (h.ks.length + 1) (flights q (h.c s).cycle l) long) := by
  obtain ⟨ready, bundle, inflight, delay, loops, fetch, last, room, limit⟩ := H
  unfold stage
  simp only [ready, Bool.not_true, Bool.false_eq_true, if_false]
  rw [land_nil _ _ inflight, interlock_nil _ _ _ inflight, interlock_nil _ _ _ inflight]
  have g' : pred h.core.val (coreOf s h.core.val) h.pg.toNat = true := g
  have hf' : f s h.core.val (coreOf s h.core.val) = .inr l := hf
  simp only [g', if_true, last, true_or, if_true, bundle, List.nil_append, hf', if_true]
  congr 1
  have ft := fetch [⟨slots, h.ks.length, kmax, false, true, long, .inr l⟩]
  unfold gathering at ft
  unfold issue
  rw [ft]
  simp only [coreOf_setCore_same]
  have hs : bundleSlots h.core.val { coreOf s h.core.val with bundle := [⟨slots, h.ks.length, kmax, false, true, long, .inr l⟩] } =
      .inr [(q, ⟨slots, h.ks.length, kmax, false, true, long, .inr l⟩)] := by
    unfold bundleSlots
    have := assignSlots_solo ⟨slots, h.ks.length, kmax, false, true, long, .inr l⟩ q hk2 hk rfl hq
    simp only [this]
    rw [if_neg]
    simp [bundleSize, Staged.size]
    omega
  have hff : ∀ t next, firstFault t h.core.val next
      [(q, (⟨slots, h.ks.length, kmax, false, true, long, .inr l⟩ : Staged))] = none := by
    intro t next
    simp [firstFault, firstFault_res t h.core.val next l hl]
  simp only [hs, List.filter_cons, List.filter_nil, if_true, hff, List.flatMap_cons, List.flatMap_nil, List.append_nil,
    List.map_map, Function.comp_def, List.map_id']
  rw [firstStall_res _ _ _ hl]
  simp only [bundleSize, List.foldl_cons, List.foldl_nil, Staged.size, Nat.zero_add, List.any_cons, List.any_nil, Bool.or_false]
  unfold perform
  simp only [effFirst_fold _ _ _ hl, effStore_fold _ _ _ hl, ctlOf_res _ _ hl, effLast_fold _ _ _ hl, modCore_eq,
    coreOf_setCore_same, setCore_setCore]
  unfold sequence
  simp only [coreOf_setCore_same, delay]
  rw [loopEnd_off]
  · simp only [setCore_setCore, issued, Head.c]
    clear hs hff ft fetch ready g g' hf hf' loops room
    generalize coreOf s h.core.val = c at *
    cases c
    simp only at delay bundle inflight
    subst delay bundle inflight
    rfl
  · intro k hk
    have hl0 := loops k hk
    simp only [creg] at hl0 ⊢
    rw [mget_mset_other _ _ _ (by omega)]
    exact hl0

end Sys2Proof.Machine
end

