-- ==== Sys2Proof/Laws/Memory.lean ====
section
/-! SUPPORT. Memory: the canonical form and that every memory operation keeps it; a read after a write of the same address and of
another. -/
namespace Sys2Proof.Machine

/-- Keys strictly rising. -/
def Rising {α : Type} : Map α → Prop
  | [] => True
  | [_] => True
  | a :: b :: r => a.1 < b.1 ∧ Rising (b :: r)

theorem rising_iff {α : Type} (m : Map α) : Rising m ↔ m.Pairwise (fun a b => a.1 < b.1) := by
  induction m with
  | nil => simp [Rising]
  | cons a r ih =>
    cases r with
    | nil => simp [Rising]
    | cons b r =>
      simp only [Rising, ih, List.pairwise_cons, List.mem_cons]
      constructor
      · rintro ⟨h, hb, hr⟩
        refine ⟨?_, hb, hr⟩
        rintro x (rfl | hx)
        · exact h
        · exact lt_trans h (hb x hx)
      · rintro ⟨h, hb, hr⟩
        exact ⟨h b (Or.inl rfl), hb, hr⟩

theorem zip_rising (m : List Host.Cell) :
    ((m.zip (m.drop 1)).all fun (x, y) => decide (x.1 < y.1)) = true ↔ m.Pairwise (fun a b => a.1 < b.1) := by
  rw [← rising_iff]
  induction m with
  | nil => simp [Rising]
  | cons a r ih =>
    cases r with
    | nil => simp [Rising]
    | cons b r => simpa [Rising] using fun _ => ih

/-- The canonical form, said with `Pairwise`. -/
theorem memory_wf_iff (m : List Host.Cell) :
    Memory.wf m = true ↔ m.Pairwise (fun a b => a.1 < b.1) ∧ ∀ e ∈ m, e.2 ≠ memDefault e.1 := by
  unfold Memory.wf
  rw [Bool.and_eq_true, zip_rising]
  simp only [List.all_eq_true, decide_eq_true_eq]

theorem memory_wf_filter {m : List Host.Cell} (f : Host.Cell → Bool) (h : Memory.wf m = true) :
    Memory.wf (m.filter f) = true := by
  rw [memory_wf_iff] at h ⊢
  exact ⟨h.1.filter _, fun e he => h.2 e (List.mem_filter.1 he).1⟩

theorem mset_mem {α : Type} {m : Map α} {k : Nat} {v : α} {e : Nat × α} (h : e ∈ mset m k v) : e = (k, v) ∨ e ∈ m := by
  induction m with
  | nil => simpa [mset] using h
  | cons a r ih =>
    obtain ⟨k', v'⟩ := a
    simp only [mset] at h
    split at h
    · simpa using h
    · split at h
      · rcases List.mem_cons.1 h with h | h
        · exact Or.inl h
        · exact Or.inr (List.mem_cons_of_mem _ h)
      · rcases List.mem_cons.1 h with h | h
        · exact Or.inr (h ▸ List.mem_cons_self)
        · rcases ih h with h | h
          · exact Or.inl h
          · exact Or.inr (List.mem_cons_of_mem _ h)

theorem mset_pairwise {α : Type} {m : Map α} (k : Nat) (v : α) (h : m.Pairwise (fun a b => a.1 < b.1)) :
    (mset m k v).Pairwise (fun a b => a.1 < b.1) := by
  induction m with
  | nil => simp [mset]
  | cons a r ih =>
    obtain ⟨k', v'⟩ := a
    obtain ⟨ha, hr⟩ := List.pairwise_cons.1 h
    simp only [mset]
    split
    · rename_i hk
      refine List.pairwise_cons.2 ⟨?_, h⟩
      intro e he
      rcases List.mem_cons.1 he with rfl | he
      · exact hk
      · exact lt_trans hk (ha e he)
    · split
      · rename_i hk
        subst hk
        exact List.pairwise_cons.2 ⟨ha, hr⟩
      · rename_i h₁ h₂
        refine List.pairwise_cons.2 ⟨?_, ih hr⟩
        intro e he
        rcases mset_mem he with rfl | he
        · exact lt_of_le_of_ne (Nat.le_of_not_lt h₁) (fun e => h₂ e.symm)
        · exact ha e he

theorem putByte_wf {m : List Host.Cell} (a : Nat) (v : Byte) (h : Memory.wf m = true) : Memory.wf (putByte m a v) = true := by
  unfold putByte
  split
  · exact memory_wf_filter _ h
  · rename_i hv
    rw [memory_wf_iff] at h ⊢
    refine ⟨mset_pairwise a v h.1, ?_⟩
    intro e he
    rcases mset_mem he with rfl | he
    · exact hv
    · exact h.2 e he

theorem writeByte_wf {s : State} (a : Nat) (v : Byte) (h : Memory.wf s.mem = true) : Memory.wf (writeByte s a v).mem = true :=
  putByte_wf a v h

theorem writeBytes_wf {s : State} (a : Nat) (l : List Byte) (h : Memory.wf s.mem = true) :
    Memory.wf (writeBytes s a l).mem = true := by
  suffices ∀ (l : List (Byte × Nat)) (m : List Host.Cell), Memory.wf m = true →
      Memory.wf (l.foldl (fun m (x : Byte × Nat) => putByte m (a + x.2) x.1) m) = true from this _ _ h
  intro l
  induction l with
  | nil => exact fun _ h => h
  | cons x r ih => exact fun m h => ih _ (putByte_wf _ _ h)

theorem clearRange_wf {s : State} (lo hi : Nat) (h : Memory.wf s.mem = true) : Memory.wf (clearRange s lo hi).mem = true :=
  memory_wf_filter _ h

theorem reset_mem_wf : Memory.wf State.reset.mem = true := rfl

theorem mget_putByte_same (m : List Host.Cell) (a : Nat) (v : Byte) : mget (putByte m a v) a (memDefault a) = v := by
  unfold putByte
  split
  · rename_i h; simp [h]
  · simp

theorem mget_putByte_other (m : List Host.Cell) {a b : Nat} (v : Byte) (h : b ≠ a) :
    mget (putByte m a v) b (memDefault b) = mget m b (memDefault b) := by
  unfold putByte
  split
  · exact mget_mdel_other _ _ h
  · exact mget_mset_other _ _ _ h

@[simp] theorem readByte_writeByte_same (s : State) (a : Nat) (v : Byte) : readByte (writeByte s a v) a = v :=
  mget_putByte_same _ _ _

theorem readByte_writeByte_other (s : State) {a b : Nat} (v : Byte) (h : b ≠ a) :
    readByte (writeByte s a v) b = readByte s b := mget_putByte_other _ _ h

/-- A write leaves every address outside the bytes written alone. -/
theorem readByte_writeBytes_other (s : State) (a : Nat) (l : List Byte) {b : Nat} (h : b < a ∨ a + l.length ≤ b) :
    readByte (writeBytes s a l) b = readByte s b := by
  suffices ∀ (n : Nat) (m : List Host.Cell), b < a + n ∨ a + n + l.length ≤ b →
      mget ((l.zipIdx n).foldl (fun m (x : Byte × Nat) => putByte m (a + x.2) x.1) m) b (memDefault b) =
        mget m b (memDefault b) from this 0 s.mem (by simpa using h)
  clear h
  induction l with
  | nil => intro n m _; rfl
  | cons x r ih =>
    intro n m h
    rw [List.zipIdx_cons, List.foldl_cons, ih (n + 1) _ (by simp at h; omega)]
    exact mget_putByte_other _ _ (by simp at h; omega)

theorem getD_ofFn_like {n i : Nat} (h : i < n) (f : Nat → Byte) : ((List.range n).map f).getD i 0 = f i := by
  simp [h]

/-- A read of the bytes written gives them. -/
theorem readByte_writeBytes_in (s : State) (a : Nat) (l : List Byte) {i : Nat} (h : i < l.length) :
    readByte (writeBytes s a l) (a + i) = l.getD i 0 := by
  suffices ∀ (l : List Byte) (n : Nat) (m : List Host.Cell) (i : Nat), i < l.length →
      mget ((l.zipIdx n).foldl (fun m (x : Byte × Nat) => putByte m (a + x.2) x.1) m) (a + (n + i)) (memDefault (a + (n + i))) =
        l.getD i 0 by have k := this l 0 s.mem i h; rwa [Nat.zero_add] at k
  intro l
  induction l with
  | nil => intro n m i h; simp at h
  | cons x r ih =>
    intro n m i h
    cases i with
    | zero =>
      rw [List.zipIdx_cons, List.foldl_cons]
      have key : ∀ (l : List Byte) (k : Nat) (m : List Host.Cell), n < k →
          mget ((l.zipIdx k).foldl (fun m (x : Byte × Nat) => putByte m (a + x.2) x.1) m) (a + n) (memDefault (a + n)) =
            mget m (a + n) (memDefault (a + n)) := by
        intro l
        induction l with
        | nil => intro k m _; rfl
        | cons y r ih =>
          intro k m hk
          rw [List.zipIdx_cons, List.foldl_cons, ih (k + 1) _ (by omega)]
          exact mget_putByte_other _ _ (by simp; omega)
      simpa using (key r (n + 1) _ (by omega)).trans (mget_putByte_same _ _ _)
    | succ i =>
      rw [List.zipIdx_cons, List.foldl_cons]
      have := ih (n + 1) (putByte m (a + n) x) i (by simpa using h)
      simpa [Nat.add_assoc, Nat.add_comm 1 i] using this

end Sys2Proof.Machine
end

