-- ==== Sys2Proof/Tests/Slice0.lean ====
section
/-! SUPPORT. Our own tests: ill-formed terms that WellFormed refuses, words and sums written out from the spec, and for each
statement a concrete state and operands that meet its hypotheses together. -/
open Sys2Proof Sys2Proof.Machine
set_option Elab.async false
namespace Sys2Proof.Tests

/-! States to test on -/

/-- CC0 and CC1 run in Boot ROM, tun 2 runs in Cellar, each between two bundles; the device is out of reset. -/
def cc : Core := { phase := .running, pc := 0x40, icache := [0x40, 0x41] }
def tn : Core := { phase := .running, pc := 0x10000000, icache := [0x10000000, 0x10000001] }
def up : State := { State.reset with
  cores := [(0, cc), (1, cc), (2, tn)]
  boot := { State.reset.boot with phase := .running }
  regs := [(R.PART_RGN_BASE 0, 0x10000000), (R.PART_RGN_LIMIT 0, 0x100FF000), (R.PART_RGN_ATTR 0, 0x1D)] }

/-- `up` with registers written. -/
def regs (l : List (Nat × Word)) : State := l.foldl (fun s x => rset s x.1 x.2) up

/-- `up` with core `p` changed. -/
def onCore (p : Nat) (f : Core → Core) : State := modCore up p f

def hd (p : Fin 14) : Head := ⟨p, true, [], 0⟩
def T (p : Fin 14) (d s1 s2 : BitVec 6) : TSyl := ⟨hd p, d, s1, s2⟩
def I (p : Fin 14) (d s1 : BitVec 6) (imm : BitVec 10) : ISyl := ⟨hd p, d, s1, imm⟩

/-- A 32-bit access by CC0, and a 64-bit one. -/
def by32 (v : Word) : RegAcc := ⟨.cc 0, false, v⟩
def by64 (v : Word) : RegAcc := ⟨.cc 0, true, v⟩

/-! The hypotheses as checks -/

def soloB (s : State) (h : Head) : Bool :=
  let p := h.core.val
  let c := coreOf s p
  let r := coreReq s p
  canStage s p && c.bundle = [] && c.inflight = [] && c.delay = none &&
  ((List.range 4).all fun k => creg p c (14 + 3 * k) = 0) && !(guardRefuses s p (levelNum r.level) c.pc .fetch) && c.fetchErr = [] &&
  decide (ikey r c.pc ∈ c.icache) && fetchCheck s r c.pc = none && h.e && decide (c.pc % 64 + 4 * (h.ks.length + 1) ≤ 64) &&
  decide (h.ks.length < bundleLimit p)

theorem solo_of {s : State} {h : Head} (H : soloB s h = true) : Solo s h := by
  simp only [soloB, Bool.and_eq_true, decide_eq_true_eq, List.all_eq_true, List.mem_range, Bool.not_eq_true'] at H
  obtain ⟨⟨⟨⟨⟨⟨⟨⟨⟨⟨⟨h1, h2⟩, h3⟩, h4⟩, h5⟩, h6⟩, h7⟩, h8⟩, h9⟩, h10⟩, h11⟩, h12⟩ := H
  exact ⟨h1, h2, h3, h4, h5, fun b => fetchGate_gathering s _ b h6 h7 h8 h9, h10, h11, h12⟩

def isUnit : Region → Bool
  | .unit _ _ => true
  | _ => false

def accB (s : State) (q : RegAcc) (a : Nat) (write : Bool) : Bool :=
  reqLive s q.who a && isUnit (regionOf s a) && unitCheck s (reqOf s q.who) a (if q.wide then 8 else 4) write = none &&
  !(write && writeIgnored s (reqOf s q.who) a) && !(windowOff s a)

theorem isUnit_of {r : Region} (h : isUnit r = true) : ∃ k off, r = .unit k off := by
  cases r <;> first | exact ⟨_, _, rfl⟩ | exact absurd h (by simp [isUnit])

theorem writeOk_of {s : State} {q : RegAcc} {a : Nat} (H : accB s q a true = true) : WriteOk s q a := by
  simp only [accB, Bool.and_eq_true, decide_eq_true_eq, Bool.not_eq_true', Bool.true_and] at H
  obtain ⟨⟨⟨⟨h1, h2⟩, h3⟩, h4⟩, h5⟩ := H
  exact ⟨h1, isUnit_of h2, h3, h4, h5⟩

theorem readOk_of {s : State} {q : RegAcc} {a : Nat} (H : accB s q a false = true) : ReadOk s q a := by
  simp only [accB, Bool.and_eq_true, decide_eq_true_eq, Bool.not_eq_true'] at H
  obtain ⟨⟨⟨⟨h1, h2⟩, h3⟩, h4⟩, h5⟩ := H
  exact ⟨h1, isUnit_of h2, h3, h5⟩

/-- A guard that reads one. -/
theorem guard_of {s : State} {h : Head} (H : pred h.core.val (coreOf s h.core.val) h.pg.toNat = true) : guardOn s h := H
theorem machine_of {s : State} {q : RegAcc} (H : (reqOf s q.who).machine = true) : byMachine s q := H
theorem boot_of {s : State} {q : RegAcc} (H : bootCode s (reqOf s q.who) = true) : byBoot s q := H

/-! Ill-formed terms (one for each check of WellFormed) -/

theorem test_wf_registerWidth : (Instr.registerWrite ⟨.cc 0, false, 0x100000000⟩ 0).wf = false := by decide
theorem test_wf_sevenKs : (Instr.add ⟨⟨2, true, List.replicate 8 0, 0⟩, 1, 2, 3⟩).wf = false := by decide
theorem test_wf_unlistedK : (Instr.nop (.unlisted 0x3C 0) (T 2 0 0 0)).wf = false := by decide
theorem test_wf_unlistedListed : (Instr.nop (.unlisted 0x00 0) (T 2 0 0 0)).wf = false := by decide
theorem test_wf_strayK : (Instr.nop .strayK ⟨⟨2, false, [], 0⟩, 0, 0, 0⟩).wf = false := by decide
theorem test_wf_stage0Start : (Instr.stage0Start [1, 2, 3]).wf = false := by decide
theorem test_wf_icacheFill : (Instr.icacheFill 0 0x41 .good).wf = false := by decide
theorem test_wf_prefetchLine : (Instr.prefetchLine 0 0x41 .good).wf = false := by decide
theorem test_wf_dcacheFill : (Instr.dcacheFill 0 0x41 .good).wf = false := by decide
theorem test_wf_eccWriteback : (Instr.eccWriteback 0x10000004).wf = false := by decide
theorem test_wf_well : (Instr.registerWrite (by32 1) 0).wf = true ∧ (Instr.add (T 2 1 2 3)).wf = true ∧ (Instr.nop .nop (T 2 0 0 0)).wf = true ∧
    (Instr.icacheFill 0 0x40 .good).wf = true := by decide

/-! Cores -/

/-- A head with one K syllable. -/
def hdK (p : Fin 14) : Head := { hd p with ks := [0x7FFFFFF] }

theorem test_wit_operations : (Solo up (hd 0) ∧ guardOn up (hd 0)) ∧ (Solo up (hd 2) ∧ guardOn up (hd 2)) ∧ (Solo up (hdK 2) ∧ guardOn up (hdK 2)) := by
  and_intros <;> first | exact solo_of (by decide +kernel) | exact guard_of (by decide +kernel)

theorem test_wit_CompareFlags : (T 2 15 7 7).d.toNat < 16 ∧ bits (creg 2 (coreOf up 2) 8) 1 0 = 0 ∧ (T 2 15 7 7).s1.toNat < 8 := by decide +kernel

theorem test_wit_ExactAccumulate : hasExa up = true ∧ (2 : Nat) ≤ (hd 2).core.val ∧ (T 2 3 0 0).d.toNat < 4 := by decide +kernel

theorem test_wit_GuardsAndZeroFields : Solo up { hd 2 with pg := 1 } ∧ pred 2 (coreOf up 2) 1 = false ∧ entersEvents up 2 ∧ (T 2 1 2 3).s2 ≠ 0 := by
  refine ⟨solo_of ?_, ?_, ⟨?_, ?_⟩, ?_⟩ <;> decide +kernel

/-- Loads and stores at the last bytes of a tun's local memory. -/
theorem test_wit_Loads : LoadOk up 2 0x2003FFFF 1 ∧ LoadOk up 2 0x2003FFF8 8 ∧ addressed 2 0x2003FFF8 8 := by
  refine ⟨fun b => ⟨rfl, coreLoad_gathering up 2 _ 1 0 0x3FFFF b rfl ?_ ?_ ?_ ?_⟩,
    fun b => ⟨rfl, coreLoad_gathering up 2 _ 8 0 0x3FFF8 b rfl ?_ ?_ ?_ ?_⟩, ?_, ?_⟩ <;> decide +kernel

theorem test_wit_Stores : StoreOk up 2 0x2003FFFF 1 0xAB ∧ StoreOk up 2 0x2003FFF8 8 0xAB := by
  refine ⟨⟨fun b => coreStore_gathering up 2 _ 1 0 0x3FFFF _ b rfl ?_ ?_ ?_, .inl ⟨?_, ?_, 0x3FFFF, ?_⟩⟩,
    fun b => coreStore_gathering up 2 _ 8 0 0x3FFF8 _ b rfl ?_ ?_ ?_, .inl ⟨?_, ?_, 0x3FFF8, ?_⟩⟩ <;> decide +kernel

theorem test_wit_Misaligned : (greg 2 (coreOf (onCore 2 fun c => { c with g := [(5, 1)] }) 2) 5 + immVal [] 0 * 2).toNat % 2 ≠ 0 := by decide +kernel

/-- Grant 3 from CC0 to tun 2 with one entry and stamps; grant 4 from tun 2 to CC0, of depth 2. -/
def granted (q3 q4 : List GEntry) : State := { regs [(R.GRANT_CFG 3, 0x02F007), (R.GRANT_CFG 4, 0xF00207)] with
  grants := [(3, { q := q3 }), (4, { q := q4 })] }

theorem test_wit_GrantOperations : let s := granted [⟨7, 9, 0⟩] []
    Solo s (hd 2) ∧ guardOn s (hd 2) ∧ grantOn s 3 = true ∧ grantReader s 3 = 2 ∧ 1 ≤ rlevel s 3 ∧ grantTs s 3 = true ∧
    ¬ (coreWorld 2 (coreOf s 2) = .normal ∧ grantSecure s 3 = true) ∧ grantOn s 4 = true ∧ grantWriter s 4 = 2 ∧ wlevel s 4 + 1 ≤ grantDepth s 4 ∧
    ¬ (coreWorld 2 (coreOf s 2) = .normal ∧ grantSecure s 4 = true) := by
  refine ⟨solo_of ?_, guard_of ?_, ?_⟩ <;> decide +kernel

theorem test_wit_GrantWaits : let s := granted [] [⟨7, 9, 0⟩, ⟨7, 9, 0⟩]
    Solo s (hd 2) ∧ grantOn s 3 = true ∧ rlevel s 3 = 0 ∧ grantDepth s 4 ≤ wlevel s 4 := by
  refine ⟨solo_of ?_, ?_⟩ <;> decide +kernel

theorem test_wit_SpargeOperations : 31 < spargeChannels up ∧ spOutstanding up 31 0 = false ∧ ownWindow 2 (tunAddr 2 0) 64 = true ∧
    (spQueue up 31).length < 8 ∧ ¬ (coreWorld 2 (coreOf up 2) = .normal ∧ spSecure up 31 = true) := by decide +kernel

theorem test_wit_Branches : let c := coreOf up 2
    (greg 2 c 0).toNat % 4 = 0 ∧ 0 < (immVal [] 1).toInt ∧ (c.pc + 4) % 2 ^ 40 ≤ (BitVec.ofNat 64 c.pc + immVal [] 1 * 4).toNat % 2 ^ 40 ∧
    c.pc < (c.pc + 4) % 2 ^ 40 ∧ c.pc < 2 ^ 40 := by decide +kernel

theorem test_wit_WaitIdle : (∀ b, eicAnyRequest (gathering up 0 b) 0 = false) ∧
    ∀ b, eicAnyRequest (gathering (regs [(R.EIC_CFG 8, 0x80000001), (R.EIC_PEND 0, 0x100)]) 0 b) 0 = true :=
  ⟨fun b => (rfl : _ = eicAnyRequest up 0).trans (by decide +kernel),
   fun b => (rfl : _ = eicAnyRequest (regs [(R.EIC_CFG 8, 0x80000001), (R.EIC_PEND 0, 0x100)]) 0).trans (by decide +kernel)⟩

/-- CC0 in the fast bank, with the image of a return to level N in G48 to G50. -/
def inFast : State := onCore 0 fun c => { c with creg := [(1, 0x43)], fastG := [(48, 0x80), (49, 0x31)] }

theorem test_wit_Returns : Solo inFast (hd 0) ∧ coreLevel 0 (coreOf inFast 0) ≠ .t ∧ eretDenied 0 (coreOf inFast 0) 0x31 = false ∧
    (coreOf inFast 0).settle = [] ∧ ∀ t, sameButPipe inFast t 0 → eretImage t 0 = (t, .inr ⟨0x80, 0x31, 0, none⟩) := by
  refine ⟨solo_of (by decide +kernel), by decide +kernel, by decide +kernel, by decide +kernel, ?_⟩
  rintro t ⟨c', rfl, -, -, hf, -, -, -, -, hc⟩
  have h1 : coreFast 0 c' = true := by
    rw [coreFast, hc 1 (by decide)]
    decide +kernel
  simp only [eretImage, coreOf_setCore_same, h1, if_true, hf]
  rfl

theorem test_wit_ControlRegisters : let c := coreOf up 0
    cregAssigned 0 2 = true ∧ cregReadLevel 0 2 ≤ levelNum (coreLevel 0 c) ∧ cregAssigned 0 7 = false ∧
    (coreLevel 2 (coreOf up 2) = .t ∧ cregAssigned 2 2 = true ∧ levelNum .t < cregReadLevel 2 2) ∧
    cregSettles 29 = true ∧ cregAssigned 0 29 = true ∧ cregWriteLevel 0 29 ≤ levelNum (coreLevel 0 c) := by decide +kernel

theorem test_wit_ControlRegisterReads : ∀ b, cregRead (gathering up 0 b) 0 (coreOf up 0) 2 = cregRead up 0 (coreOf up 0) 2 := fun _ => rfl

theorem test_wit_SyllableRoundTrip : (sylForm (.add (T 2 1 2 3))).isSome = true := by decide +kernel
theorem test_wit_WordsOfBundles : ∃ fs : List SylForm, [Instr.add (T 2 1 2 3)].map sylForm = fs.map some ∧ ∀ f ∈ fs, f.head.core = 2 :=
  ⟨[(sylForm (.add (T 2 1 2 3))).get (by decide +kernel)], by decide +kernel, by decide +kernel⟩

/-- The words of R159: OP, FN and the operand fields bit by bit. -/
theorem test_words : encodeSyl (.addsw ⟨{ hd 2 with pg := 3 }, 5, 6, 7⟩) = some [0x82C51872] ∧ encodeSyl (.add (T 2 1 2 3)) = some [0x80010830] := by
  decide +kernel

theorem test_wit_MemoryStaysCanonical : MemInv up ∧ MemInv (writeBytes up 0x10000000 [1, 0, 3]) := by decide +kernel

theorem test_wit_Writeback : let s := onCore 2 fun c => { c with inflight := [⟨0, .g 5, 7, 3⟩], cycle := 4, stall := some .long }
    procPresent s 2 = true ∧ coreLive s 2 = true ∧ (coreOf s 2).inflight = [⟨0, .g 5, 7, 3⟩] ∧ 3 < (coreOf s 2).cycle ∧
    (coreOf s 2).stall = some .long := by decide +kernel

theorem test_wit_Fills : let r := coreReq up 2
    coreLive up 2 = true ∧ (coreOf up 2).fetching = false ∧ (coreOf up 2).event = none ∧ fetchCheck up r 0x10000040 = none ∧
    memRead up r 0x10000040 64 .fetch = (up, .inr (readBytes up 0x10000040 64)) ∧ 0x10000040 / 64 = (coreOf up 2).pc / 64 + 1 := by decide +kernel

theorem test_wit_Prefetch : bit (creg 2 (coreOf (onCore 2 fun c => { c with creg := [(28, 1)] }) 2) 28) 0 = true := by decide +kernel

theorem test_wit_DcacheFill : let s := onCore 0 fun c => { c with stall := some (.dcache 0x400001) }
    coreLive s 0 = true ∧ (coreOf s 0).stall = some (.dcache (0x10000040 / 64)) ∧
    memRead s (coreReq s 0) 0x10000040 64 .read = (s, .inr (readBytes s 0x10000040 64)) := by decide +kernel

/-- CC0's data cache holds a dirty line of Cellar, and G5 its address. -/
def dirty : State := onCore 0 fun c => { c with g := [(5, 0x10000040)], dcache := mset [] (dkey .secure 0x10000040) ⟨.secure, true, List.replicate 64 7⟩ }

theorem test_wit_CacheMaintenance : Solo dirty (hd 0) ∧ dline (coreOf dirty 0) (coreReq dirty 0).world (greg 0 (coreOf dirty 0) 5).toNat =
      some ⟨.secure, true, List.replicate 64 7⟩ ∧ dline (coreOf up 0) (coreReq up 0).world 0 = none ∧ regionOf dirty 0x10000040 = .cellar := by
  refine ⟨solo_of ?_, ?_⟩ <;> decide +kernel

theorem test_wit_CacheClean : ∀ t, sameButPipe dirty t 0 → accessCheck t (coreReq t 0) 0x10000040 .write = none := by
  rintro t ⟨c', rfl, hp, -, -, -, -, hk, -, hc⟩
  have hr : coreReq (setCore dirty 0 c') 0 = coreReq dirty 0 := by
    show (⟨.cc 0, 0, coreWorld 0 (coreOf (setCore dirty 0 c') 0), coreLevel 0 (coreOf (setCore dirty 0 c') 0), none⟩ : Req) =
      ⟨.cc 0, 0, coreWorld 0 (coreOf dirty 0), coreLevel 0 (coreOf dirty 0), none⟩
    rw [coreOf_setCore_same, coreWorld, coreLevel, hc 1 (by decide)]
    rfl
  rw [hr, accessCheck_cellar (by decide +kernel)]
  decide +kernel

/-! Entry and interrupts -/

/-- The EDT buffer of CC0 holds an entry for ALIGN at level M: handler 0x100, stack at 0x10002000, of a class; the event waits. -/
def edtEntry (ty flags : Byte) : List Byte := leBytes 8 0x100 ++ leBytes 8 0x10002000 ++ [ty, flags] ++ List.replicate 14 0
def entering (ty flags : Byte) : State := onCore 0 fun c => { c with event := some ⟨5, 5, 0x41⟩, edt := [(32 * 5, edtEntry ty flags)] }

theorem test_wit_NormalEntry : let s := entering 3 1
    let t := beforeEntry s 0
    let r := (readEdt t 0 3 5).1
    let e : EdtEntry := ⟨0x100, 0x10002000, false, false, false⟩
    coreLive s 0 = true ∧ (coreOf s 0).event = some ⟨5, 5, 0x41⟩ ∧ eventLevel 0 (coreOf t 0) 5 = 3 ∧ readEdt t 0 3 5 = (r, .inr e) ∧
    (coreWrite r 0 (reqAt r 0 3) 0x10001F80 (frameOf 0 (coreOf r 0))).2 = true := by decide +kernel

theorem test_wit_FastEntry : let s := entering 3 9
    let t := beforeEntry s 0
    let r := (readEdt t 0 3 5).1
    coreLive s 0 = true ∧ (coreOf s 0).event = some ⟨5, 5, 0x41⟩ ∧ readEdt t 0 3 5 = (r, .inr ⟨0x100, 0x10002000, false, false, true⟩) ∧
    coreFast 0 (coreOf r 0) = false := by decide +kernel

theorem test_wit_Escalation : let s := rset (rset (entering 0 1) R.PART_ESC_PC 0x200) R.PART_ESC_SP 0x10004000
    let t := beforeEntry s 0
    let r := (readEdt t 0 3 5).1
    coreLive s 0 = true ∧ readEdt t 0 3 5 = (r, .inl 3) ∧ bit (creg 0 (coreOf r 0) 1) 7 = false ∧ rbits r R.PART_ESC_PC 39 2 * 4 ≠ 0 ∧
    (coreWrite r 0 { reqAt r 0 3 with world := levelWorld 0 (coreOf r 0) 3 } (escSp r 0 - 0x80) (frameOf 0 (coreOf r 0))).2 = true := by
  decide +kernel

/-- Source 5 pends, enabled for CC0, of the normal class unless `cfg` says otherwise. -/
def pends (cfg : Word) : State := modCore (regs [(R.EIC_CFG 5, cfg), (R.EIC_PEND 0, 0x20)]) 0 fun c => { c with creg := [(1, 0x37)] }

theorem test_wit_InterruptDelivery : let s := pends 0x80000001
    canAccept s 0 = true ∧ (coreOf s 0).stall = none ∧ (coreOf s 0).inflight = [] ∧ (∃ w, requestClass s 0 = some (false, w) ∧
      eicCandidate s 0 false w = some 5) ∧ ∃ w, requestClass (pends 0xC0000001) 0 = some (true, w) := by
  refine ⟨?_, ?_, ?_, ⟨.normal, ?_⟩, .normal, ?_⟩ <;> decide +kernel

theorem test_wit_EicWrites : WriteOk up (by32 1) (R.EIC_PEND 7) ∧ WriteOk up (by32 1) (R.EIC_CLR 0) ∧ WriteOk up (by32 1) (R.EIC_DONE 1) ∧
    WriteOk up (by32 0x80000000) R.EIC_STRAY ∧ (reqOf up (.cc 0)).world = .secure := by
  refine ⟨writeOk_of ?_, writeOk_of ?_, writeOk_of ?_, writeOk_of ?_, ?_⟩ <;> decide +kernel

theorem test_wit_Claims : let s := regs [(R.EIC_CFG 0, 0x80000001), (R.EIC_PEND 0, 1)]
    ReadOk s (by32 0) (R.EIC_CLAIM 0) ∧ eicCandidate s 0 false .secure = some 0 ∧ eicCandidate s 0 true .secure = none := by
  refine ⟨readOk_of ?_, ?_⟩ <;> decide +kernel

theorem test_wit_Completions : let s := { regs [(R.EIC_ACTIVE 7, 0x80000000)] with claims := [(255, ⟨0, .secure⟩)] }
    WriteOk s (by32 255) (R.EIC_DONE 0) ∧ s.claims.find? (fun e => e.1 = 255) = some (255, ⟨0, .secure⟩) ∧ eicActive s 255 = true ∧
    (by32 255).wr.bits 7 0 = 255 ∧ eicActive up 255 = false := by
  refine ⟨writeOk_of ?_, ?_⟩ <;> decide +kernel

theorem test_wit_Bungs : let held := setBung up 63 (.held 0 .secure)
    ReadOk up (by32 0) (R.BUNG 63) ∧ bungTaker (.cc 0) = true ∧ bung up 63 = .free ∧ bung held 63 = .held 0 .secure ∧
    bung (setBung up 0 (.broken 1 .normal)) 0 = .broken 1 .normal ∧ WriteOk held (by32 0x80000000) (R.BUNG 63) ∧
    WriteOk held (by32 0x8000003F) R.BUNG_BREAK ∧ (by32 0x8000003F).wr.bits 5 0 = 63 ∧ byMachine held (by32 0) := by
  refine ⟨readOk_of ?_, ?_, ?_, ?_, ?_, writeOk_of ?_, writeOk_of ?_, ?_, machine_of ?_⟩ <;> decide +kernel

/-! Resets, releases, SYSCON and PART -/

theorem test_wit_ColdResets : State.reset.boot.soc = true ∧ State.reset.boot.dormant = false ∧ WriteOk up (by32 0x5A170002) R.SYSCON_RESET_REQ ∧
    byMachine up (by32 0x5A170002) ∧ (by32 0x5A170002).wr.bits 31 16 = 0x5A17 ∧ (by32 0x5A170002).wr.bits 1 0 = 2 := by
  refine ⟨?_, ?_, writeOk_of ?_, machine_of ?_, ?_⟩ <;> decide +kernel

theorem test_wit_WarmResets : let s := regs [(R.WDT_CTRL, 1), (R.WDT_STAT, 4)]
    s.boot.phase = .running ∧ WriteOk s (by32 0x5A170001) R.SYSCON_RESET_REQ ∧ byMachine s (by32 0x5A170001) ∧ (by32 0x5A170001).wr.bits 1 0 = 1 ∧
    rbit s R.WDT_CTRL 0 = true ∧ rbit s R.WDT_STAT 2 = true ∧ wdtPaused s = false := by
  refine ⟨?_, writeOk_of ?_, machine_of ?_, ?_⟩ <;> decide +kernel

theorem test_wit_BothWedged : let s := modCore (onCore 0 fun c => { c with phase := .wedged }) 1 fun c => { c with phase := .partReset }
    s.boot.phase = .running ∧ (coreOf s 0).phase = .wedged ∧ (coreOf s 1).phase = .partReset := by decide +kernel

theorem test_wit_WarmGates : ¬ (by32 0x5A160001).wr.bits 31 16 = 0x5A17 ∧ (let s : State := { up with boot := { up.boot with resetN := false, phase := .held } }
    s.boot.resetN = false ∧ s.boot.soc = true ∧ s.boot.aon = true ∧ s.boot.dormant = false ∧ s.boot.phase = .held) := by decide +kernel

theorem test_wit_ControlCoreResets : let s := onCore 1 fun c => { c with phase := .wedged }
    let r := rset (onCore 1 fun c => { c with phase := .partReset }) R.PART_ESC_PC 0x200
    (coreOf s 1).phase = .wedged ∧ (coreOf s 0).phase = .running ∧ WriteOk r (by32 2) R.SYSCON_CC_RELEASE ∧ (by32 2).wr.v = 2 ∧
    (coreOf r 1).phase = .partReset := by
  refine ⟨?_, ?_, writeOk_of ?_, ?_⟩ <;> decide +kernel

theorem test_wit_Sealing : let s := regs [(R.PART_PHASE, 1)]
    WriteOk up (by32 0x5EA10001) R.PART_SEAL ∧ rbits up R.PART_PHASE 1 0 = 0 ∧ byMachine up (by32 0) ∧ (coreOf up 0).pc < 0x20000 ∧
    WriteOk s (by32 0x5EA10002) R.PART_SEAL ∧ rbits s R.PART_PHASE 1 0 = 1 ∧ byBoot s (by32 0) := by
  refine ⟨writeOk_of ?_, ?_, machine_of ?_, ?_, writeOk_of ?_, ?_, boot_of ?_⟩ <;> decide +kernel

theorem test_wit_RegisterAccesses : WriteOk up (by64 0x10000004) R.SYSCON_TUN_VECTOR ∧ WriteOk up (by32 0x1FF) R.SYSCON_RESET_CAUSE ∧
    WriteOk up (by32 3) R.SYSCON_PROMISE ∧ WriteOk up (by64 4) R.SYSCON_CC1_VECTOR ∧ byBoot up (by32 0) := by
  refine ⟨writeOk_of ?_, writeOk_of ?_, writeOk_of ?_, writeOk_of ?_, boot_of ?_⟩ <;> decide +kernel

theorem test_wit_RefusedAccesses : reqLive up .pcie 0x40000000 = true ∧ (reqOf up .pcie).world = .normal ∧ regOwner up 0x40010014 = .secure ∧
    (∃ off, regionOf up 0x40010014 = .unit 1 off) ∧ (∃ k, regionOf { up with variant := .zm8610 } 0x401A0000 = .absent k) := by
  refine ⟨?_, ?_, ?_, ⟨0x14, ?_⟩, 0x1A, ?_⟩ <;> decide +kernel

theorem test_wit_DebugAccess : let s := { regs [(R.DEBUG_STATUS, 2)] with dbg := { busy := true } }
    ReadOk up (by32 0) (R.DEBUG_CHALLENGE 0) ∧ WriteOk up (by32 1) R.DEBUG_TOKEN_GO ∧ WriteOk up (by32 1) R.DEBUG_LOCK ∧ s.dbg.busy = true ∧
    (tokenOk { s with dbg := { s.dbg with busy := false } } (dbgToken s) = false) ∧ debugOpen s ≠ 0 ∧ (coreOf s 2).phase = .running ∧
    bit (creg 2 (coreOf s 2) 1) 3 = false ∧ debugWorld s = .secure ∧ (coreOf (onCore 2 fun c => { c with phase := .halted }) 2).phase = .halted ∧
    s.boot.testMode = false ∧ lifecycle s = 0 := by
  refine ⟨readOk_of ?_, writeOk_of ?_, writeOk_of ?_, ?_⟩ <;> decide +kernel

/-! The chain of trust -/

theorem test_wit_StageZero : let s := regs [(R.AON_BOOT_STATUS, 4)]
    State.reset.boot.phase = .ready ∧ rbit s R.AON_BOOT_STATUS 2 = true ∧ rbit State.reset R.AON_BOOT_STATUS 2 = false ∧ lifecycle State.reset = 0 := by
  decide +kernel

/-- A part in FIELD with empty flash, booting from xSPI: its header fails the check. -/
def fieldPart : State := { State.reset with otp := { lifecycle := 3 }, boot := { State.reset.boot with cold := false } }
theorem test_wit_BlankFlash : fieldPart.boot.phase = .ready ∧ lifecycle fieldPart ≠ 0 ∧ xspiBoot fieldPart ∧
    headerFields (List.replicate 0x1600 0xFF) 1 = false := by
  refine ⟨?_, ?_, ⟨?_, ?_⟩, ?_⟩ <;> decide +kernel

theorem test_wit_Retries : up.boot.phase = .running ∧ rbit up R.AON_BOOT_STATUS 7 = false ∧ rbit up R.AON_BOOT_STATUS 2 = false ∧ up.boot.linkBuf = [] ∧
    startOk up = true := by decide +kernel

theorem test_wit_BootConfirm : let s := regs [(R.AON_BOOT_STATUS, 0x80), (R.PART_PHASE, 2)]
    WriteOk s (by32 1) R.AON_BOOT_CONFIRM ∧ (reqOf s (.cc 0)).world = .secure ∧ rbit s R.AON_BOOT_STATUS 7 = true ∧ rbits s R.PART_PHASE 1 0 = 2 := by
  refine ⟨writeOk_of ?_, ?_⟩ <;> decide +kernel

theorem test_wit_LoadService : let s := modCore { fieldPart with cores := [(0, cc)], boot := { fieldPart.boot with phase := .running } } 0 fun c => { c with pc := 0x100 }
    atService s = true ∧ s.boot.waiting = none ∧ s.boot.called = false ∧ xspiBoot s ∧ rbit s R.AON_BOOT_STATUS 10 = false := by
  refine ⟨?_, ?_, ?_, ⟨?_, ?_⟩, ?_⟩ <;> decide +kernel

/-- One manifest entry of no bytes into a region of KIND 2 in Cellar, whose HASH is zero. -/
theorem test_wit_LoadEntry : let s := regs [(R.PART_RGN_ATTR 0, 0x5D)]
    let e := leBytes 8 0 ++ leBytes 8 0x10000000 ++ [1] ++ List.replicate 63 0
    entryRegion s e = some 0 ∧ rgnSealed s 0 = false ∧ sub e 0x20 48 = List.replicate 48 0 := by decide +kernel

/-! Keys, Keeve and Copper -/

/-- Context 7 is held by CC0, with an operation in CX_OP. -/
def held7 (op : Word) (m : Option CxMsg) : State := { regs [(R.CX_OP 7, op), (R.CX_SRC 7, 0x10000000), (R.CX_DST 7, 0x10000100)] with
  copper := { cx := [(7, { holder := some (reqOf up (.cc 0)), msg := m })] } }

theorem test_wit_CopperStart : let s := held7 0x10 none
    WriteOk s (by32 1) (R.CX_CTRL 7) ∧ (by32 1).wr.bits 4 0 = 1 ∧ (cx s 7).holder = some (reqOf up (.cc 0)) ∧ bits (rget s (R.CX_OP 7)) 7 0 = 0x10 ∧
    (cx s 7).msg = none ∧ cxStartCheck s 7 (reqOf up (.cc 0)) = 0 ∧ algKeyed 0x01 = true ∧ ksType s 31 = 0 ∧
    (cx (held7 0x10 (some ⟨0x10, none⟩)) 7).msg ≠ none := by
  refine ⟨writeOk_of ?_, ?_⟩ <;> decide +kernel

theorem test_wit_CopperDigest : let s := held7 0x10 (some ⟨0x10, none⟩)
    let h := reqOf up (.cc 0)
    (cxArgs s 7 h).alg = 0x10 ∧ memRead s h 0x10000000 0 .read = (s, .inr []) ∧ (memWrite s h 0x10000100 (List.replicate 32 7)).2 = none ∧
    (memRead s h 0x50000000 64 .read).2.isLeft = true := by decide +kernel

theorem test_wit_KeySlots : let s := regs [(R.TRNG_STATUS, 1)]
    WriteOk s (by64 0x01040020001F0001) R.COPPER_KS_CMD ∧ (by64 0x01040020001F0001).wr.bits 20 16 = 31 ∧ (by64 0x01040020001F0001).wr.bits 3 0 = 1 ∧
    ksLenOk 0x01040020 = true ∧ bits (0x01040020 : Word) 27 24 = 1 ∧ ksMayLoad s (reqOf s (.cc 0)).world 31 0x01040020 = true ∧ ksType s 31 = 0 ∧
    drbgReady s = true ∧ drbgReady up = false := by
  refine ⟨writeOk_of ?_, ?_⟩ <;> decide +kernel

theorem test_wit_ContextClaim : ReadOk up (by32 0) R.COPPER_CLAIM ∧ (by32 0).who ≠ .debug ∧ freeCx up = [0, 1, 2, 3, 4, 5, 6, 7] ∧
    (reqOf up (.cc 0)).world = .secure := by
  refine ⟨readOk_of ?_, ?_⟩ <;> decide +kernel

theorem test_wit_Park : let s := rset (held7 0x10 (some ⟨0x10, none⟩)) (R.CX_PARK 7) 0x10000200
    let h := reqOf up (.cc 0)
    WriteOk s (by32 4) (R.CX_CTRL 7) ∧ (by32 4).wr.bits 4 0 = 4 ∧ (cx s 7).holder = some h ∧ (cx s 7).msg = some ⟨0x10, none⟩ ∧
    parkAllowed (rset s (R.PART_RGN_ATTR 0) 0x1F) h.world 0x10000200 = true ∧ parkAllowed s h.world 0x10000200 = false ∧ s.copper.serials.length < 64 := by
  refine ⟨writeOk_of ?_, ?_⟩ <;> decide +kernel

theorem test_wit_Keeve : let s := regs [(R.KEEVE_ADDR, 0x3FFF8), (R.KEEVE_LEN, 8)]
    WriteOk s (by32 1) R.KEEVE_CMD ∧ s.keeve.running = none ∧ (by32 1).wr.bits 3 0 = 1 ∧ rbits s R.KEEVE_ADDR 17 3 * 8 + rbits s R.KEEVE_LEN 8 0 = 0x40000 ∧
    (∀ i, i < 8 → mget s.keeve.data (0x3FFF8 + i) 0xFF = 0xFF) ∧ 0xC000 ≤ rbits s R.KEEVE_ADDR 17 3 * 8 := by
  refine ⟨writeOk_of ?_, ?_⟩ <;> decide +kernel

theorem test_wit_KeeveCounter : let s := { regs [(R.KEEVE_ADDR, 0x1000), (R.PART_PHASE, 1), (R.AON_BOOT_STATUS, 0x800), (R.KEEVE_BUF 0, 5)] with
      boot := { up.boot with ver1 := 5 } }
    WriteOk s (by32 3) R.KEEVE_CMD ∧ (by32 3).wr.bits 3 0 = 3 ∧ rbits s R.KEEVE_ADDR 17 3 * 8 / 4096 = 1 ∧ (by32 3).wr.bits 15 8 = 0 ∧
    rbits s R.PART_PHASE 1 0 = 1 ∧ byBoot s (by32 3) ∧ rbit s R.AON_BOOT_STATUS 11 = true ∧ keeveCounter s 0 < fieldAt (keeveBuf s 4) 0 4 ∧
    fieldAt (keeveBuf s 4) 0 4 ≤ s.boot.ver1 := by
  refine ⟨writeOk_of ?_, ?_, ?_, ?_, ?_, boot_of ?_, ?_⟩ <;> decide +kernel

theorem test_wit_KeeveRevoke : let s : State := { up with keeve := { roots := [(0, ⟨[1], false⟩), (3, ⟨[2], false⟩)] } }
    WriteOk s (by32 0x304) R.KEEVE_CMD ∧ (by32 0x304).wr.bits 15 8 = 3 ∧ byBoot s (by32 0x304) ∧ s.boot.root = 0 ∧ s.boot.root ∈ liveRoots s := by
  refine ⟨writeOk_of ?_, ?_, boot_of ?_, ?_⟩ <;> decide +kernel

theorem test_wit_Trng : rbit up R.TRNG_STATUS 3 = false ∧ rbit (regs [(R.TRNG_STATUS, 8)]) R.TRNG_STATUS 3 = true ∧ ReadOk up (by64 0) R.TRNG_OUT := by
  refine ⟨?_, ?_, readOk_of ?_⟩ <;> decide +kernel

/-- Region 31 is sealed, of KIND 2, in the xSPI window. -/
def sealed : State := regs [(R.PART_RGN_BASE 31, 0x60000000), (R.PART_RGN_LIMIT 31, 0x60000000), (R.PART_RGN_ATTR 31, 0x45), (R.COPPER_SEAL_TAG 31, 0x60010000)]

theorem test_wit_Reseal : WriteOk sealed (by32 0x11F) R.COPPER_SEAL_CMD ∧ byMachine sealed (by32 0x11F) ∧ (by32 0x11F).wr.one 8 = true ∧
    (by32 0x11F).wr.bits 4 0 = 31 ∧ rgnSealed sealed 31 = true ∧ regionOf sealed (rgnLo sealed 31) = .xspi ∧ sealEpoch sealed 31 < 0xFFFFFFFF := by
  refine ⟨writeOk_of ?_, machine_of ?_, ?_⟩ <;> decide +kernel

theorem test_wit_ResealDone : let s : State := { up with copper := { reseals := [31] } }
    31 ∈ s.copper.reseals ∧ sealEpoch s 31 < 0xFFFFFFFF := by decide +kernel

theorem test_wit_FirkinCommands : let s := rput up R.COPPER_FK_STATE 62 60 4
    WriteOk s (by32 0xF02) R.COPPER_FK_CMD ∧ (by32 0xF02).wr.bits 11 8 = 15 ∧ (by32 0xF02).wr.bits 2 0 = 2 ∧ byMachine s (by32 0xF02) ∧
    s.copper.fkJob = none ∧ fkState s 15 = 4 ∧ fkState s 0 = 0 := by
  refine ⟨writeOk_of ?_, ?_, ?_, machine_of ?_, ?_⟩ <;> decide +kernel

theorem test_wit_FirkinLoad : let s := regs [(R.PART_RGN_BASE 5, 0x10200000), (R.PART_RGN_LIMIT 5, 0x10200000), (R.PART_RGN_ATTR 5, 0xF6D), (R.COPPER_FK_SRC, 0x10000000),
      (R.TRNG_STATUS, 1)]
    WriteOk s (by32 0xF01) R.COPPER_FK_CMD ∧ byMachine s (by32 0xF01) ∧ (by32 0xF01).wr.bits 2 0 = 1 ∧ lifecycle s ≠ 4 ∧ fkRegions s 15 3 ≠ [] ∧
    fkState s 15 = 0 ∧ drbgReady s = true ∧ fkCheck s 15 (List.replicate 0x1600 0) none ≠ 0 := by
  refine ⟨writeOk_of ?_, machine_of ?_, ?_⟩ <;> decide +kernel

theorem test_wit_FirkinJobs : let s : State := { up with copper := { fkJob := some { slot := 15, load := false } } }
    s.copper.fkJob = some { slot := 15, load := false } := rfl

/-! Sparge -/

theorem test_wit_SpargePost : WriteOk up (by64 0x10000000) (R.SPARGE_POST 31) ∧ 31 < spargeChannels up ∧ (spQueue up 31).length < 8 ∧
    bits (by64 0x10000000).wr.v 5 0 = 0 ∧ bits (by64 0x10000000).wr.v 63 40 = 0 ∧
    memRead up (reqOf up (.cc 0)) 0x10000000 64 .read = (up, .inr (readBytes up 0x10000000 64)) ∧ WriteOk up (by32 2) (R.SPARGE_CHCTL 31) ∧
    (by32 2).wr.one 1 = true := by
  refine ⟨writeOk_of ?_, ?_, ?_, ?_, ?_, ?_, writeOk_of ?_, ?_⟩ <;> decide +kernel

/-- A copy of 8 bytes within Cellar, in a phase, at the front of channel 31. -/
def copy8 (fl : BitVec 16) : SpDesc := ⟨0x10000000, 0x10000800, 8, 1, fl, 0, 0, 0x10000040, 0, 0, 0, 0⟩
def moving (fl : BitVec 16) (ph : SpPhase) (fin : List (SpDesc × Byte × Bool)) : State :=
  setSpQueue (regs [(R.SPARGE_CHCTL 31, 1)]) 31 [⟨reqOf up (.cc 0), none, none, 0, false, copy8 fl, ph, 0, fin, none, reqOf up (.cc 0)⟩]

theorem test_wit_SpargeStart : let s := moving 0 .queued []
    ∃ e, (spQueue s 31)[0]? = some e ∧ e.phase = .queued ∧ rbit s (R.SPARGE_CHCTL 31) 0 = true ∧ e.desc.fence = false ∧ e.desc.total ≠ 0 :=
  ⟨⟨reqOf up (.cc 0), none, none, 0, false, copy8 0, .queued, 0, [], none, reqOf up (.cc 0)⟩, by decide +kernel⟩

theorem test_wit_SpargeChain : let s := moving 0 .chain []
    ∃ e, (spQueue s 31)[0]? = some e ∧ e.phase = .chain ∧ memRead s e.post 0x10000040 64 .read = (s, .inr (List.replicate 64 0)) ∧
      (spDesc (List.replicate 64 0)).fieldsBad = false :=
  ⟨⟨reqOf up (.cc 0), none, none, 0, false, copy8 0, .chain, 0, [], none, reqOf up (.cc 0)⟩, by decide +kernel⟩

theorem test_wit_SpargeBurst : let s := moving 0 .running []
    ∃ e, (spQueue s 31)[0]? = some e ∧ spServes s 31 0 = true ∧ spDataGrantsOk s 31 e.desc = true ∧ e.desc.dstGt = false ∧
      spBurstLen s e ≤ spRow e - e.moved % spRow e ∧ regionOf s (spDst e) = .cellar ∧ spMayWrite s e (spDst e) 8 = true ∧ e.desc.fill = false ∧
      e.desc.srcGt = false ∧ regionOf s (spSrc e) = .cellar ∧ remStart s e.req (spSrc e) (spBurstLen s e) none = s ∧
      busWaits s e.req (spSrc e) (spBurstLen s e) false = false ∧ (memWrite s e.req (spDst e) (List.replicate 8 0)).2 = none :=
  ⟨⟨reqOf up (.cc 0), none, none, 0, false, copy8 0, .running, 0, [], none, reqOf up (.cc 0)⟩, by decide +kernel⟩

theorem test_wit_SpargeComplete : let s := moving 0 .ended [(copy8 0, 0, false)]
    strPostAll (spComplete s 31) 31 = spComplete s 31 ∧ (copy8 0).donePush = false := by decide +kernel

/-! Orders, racking and the steep rotation -/

theorem test_wit_Queues : let s := regs [(R.ORDER_QSTG 31, 0x10000000), (R.ORDER_QSTGCFG 31, 0xC00), (R.PART_RGN_ATTR 0, 0x3F)]
    WriteOk s (by32 0x11) (R.ORDER_QCFG 31) ∧ queueOn s 31 = false ∧ queueDrained s 31 = true ∧ bit (by32 0x11).wr.v 0 = true ∧ (by32 0x11).wr.bits 4 1 = 8 ∧
    stagingOk s 31 = true ∧ stagingOk up 31 = false ∧ WriteOk s (by64 7) (R.ORDER_QGYLE 31) ∧ WriteOk s (by32 256) (R.ORDER_QDOOR 31) ∧
    WriteOk s (by32 1) R.ORDER_CTRL ∧ (∀ m, m < 64 → rbits s (R.STR_CFG m) 28 24 = 31 → rbits s (R.STR_STATE m) 2 0 ≠ 2 ∧ rbits s (R.STR_STATE m) 2 0 ≠ 3) := by
  refine ⟨writeOk_of ?_, ?_, ?_, ?_, ?_, ?_, ?_, writeOk_of ?_, writeOk_of ?_, writeOk_of ?_, ?_⟩ <;> decide +kernel

/-- Queue 31 of 8 entries is enabled, with its ring in Cellar, and `j` in the journal. -/
def queued (l : List (Nat × Word)) (j : List (Nat × JEntry)) : State := { regs ([(R.ORDER_CTRL, 1), (R.ORDER_QCFG 31, 0x7), (R.ORDER_QRING 31, 0x10010000),
  (R.ORDER_QCPL 31, 0x10020000), (R.ORDER_QSTG 31, 0x10030000), (R.ORDER_QSTGCFG 31, 0xC00)] ++ l) with journal := j, doors := [(31, [1, 256])] }

/-- An order of queue 31 of the lowest gyle, with OUT_LEN `out`, and FLAGS and CLASS in `fl`. -/
def order (st : JSt) (fl out : Nat) (proc : Option Nat) (rec : List Byte) : JEntry := ⟨0, 31, 0x10010000, st, 0, [], 0, 0, 0,
  leBytes 8 0x10000000 ++ leBytes 8 0x10001000 ++ leBytes 8 0 ++ leBytes 8 0x10002000 ++ leBytes 4 out ++ [0, 0] ++ leBytes 2 fl ++ List.replicate 24 0,
  proc, false, false, false, rec⟩

theorem test_wit_OrderAccept : let s := queued [] []
    mget s.doors 31 [] = [1, 256] ∧ queueOn s 31 = true ∧ s.journal.length < 1024 ∧ memRead s (orderReq s 31) 0x10010000 64 .read = (s, .inr (List.replicate 64 0)) ∧
    ((queueOrders s 31).any fun e => e.2.gyle % queueSize s 31 = (rget s (R.ORDER_QGYLE 31)).toNat % queueSize s 31) = false ∧
    ((queueOrders (queued [] [(0, order .staged 0 0 none [])]) 31).any fun e => e.2.gyle % queueSize s 31 = (rget s (R.ORDER_QGYLE 31)).toNat % queueSize s 31) = true := by
  decide +kernel

theorem test_wit_Racks : let s := queued [] [(5, order .staged 0 0 none [])]
    rbit s R.ORDER_CTRL 0 = true ∧ rackNext s 31 = some (5, order .staged 0 0 none []) ∧ (order .staged 0 0 none []).barrier = false ∧
    (order .staged 4 0 none []).barrier = true ∧ mget s.safeWait 31 [] = [] ∧ (order .staged 0 0 none []).f 0x20 4 = 0 ∧
    (order .staged 1 8 none []).rackable = true ∧ (order .staged 1 8 none []).f 0x20 4 ≠ 0 := by decide +kernel

theorem test_wit_RackCopy : let s := queued [] [(5, order .staged 1 8 none [])]
    let s1 := setJ s 5 (order .racking 1 8 none [])
    let src := (stagingSlot s 31 0).1
    memRead s1 (orderReq s 31) src 8 .read = (s1, .inr (List.replicate 8 0)) ∧ remStart s1 (orderReq s 31) 0x10002000 8 (some (List.replicate 8 0)) = s1 ∧
    busWaits s1 (orderReq s 31) 0x10002000 8 true = false := by
  decide +kernel

theorem test_wit_Racked : let e := order .racking 0 0 none (List.replicate 32 0)
    let s := queued [] [(5, e)]
    rackNext s 31 = some (5, e) ∧ e.record ≠ [] ∧ busWaits s (orderReq s 31) (recordAt s 31 0).1 32 true = false ∧
    (memWrite s (orderReq s 31) (recordAt s 31 0).1 e.record).2 = none ∧ mget s.safeWait 31 [] = [] := by decide +kernel

/-- Tun 13's fetcher is free and in the pool; queue 31 may run there. -/
def fetcher (c : Core) (e : JEntry) : State := { queued [(R.ORDER_QELIG 31, 0x3FFC), (R.STEEP_POOL, 0x3FFC)] [(5, e)] with cores := [(13, c)] }

theorem test_wit_Claim : let e := order .accepted 0 0 none []
    let s := fetcher { tn with fetching := true } e
    fetcherFree s 13 = true ∧ orderFor s 13 = some (5, e) ∧ (e.useFk.any fun f => fkState s f = 0) = false := by decide +kernel

theorem test_wit_AttemptStart : let e := order .running 0 0 (some 13) []
    let s := fetcher { tn with fetching := true, order := some 5 } e
    (coreOf s 13).order = some 5 ∧ jentry s 5 = some e ∧ (coreOf s 13).lastWorld = oqWorld s 31 ∧ (coreOf s 13).lastFk = e.useFk ∧ e.f 0x10 4 = 0 ∧
    memRead s (orderReq s 31) 0x10010000 64 .read = (s, .inr (List.replicate 64 0)) := by decide +kernel

theorem test_wit_AttemptEnd : let e := order .running 0 0 (some 13) []
    let s := fetcher { tn with fetching := true, order := some 5, odone := true } e
    (coreOf s 13).order = some 5 ∧ jentry s 5 = some e ∧ e.st = .running ∧ e.proc = some 13 ∧ (coreOf s 13).odone = true ∧
    (∀ c, c < 32 → spOutstanding s c 11 = false) := by decide +kernel

theorem test_wit_AttemptWatchdog : let s := rset (fetcher { tn with order := some 5 } (order .running 0 0 (some 13) [])) (R.ORDER_BUDGET 0) 1
    (coreOf s 13).order = some 5 ∧ rbits s (R.ORDER_BUDGET 0) 15 0 ≠ 0 := by decide +kernel

theorem test_wit_TunRelease : WriteOk up (by32 1) R.SYSCON_TUN_RELEASE ∧ (by32 1).wr.one 0 = true ∧ rbit up R.SYSCON_TUN_RELEASE 0 = false ∧
    firstSpare up ∈ aliveTuns up := by
  refine ⟨writeOk_of ?_, ?_⟩ <;> decide +kernel

theorem test_wit_SteepSwap : let s := regs [(R.SYSCON_TUN_RELEASE, 1), (R.STEEP_STATUS, 0x20)]
    s.steep.swapping = false ∧ steepPhase s = 0 ∧ rbit s R.SYSCON_TUN_RELEASE 0 = true ∧ s.steep.direct = none ∧ s.steep.must = [] ∧ steepPaused s = false ∧
    rbits s R.STEEP_STATUS 7 4 = 2 := by decide +kernel

theorem test_wit_SteepTests : let s : State := { regs [(R.STEEP_STATUS, 0x100)] with steep := { out := 13, swapping := true } }
    let u := regs [(R.STEEP_STATUS, 0x30D)]
    steepPhase s = 1 ∧ (coreOf s 13).order = none ∧ steepPhase u = 3 ∧ steepSpare u = 13 ∧ rbit u R.STEEP_CTRL 1 = false ∧ u.keeve.running = none := by
  decide +kernel

theorem test_wit_SteepCommands : WriteOk up (by32 2) R.STEEP_CTRL ∧ bit (by32 2).wr.v 1 = true ∧ steepPhase up = 0 ∧ steepPaused up = false ∧
    WriteOk up (by32 0x10D) R.STEEP_DIRECT ∧ (by32 0x10D).wr.one 8 = true ∧ up.steep.direct = none ∧ (by32 0x10D).wr.bits 3 0 ∈ aliveTuns up := by
  refine ⟨writeOk_of ?_, ?_, ?_, ?_, writeOk_of ?_, ?_⟩ <;> decide +kernel

/-! Grants, the device timebase, streams -/

theorem test_wit_GrantEnable : let s := rset up (R.GRANT_BASE 63) 0
    WriteOk s (by32 0x02F00D) (R.GRANT_CFG 63) ∧ grantOn s 63 = false ∧ bit (by32 0x02F00D).wr.v 0 = true ∧
    (let c := rget (genericWrite s (reqOf s (.cc 0)) (R.GRANT_CFG 63) ⟨0x02F00C, 0xFFFFFFFF⟩) (R.GRANT_CFG 63)
     grantEndpointBad s 63 c = false ∧ grantAllocBad s 63 c = false) ∧ grantOn (granted [] []) 3 = true ∧ WriteOk (granted [] []) (by32 0) (R.GRANT_CFG 3) := by
  refine ⟨writeOk_of ?_, ?_, ?_, ?_, ?_, writeOk_of ?_⟩ <;> decide +kernel

theorem test_wit_GrantPushPop : let s := granted [] [⟨7, 0, 0⟩]
    WriteOk s (by64 5) (R.GRANT_PUSH 3) ∧ grantWriter s 3 = 0xF0 ∧ grantFull s 3 = false ∧ ReadOk s (by64 0) (R.GRANT_POP 4) ∧ grantReader s 4 = 0xF0 ∧
    grantEmpty s 4 = false ∧ (grantOf s 4).q = [⟨7, 0, 0⟩] := by
  refine ⟨writeOk_of ?_, ?_, ?_, readOk_of ?_, ?_⟩ <;> decide +kernel

theorem test_wit_PortGrants : let s := regs [(R.GRANT_CFG 0, 0x02900D)]
    let u := { regs [(R.GRANT_CFG 0, 0x98020D)] with grants := [(0, { q := [⟨7, 0, 0⟩] })] }
    grantOn s 0 = true ∧ grantWriter s 0 = 0x90 ∧ (∀ m, m < 64 → m ≠ 0 → grantOn s m = true → grantWriter s m ≠ 0x90) ∧ mget s.io.outq 0x90 [] = [] ∧
    streamDiscards s 0 = false ∧ grantFull s 0 = false ∧ grantReader u 0 = 0x98 ∧ sinkStream u 0x98 = none ∧ grantEmpty u 0 = false := by decide +kernel

theorem test_wit_DriftWindow : let s : State := { up with grants := [(0, { ended := some (1000, 1001) })] }
    (grantOf s 0).ended = some (1000, 1001) ∧ 0 < 1000 := by decide +kernel

theorem test_wit_Timebase : let s := regs [(R.DTB_CTRL, 1), (R.DTB_STEP_US, 0xFFFF), (R.DTB_STATE, 1)]
    ReadOk up (by64 0) R.DTB_NOW ∧ WriteOk up (by64 5) R.DTB_EPOCH ∧ WriteOk s (by64 0x1000) R.DTB_MEAS ∧ servoSrc s = 1 ∧ servoState s = 1 ∧
    (by64 0x1000).value.toInt.natAbs ≤ rbits s R.DTB_STEP_US 15 0 * 1000 * 2 ^ 16 ∧ rbits up R.DTB_STEP_US 15 0 * 1000 * 2 ^ 16 < (0x7FFFFFFFFFFFFFFF : Word).toInt.natAbs ∧
    WriteOk s (by32 4) R.DTB_CTRL ∧ (by32 4).wr.bits 2 0 = 4 ∧ WriteOk up (by64 5) R.DTB_FREQ ∧ servoSrc up = 0 := by
  refine ⟨readOk_of ?_, writeOk_of ?_, writeOk_of ?_, ?_, ?_, ?_, ?_, writeOk_of ?_, ?_, writeOk_of ?_, ?_⟩ <;> decide +kernel

theorem test_wit_TimebaseEvents : let s := regs [(R.DTB_CTRL, 4), (R.DTB_ALARMCTL, 1)]
    servoSrc s = 4 ∧ s.servo.grid = none ∧ rbit s R.DTB_ALARMCTL 0 = true ∧ (rget s R.DTB_ALARM).toNat ≤ (dtbNs s).toNat := by decide +kernel

theorem test_wit_SceneGo : let s := regs [(R.SCENE_MASK 0, 0x8000000000000000), (R.SCENE_T1 0, 5), (R.SCENE_T2 0, 6), (R.ORDER_STR_OWN, 0x8000000000000000)]
    WriteOk s (by32 1) (R.SCENE_CTRL 0) ∧ (reqOf s (.cc 0)).world = .secure ∧ scenePending s 0 = false ∧ bit (rget s (R.SCENE_MASK 0)) 63 = true ∧
    (∀ n, n < 64 → bit (rget s (R.SCENE_MASK 0)) n = true → strSecure s n = true) ∧ scenePending s 1 = false := by
  refine ⟨writeOk_of ?_, ?_⟩ <;> decide +kernel

/-- Stream 63 of queue 31 in a state, with its run. -/
def streaming (st : Word) (x : Stream) : State := { queued [(R.STR_CFG 63, 0x1F000403 + 0x1E0000), (R.STR_FMT 63, 8), (R.STR_STATE 63, st), (R.GRANT_CFG 4, 0xF0580D),
  (R.AON_BOOT_STATUS, 0x80), (R.SCENE_STATUS 0, 1)] [] with
  streams := [(63, x)], scenes := [(0, ⟨[63], 5, 6, [63]⟩)] }

theorem test_wit_StreamStop : let s := streaming 2 { stopping := true }
    streamState s 63 = 2 ∧ (strm s 63).stopping = true := by decide +kernel

theorem test_wit_StreamRestart : let s := streaming 1 {}
    sceneFor s 63 = some (0, ⟨[63], 5, 6, [63]⟩) ∧ streamState s 63 = 1 ∧ pccMode s < 2 ∧ gateIsOpen s = true ∧ replaysRacked s 63 = true ∧
    (strm s 63).stopAt = none ∧ streamCheck s 63 ≠ 0 := by decide +kernel

theorem test_wit_StreamBlocks : let s := streaming 2 { captured := [3], racked := [(2, true)], cap := [(0, 0)] }
    (strm s 63).captured = [3] ∧ (strm s 63).waitLogged = false ∧ (strm s 63).racked = [(2, true)] ∧ (spQueue s (strChan s 63)).length < 8 ∧
    streamState s 63 ≠ 0 ∧ mhas (strm s 63).cap 0 = true ∧ rlevel s (strGout s 63) < strBlock s 63 * strEpsOut s 63 := by decide +kernel

/-! Audio and video ports -/

/-- The output gate is open, with registers and the ports' own state. -/
def ports (l : List (Nat × Word)) (x : Io) : State := { regs ((R.AON_BOOT_STATUS, 0x80) :: l) with io := x }
/-- An SAP configuration: a master of two 32-bit slots, divider 16. -/
def sapMaster : Word := 0x10000E03

theorem test_wit_SapRows : let s := ports [(R.SAP_MCLK, 2), (R.SAP_CFG 6, 1)] {}
    unitRuns s 0x12 = true ∧ rbit s R.SAP_MCLK (b2n true) = true ∧ WriteOk s (by32 sapMaster) (R.SAP_CFG 7) ∧ rbit s (R.SAP_CFG 7) 0 = false ∧ 7 < sapPorts s ∧
    bit (by32 sapMaster).wr.v 0 = true ∧ endpointLive s [0x97, 0x9F] = none ∧ (by32 sapMaster).wr.bits 4 3 ≠ 3 ∧
    (let u := genericWrite s (reqOf s (.cc 0)) (R.SAP_CFG 7) (by32 sapMaster).wr
     let off := rputb u (R.SAP_CFG 7) 0 false
     sapCfgBad off 7 (rget off (R.SAP_CFG 7)) = false) ∧ WriteOk s (by32 0) (R.SAP_CFG 6) ∧ rbit s (R.SAP_CFG 6) 0 = true := by
  refine ⟨?_, ?_, writeOk_of ?_, ?_, ?_, ?_, ?_, ?_, ?_, writeOk_of ?_, ?_⟩ <;> decide +kernel

theorem test_wit_SapFrame : let s := ports [(R.SAP_CFG 7, sapMaster), (R.SAP_STAT 7, 1)] { sap := [(7, { cfg := sapMaster, rx := 3, tx := 3 })] }
    let e := ports [(R.SAP_STAT 7, 1)] { sap := [(7, { cfg := sapMaster &&& 0xFFFFFFFD, ending := true })] }
    (rbit s (R.SAP_CFG 7) 0 = true ∧ (sap s 7).ending = false ∧ sapDw (sap s 7).cfg ≤ sapSw (sap s 7).cfg ∧ bit (sap s 7).cfg 18 = false ∧
      sapSlots (sap s 7).cfg * sapSw (sap s 7).cfg = 64) ∧
    ((sap e 7).ending = true ∧ sapSlave e (sap e 7).cfg = true ∧ sapRunning e 7 = true ∧ bit (sap e 7).cfg 1 = false) := by decide +kernel

theorem test_wit_Aes : let s := ports [(R.AES3_RXCFG 3, 1)] { aesRx := [(3, { good := 14 })] }
    let k := ports [(R.AES3_RXCFG 3, 1), (R.AES3_RXSTAT 3, 3)] { aesRx := [(3, { pos := 192, fly := 1, rate := 768000 })] }
    (3 < aes3Pairs s ∧ unitRuns s 0x13 = true ∧ (aesRx s 3).ending = false ∧ aesLocked s 3 = false ∧ (aesRx s 3).good < 15) ∧
    (aesLocked k 3 = true ∧ aesPushing k 3 = true ∧ (aesRx k 3).pos = 192 ∧ csOk (csBytes (aesRx k 3).csA) = true ∧ csOk (csBytes 1) = false ∧
      (aesRx k 3).rate ≠ 0 ∧ 2 * (aesRx k 3).rate < ((700000 : Int) - (aesRx k 3).rate).natAbs * 1000 ∧ 0 < (aesRx k 3).fly) := by decide +kernel

theorem test_wit_AesTx : let s := ports [(R.AES3_TXCFG 2, 9), (R.AES3_TXSTAT 2, 5)] { aesTx := [(2, { cfg := 9 })], madi := { fly := 1 } }
    WriteOk s (by32 0x20) (R.AES3_RXCFG 3) ∧ WriteOk s (by32 0x31) (R.AES3_TXCFG 3) ∧ (by32 0x31).wr.bits 5 2 ∈ [2, 4, 8, 12] ∧
    rbit s (R.AES3_TXCFG 3) 0 = false ∧ endpointLive s [0xA7] = none ∧ WriteOk s (by32 0x100) (R.AES3_TXCFG 3) ∧ unitRuns s 0x14 = true ∧ 0 < s.io.madi.fly ∧
    rbit s (R.AES3_TXSTAT 2) 0 = true ∧ (aesTx s 2).ending = false ∧ rbit s (R.AES3_TXSTAT 2) 2 = true ∧ gateIsOpen s = true := by
  refine ⟨writeOk_of ?_, writeOk_of ?_, ?_, ?_, ?_, writeOk_of ?_, ?_⟩ <;> decide +kernel

theorem test_wit_MadiPdm : let s := ports [(R.MADI_CFG, 0x20000), (R.MADI_STAT, 3), (R.PDM_STAT, 1)] { madi := { rxOn := true, txOn := true }, pdm := { cfg := 0x1011, zero := 32 } }
    let l : List MadiSub := List.replicate 64 ⟨5, false, false, false, true, false, .none⟩
    unitRuns s 0x14 = true ∧ bits s.io.madi.rx 5 2 = rbits s R.MADI_CFG 5 2 ∧ rbit s R.MADI_STAT 0 = true ∧ l.length = madiChans (rget s R.MADI_CFG) ∧
    madiRateOk (rget s R.MADI_CFG) 768000 = true ∧ (∀ m ∈ l, m.err = .none) ∧ s.io.madi.txOn = true ∧ gateIsOpen (sinkTakeN s 0xA9 32 []).1 = true ∧
    WriteOk s (by32 0x1011) R.PDM_CFG ∧ rbit s R.PDM_CFG 0 = false ∧ endpointLive s [0xAA] = none ∧ 8 ≤ (by32 0x1011).wr.bits 15 8 ∧
    (by32 0x1011).wr.bits 15 8 * 64 = 1024 ∧ unitRuns s 0x15 = true ∧ rbit s R.PDM_STAT 0 = true ∧ pdmChans s.io.pdm.cfg = [0, 1] ∧ s.io.pdm.stuck = [] := by
  refine ⟨?_, ?_, ?_, ?_, ?_, ?_, ?_, ?_, writeOk_of ?_, ?_⟩ <;> decide +kernel

/-- Receiver 3 locked to 720 × 486 at SD with raster and sampling unchosen. -/
def sdiIn (st : Word) (x : SdiRx) : State := ports [(R.SDI_RXCFG 3, 0x01003003), (R.SDI_RXSTAT 3, st), (R.SDI_ANCFILT0 3, 0x80000041), (R.SDI_RXAUD 3, 3)]
  { sdiRx := [(3, { x with code := 1 })] }
def activeLine (first : Bool) : SdiLine := ⟨first, true, List.replicate 1440 0x200, [], false, false, false, false, none⟩

theorem test_wit_SdiEnable : WriteOk up (by32 0x07) (R.SDI_RXCFG 3) ∧ 3 < sdiPorts up ∧ rbit up (R.SDI_RXCFG 3) 0 = false ∧
    endpointLive up (rxEnds 3) = none ∧ (let u := genericWrite up (reqOf up (.cc 0)) (R.SDI_RXCFG 3) ⟨(by32 7).wr.v, (by32 7).wr.m &&& ~~~ 0x30⟩
     rxCfgBad u 3 (rget u (R.SDI_RXCFG 3)) = false) := by
  refine ⟨writeOk_of ?_, ?_⟩ <;> decide +kernel

theorem test_wit_SdiLine : let s := sdiIn 0x47 { y := some 5 }
    let n := sdiIn 0x45 {}
    (unitRuns s 0x16 = true ∧ rbit s (R.SDI_RXCFG 3) 0 = true ∧ sdiRateOk s 3 1 = true ∧ rbit s (R.SDI_RXCFG 3) (1 + rateBit 1) = true ∧
      sdiLocked s 3 = true ∧ rbits s (R.SDI_RXSTAT 3) 4 2 = 1 ∧ (sdiRx s 3).y ≠ none ∧ rbit s (R.SDI_RXSTAT 3) 1 = true ∧ rbit s (R.SDI_RXCFG 3) 13 = true ∧
      (activeLine true).words.length = rasterW 1 * 2 ∧ bit (rget s (R.SDI_RXCFG 3)) 8 = false) ∧
    (sdiLocked n 3 = true ∧ (sdiRx n 3).y = none ∧ sdiMatch n 3 = true ∧ sdiMatch (sdiIn 0x45 { samp := 3 }) 3 = false) := by decide +kernel

theorem test_wit_SdiEvents : let s := sdiIn 0x47 { y := some 5 }
    let f := sdiIn 0x44 { fly := 1 }
    (0 < (sdiRx f 3).fly ∧ (sdiRx f 3).owed = 0 ∧ sdiLocked f 3 = false ∧ 0 < rasterH (sdiRx f 3).code) ∧
    ancMatch s 3 ⟨0x41, 0, [1], 9, false, 0, false, false⟩ = true ∧ ancMatch s 3 ⟨0x42, 0, [1], 9, false, 0, false, false⟩ = false ∧
    rbit s (R.SDI_RXAUD 3) 0 = true ∧ (audGroups (rget s (R.SDI_RXAUD 3))).length = 1 := by decide +kernel

theorem test_wit_SdiTx : let s := ports [(R.SDI_TXFMT 3, 1), (R.SDI_TXSTAT 3, 1), (R.SDI_TXAUD 3, 3), (R.SDI_PIXCTL 2, 2), (R.SDI_VREF, 1)] { vref := List.replicate 7 33366700 }
    let g := ports [(R.SDI_TXCFG 3, 0x20), (R.SDI_TXFMT 3, 8), (R.SDI_TXSTAT 3, 1), (R.SDI_VREF, 1), (R.SDI_VREFSTAT, 1), (R.SDI_VREFPER, 40000000)] {}
    WriteOk s (by32 3) (R.SDI_TXCFG 3) ∧ rbit s (R.SDI_TXCFG 3) 0 = false ∧ endpointLive s (txEnds 3) = none ∧ carried 1 0 1 = true ∧
    carried 1 0 2 = false ∧ rbit s (R.SDI_TXSTAT 3) 0 = true ∧ rbit s (R.SDI_TXAUD 3) 0 = true ∧ WriteOk s (by32 1) (R.SDI_PIXCTL 3) ∧
    rbit s (R.SDI_PIXCTL 2) 1 = true ∧ rbit s (R.SDI_PIXCTL 3) 1 = false ∧ WriteOk s (by64 7) (R.SDI_LUTDATA 3) ∧ rbit s R.SDI_VREF 0 = true ∧
    ((33366700 :: s.io.vref).take 8).length = 8 ∧ rbit g R.SDI_VREFSTAT 0 = true ∧ 40000 < (((50000000 : Nat) : Int) - 40000000).natAbs * 1000 ∧
    bits (rget g (R.SDI_TXCFG 3)) 6 5 = 1 ∧ rbit g R.SDI_VREF 2 = bit (rget g (R.SDI_TXCFG 3)) 4 ∧ framePeriod 8 false = 40000000 := by
  refine ⟨writeOk_of ?_, ?_, ?_, ?_, ?_, ?_, ?_, writeOk_of ?_, ?_, ?_, writeOk_of ?_, ?_⟩ <;> decide +kernel

/-! Ethernet, RTP, USB and PCIe -/

/-- MAC 1 is on with its link up at 1 Gb/s, a receive ring of 16 in Cellar and one transmit descriptor of 60 bytes in TXQ 2. -/
def mac (l : List (Nat × Word)) (x : Eth) : State := { ports ([(ethR 1 R.ETHA_CFG, 1), (ethR 1 R.ETHA_STAT, 5), (ethR 1 R.ETHA_MACADDR, 0),
    (ethR 1 R.ETHA_RX_BASE, 0x10020000), (ethR 1 R.ETHA_RX_BASE + 8, 4), (ethR 1 R.ETHA_RX_BASE + 0xC, 0x10000)] ++ l) { eth := [(1, x)] } with
  mem := [(0x10020002, 0x40), (0x10020009, 8), (0x10030002, 0x40), (0x10030008, 60)] }

theorem test_wit_EthRegs : let s := regs [(ethR 1 R.ETHA_MDIO, 0xA0000000)]
    WriteOk up (by32 7) (ethR 1 R.ETHA_CFG) ∧ (by32 7).wr.bits 2 1 = 3 ∧ WriteOk up (by32 1) (ethR 0 R.ETHA_CFG) ∧ WriteOk s (by32 5) (ethR 1 R.ETHA_MDIO) ∧
    rbit s (ethR 1 R.ETHA_MDIO) 31 = true ∧ rbit up (ethR 1 R.ETHA_MDIO) 31 = false ∧ unitRuns s (ethUnit 1) = true := by
  refine ⟨writeOk_of ?_, ?_, writeOk_of ?_, writeOk_of ?_, ?_⟩ <;> decide +kernel

theorem test_wit_EthTx : let b := ethR 1 (R.ETHA_TXQ_BASE 2)
    let s := mac [(b, 0x10030000), (b + 8, 4), (b + 0xC, 0x10000)] {}
    let r := mac [] { ready := [(2, [[1, 2]])] }
    (ethUp s 1 = true ∧ (eth s 1).pause ≤ s.dtb.toNat ∧ gateOn s 1 = false ∧ (∀ q, q < 4 → txqCbs s 1 q = false) ∧ txqHas s 1 3 = false ∧ ringHas s b = true ∧
      fieldAt (readBytes s (ringAddr s b) 32) 8 2 = 60 ∧ fieldAt (readBytes s (ringAddr s b) 32) 0xA 2 = 0 ∧ (eth s 1).ready = []) ∧
    (mget (eth r 1).ready 2 [] = [[1, 2]] ∧ txqHas r 1 3 = false ∧ gateIsOpen r = true) := by decide +kernel

/-- A frame of 60 zero bytes to address 0, with its FCS. -/
def frame0 : List Byte := framed (List.replicate 60 0)

theorem test_wit_EthRx : let s := mac [] {}
    let f := mac [(ethR 1 R.ETHA_CFG, 0x81)] {}
    (frame0.length = 64 ∧ fieldAt frame0 60 4 = crc32 (frame0.take 60) ∧ ethFilter s 1 frame0 = true ∧ rbit s (ethR 1 R.ETHA_CFG) 7 = false ∧
      (∀ k, k < 4 → rtpMatch s 1 k (frame0.take 60) = false) ∧ ringHas s (ethR 1 R.ETHA_RX_BASE) = true ∧
      64 ≤ fieldAt (readBytes s (ringAddr s (ethR 1 R.ETHA_RX_BASE)) 32) 8 2) ∧
    (rbit f (ethR 1 R.ETHA_CFG) 7 = true ∧ pauseOf ([1, 0x80, 0xC2, 0, 0, 1, 0, 0, 0, 0, 0, 0, 0x88, 8, 0, 1, 0, 9] ++ List.replicate 46 0) = some 9 ∧ ethOn s 1 = true) := by
  decide +kernel

theorem test_wit_Gates : let g (x : Eth) := mac [(ethR 1 R.ETHA_GCTL, 5), (ethR 1 (R.ETHA_GCYCLE 0), 1000), (ethR 1 (R.ETHA_GCLA 0), 0x15), (ethR 1 (R.ETHA_GCLA 1), 0x1A)] x
    WriteOk (g {}) (by32 5) (ethR 1 R.ETHA_GCTL) ∧ ethOn (g {}) 1 = true ∧ gateOn (g {}) 1 = true ∧ (eth (g {}) 1).entry = none ∧
    rbit (g {}) (ethR 1 R.ETHA_GCTL) 2 = true ∧ (gateList (g {}) 1 0).length = 2 ∧ (eth (g { entry := some 1 }) 1).entry = some 1 := by
  refine ⟨writeOk_of ?_, ?_⟩ <;> decide +kernel

/-- A UDP packet over IPv4 to 224.0.0.5, port 5004, with an RTP header of sequence number 7 and two samples of one channel of L16. -/
def rtp7 : List Byte := List.replicate 12 0 ++ [8, 0, 0x45, 0, 0, 0, 0, 0, 0, 0, 1, 17, 0, 0, 10, 0, 0, 1, 224, 0, 0, 5] ++ [0, 0, 0x13, 0x8C, 0, 24, 0, 0] ++
  [0x80, 0, 0, 7, 0, 0, 0, 0, 0, 0, 0, 0, 1, 2, 3, 4]

theorem test_wit_Rtp : let s := mac [(txf 1 3 0, 0x3), (txf 1 3 0x14, 2), (rxf 1 3 0, 0x3), (rxf 1 3 4, 0xE0000005), (rxf 1 3 8, 0x138C), (R.GRANT_CFG 9, 0xD3020D)] { flows := [(3, { built := [⟨[1], 0⟩] })] }
    let e : GEntry := ⟨7, 0, 0⟩
    let u := { s with grants := [(9, { q := [e, e] })] }
    udpAt rtp7 = some (14, 34) ∧ rtpMatch s 1 3 rtp7 = true ∧ ethUp s 1 = true ∧ flowProfile (rget s (rxf 1 3 0)) ≤ 3 ∧
    (rtp7.drop 54).length % rtpSampleLen (rget s (rxf 1 3 0)) = 0 ∧ 0 < rtpSampleLen (rget s (rxf 1 3 0)) ∧ (flow s 1 7).next = none ∧ (flow s 1 7).window = [] ∧
    (flow s 1 3).built ≠ [] ∧ 1 ≤ flowProfile (rget s (txf 1 3 0)) ∧ grantBound s (txfEnd 1 3) false = some 9 ∧ sinkStream s (txfEnd 1 3) = none ∧
    portLevel s (txfEnd 1 3) < 2 ∧ 2 ≤ portLevel u (txfEnd 1 3) := by decide +kernel

theorem test_wit_Usb : let s := { ports [(R.USB_CFG, 3), (R.USB_STAT, 3), (R.USB_IN_CFG 3, 1), (R.USB_OUT_CFG 3, 1), (R.USB_OUT_FSNOM 3, 48000), (R.USB_OUT_FBCFG 3, 0x10),
      (R.USB_EP_BASE 31, 0x10020000), (R.USB_EP_BASE 31 + 8, 4), (R.USB_EP_BASE 31 + 0xC, 0x10000), (R.SYSCON_PADV, 0x800)] { usb := { sof := some 5, count := [(3, 1)] } } with mem := [(0x10020002, 1)] }
    usbOn s = true ∧ rbit s R.USB_STAT 0 = true ∧ usbOn up = false ∧ bit (rget s (R.USB_OUT_CFG 3)) 0 = true ∧ 0 < (rget s (R.USB_OUT_FSNOM 3)).toNat ∧
    s.io.usb.sof = some 5 ∧ rbit s (R.USB_OUT_FBCFG 3) 4 = true ∧ 2 ^ rbits s (R.USB_OUT_FBCFG 3) 3 0 ≤ mget s.io.usb.count 3 0 ∧
    ringHas s (R.USB_EP_BASE 31) = true ∧ ringHas s (R.USB_EP_BASE 30) = false ∧ rbit s R.USB_STAT 1 = true ∧
    memRead s (unitReq s 0x19) (ringAddr s (R.USB_EP_BASE 31)) 32 .read = (s, .inr (readBytes s 0x10020000 32)) ∧ s.io.usb.idHost = false ∧
    rbits s R.SYSCON_PADV 11 10 = 2 ∧ rbits s R.USB_CFG 2 1 = 1 := by decide +kernel

theorem test_wit_Pcie : let s := { ports [(R.PCIE_IDS, 0x1234)] {} with pcie := { perstN := true } }
    let x : RemReq := ⟨0, .normal, 0, 4, none, none, 9, none⟩
    let u := { ports [(R.PCIE_STAT, 1)] {} with pcie := { perstN := true }, remote := [x] }
    (pcieUp s = false ∧ pcieMayTrain s = true ∧ s.remote = []) ∧
    (pcieUp u = true ∧ u.remote.find? (pcieWaiting 9) = some x ∧ u.remote.filter (pcieWaiting 9) = [x] ∧ u.safeWait = [] ∧
      busRead u (reqOf u .pcie) 0x40000000 4 = (u, .inr (leBytes 4 (syscon_id u))) ∧ (busRead u (reqOf u .pcie) (R.ORDER_QPTR 31) 4).2 ≠ .inr []) := by decide +kernel

/-! SUNDIK -/

/-- Device 2, with routes to device 0 by port 0 and to device 1 by port 1, its ports in states `a` and `b`. -/
def link (a b : Word) (p : SdkPort) (l : List (Nat × Word)) : State :=
  { ports ([(R.SDK_PSTATE 0, a), (R.SDK_PSTATE 1, b), (R.SDK_STAT, 0xA), (R.SDK_CFG, 1), (R.SDK_ROUTE, 9)] ++ l) {} with sdk := [(0, p), (1, p)] }
def full : SdkPort := { credit := fullCredit, peer := fullCredit }

def rawB (s : State) (n t : Nat) (c : List Byte) : Bool :=
  cType c == t && !(cellSeqd t) && portCarries (goodBlock s n) n t && !(cSealed c) && cellZeroOk c
theorem raw_of {s : State} {n t : Nat} {c : List Byte} (H : rawB s n t c = true) : RawCell s n t c := by
  simp only [rawB, Bool.and_eq_true, beq_iff_eq, Bool.not_eq_true'] at H
  exact ⟨H.1.1.1.1, H.1.1.1.2, H.1.1.2, H.1.2, H.2⟩
def seqB (s : State) (n t : Nat) (c : List Byte) : Bool :=
  let g := goodBlock s n
  let u := portRekey (sdkFlush (setPort g n { sdkCredits (sdkAck (port g n) (fieldAt c 4 2)) (fieldAt c 6 1) with x := (port g n).x + 1 }) n) n
  cType c == t && cellSeqd t && portCarries g n t && !(cSealed c) && cellZeroOk c && cSeq c == (port g n).x % 65536 &&
    mget (port u n).peer (cellClass t) 0 != 0 && (cellLocal t || cDst c == myDev (heardSeq s n c))
theorem seq_of {s : State} {n t : Nat} {c : List Byte} (H : seqB s n t c = true) : SeqCell s n t c := by
  simp only [seqB, Bool.and_eq_true, beq_iff_eq, Bool.not_eq_true', bne_iff_ne, ne_eq, Bool.or_eq_true] at H
  obtain ⟨⟨⟨⟨⟨⟨⟨h1, h2⟩, h3⟩, h4⟩, h5⟩, h6⟩, h7⟩, h8⟩ := H
  exact ⟨h1, h2, h3, h4, h5, h6, fun u hu => hu ▸ h7, h8⟩

/-- A cell from device 1 to this device. -/
def cell (t tag : Nat) (pay : List Byte) : List Byte := mkCell t 1 2 false true tag pay

theorem test_wit_Training : let s := link 0 0 {} []
    (portState s 1 = 0 ∧ rbit s R.SDK_CFG 0 = true ∧ gateIsOpen s = true ∧ unitPresent s 0x1B = true ∧ portState (link 1 0 {} []) 0 = 1) ∧
    (portState (link 2 0 {} []) 0 = 2 ∧ rbit (link 0x12 0 {} []) (R.SDK_PSTATE 0) 4 = true ∧ numbered s = true ∧ isMaster s = false ∧
      isMaster (link 2 0 {} [(R.SDK_CFG, 3)]) = true ∧ linkClient s = false ∧ portState (link 0 3 { ts2 := 7, fromUp := true } []) 1 = 3) ∧
    (0 < sdkLanes s / 2 ∧ portState (link 6 0 { bad := [(0, 15)], retrains := 2 } []) 0 = 6) := by decide +kernel

theorem test_wit_Cells : let s := link 6 6 full []
    let r := link 6 6 { full with replay := [(0, cell 0x01 39 [])], naks := 7 } []
    ((cell 0x01 39 []).length = 36 ∧ cSealed (cell 0x01 39 []) = false ∧ (port s 1).waiting = [] ∧ portCarries s 1 0x01 = true ∧ mget (port s 1).credit 0 0 ≠ 0 ∧
      (port s 1).next < lastSeq) ∧
    RawCell s 1 0x00 (mkCell 0 0 0 false false 0 []) ∧ RawCell r 1 0x28 (mkCell 0x28 0 0 false false 0 []) ∧
    ((port (heardRaw r 1 (mkCell 0x28 0 0 false false 0 [])) 1).naks = 7) ∧
    (cellKnown 0x77 = false ∧ 4 ≤ portState s 1 ∧ cSeq (cell 0x77 0 []) = (port s 1).x % 65536 ∧ (port r 1).replay ≠ []) := by
  refine ⟨?_, raw_of ?_, raw_of ?_, ?_, ?_⟩ <;> decide +kernel

theorem test_wit_Auth : let s := link 4 4 full []
    let c := mkCell 0x30 0 0 false false 0 [1]
    SeqCell s 1 0x30 c ∧ portState (heardSeq s 1 c) 1 = 4 ∧ cLast c = false ∧ (port (heardSeq s 1 c) 1).got.length + 28 < 5729 ∧
    authSigned { got := List.replicate 5825 0 } = true ∧ (let b := { link 5 0 full [(R.AON_BOOT_STATUS, 1)] with boot := { up.boot with phase := .link, need := some 0x1234 } }
      linkClient b = true ∧ b.boot.need = some 0x1234 ∧ portState b 0 = 5) := by
  refine ⟨seq_of ?_, ?_⟩ <;> decide +kernel

theorem test_wit_StreamCells : let s := link 6 6 full [(R.SDK_STR 7, 0x7), (R.SDK_OFWD, 0x10000), (R.SDK_OFWDSTAT, 1), (R.GRANT_CFG 2, 0xE7800D)]
    let e : GEntry := ⟨9, 0, 0⟩
    SeqCell s 1 0x01 (cell 0x01 0x47 []) ∧ bit (rget s (R.SDK_STR 7)) 1 = true ∧ bits (rget s (R.SDK_STR 7)) 4 2 = cSrc (cell 0x01 0x47 []) ∧
    routeOf s 1 = some 1 ∧ grantBound s 0xE7 false = some 2 ∧ sinkStream s 0xE7 = none ∧ portState s 1 = 6 ∧
    (streamGroup { s with grants := [(2, { q := [e, e, e, e] })] } 2 3).length = 3 ∧ SeqCell s 1 0x09 (cell 0x09 0 []) ∧ rbits s R.SDK_OFWDSTAT 1 0 = 1 ∧
    cSrc (cell 0x09 0 []) = rbits s R.SDK_OFWD 18 16 ∧ WriteOk s (by64 0x8000000000010000) R.SDK_OFWD ∧ bit (by64 0x8000000000010000).wr.m 63 = true := by
  refine ⟨seq_of ?_, ?_, ?_, ?_, ?_, ?_, ?_, ?_, seq_of ?_, ?_, ?_, writeOk_of ?_, ?_⟩ <;> decide +kernel

theorem test_wit_RequestCells : let x : RemReq := ⟨0, .normal, 0, 4, none, some 1, 9, none⟩
    let s := { link 6 6 full [] with remote := [x] }
    SeqCell s 1 0x08 (cell 0x08 31 [1]) ∧ SeqCell s 1 0x10 (cell 0x10 3 [0, 0, 0, 0x10, 0, 4]) ∧ SeqCell s 1 0x11 (cell 0x11 3 [0, 0, 0, 0x10, 0, 4]) ∧
    fieldAt (cell 0x11 3 [0, 0, 0, 0x10, 0, 4]) 13 1 = 4 ∧ SeqCell s 1 0x11 (cell 0x11 3 [0, 0, 0, 0x10, 0, 0x80]) ∧ SeqCell s 1 0x12 (cell 0x12 9 []) ∧
    (x.dev = some (cSrc (cell 0x12 9 [])) ∧ x.tag = cTag (cell 0x12 9 []) ∧ x.answer = none ∧ routeOf s 1 = some 1) := by
  refine ⟨seq_of ?_, seq_of ?_, seq_of ?_, ?_, seq_of ?_, seq_of ?_, ?_⟩ <;> decide +kernel

theorem test_wit_TimeAndBoot : let s := link 6 6 { full with sampled := true } []
    let m := link 6 6 full [(R.SDK_STAT, 8), (R.SDK_CFG, 5)]
    let b := { link 5 0 full [(R.AON_BOOT_STATUS, 1)] with boot := { up.boot with phase := .link, need := some 0 } }
    RawCell s 1 0x21 (mkCell 0x21 0 0 false false 0 []) ∧ RawCell s 1 0x22 (mkCell 0x22 0 0 false false 0 []) ∧
    (rbit m R.SDK_CFG 2 = true ∧ numbered m = true ∧ myDev m = 0) ∧ RawCell s 0 0x20 (mkCell 0x20 0 0 false false 0 []) ∧
    (routeOf (heardRaw s 0 (mkCell 0x20 0 0 false false 0 [])) 0 = some 0 ∧ (port (heardRaw s 0 (mkCell 0x20 0 0 false false 0 [])) 0).sampled = true) ∧
    SeqCell s 1 0x38 (cell 0x38 0 []) ∧ SeqCell b 0 0x39 (mkCell 0x39 1 2 false false 0 []) := by
  refine ⟨raw_of ?_, raw_of ?_, ?_, raw_of ?_, ?_, seq_of ?_, seq_of ?_⟩ <;> decide +kernel

/-! TAP and GPIO -/

/-- Engine 15 with one-bit input and output groups at pins 0 and 47, its span 0 to 63, at address 63, where `word` stands; halted or running. -/
def engine (ctl : Word) (halted : Bool) (word : Word) (x : Tap) : State :=
  ports [(tapR 15 0, ctl), (tapR 15 4, 0x3F3F00), (tapR 15 8, 0x2F0000), (tapR 15 0xC, 0x10000), (tapR 15 0x10, 0x1F1F), (tapR 15 0x14, if halted then 0x23F else 0x13F),
    (tapR 15 0x20, 0x2000), (tapR 15 0x24, 3), (tapB 3 (0x400 + 4 * 63), word)] { taps := [(15, x)] }

theorem test_wit_TapControl : let s := engine 0 false 0 {}
    let r := engine 0x9 false 0 { prog := .shift 3, level := 5 }
    let h := engine 0xB true 0 { rewritten := true }
    WriteOk s (by32 0x19) (tapR 15 0) ∧ bit (by32 0x19).wr.v 0 = true ∧ tapEn s 15 = false ∧ endpointLive s (tapEnds 15) = none ∧ tapCfgBad s 15 = false ∧
    tapCfgBad (rset s (tapR 15 0xC) 0) 15 = true ∧ tapEn r 15 = true ∧ tapHalted r 15 = false ∧ tapHalted h 15 = true ∧ rbits h (tapR 15 0x14) 23 20 = 0 ∧
    WriteOk r (by32 7) (tapB 3 (0x400 + 4 * 63)) ∧ (tapBottom r 15 ≤ 63 ∧ 63 ≤ tapTop r 15) := by
  refine ⟨writeOk_of ?_, ?_, ?_, ?_, ?_, ?_, ?_, ?_, ?_, ?_, writeOk_of ?_, ?_⟩ <;> decide +kernel

theorem test_wit_Pins : let s := regs [(R.AON_BOOT_STATUS, 0x80), (R.GPIO_FUNC 47, 4), (R.GPIO_EDGE 47, 3), (R.GPIO_OE, 1)]
    WriteOk up (by32 4) (R.GPIO_FUNC 47) ∧ unitPresent up 0x10 = true ∧ (reqOf up (.cc 0)).world = .secure ∧ gateIsOpen s = true ∧ rbits s (R.GPIO_FUNC 47) 2 0 = 4 ∧
    unitRuns s 0x11 = true ∧ rbits s (R.GPIO_EDGE 47) 1 0 = 3 ∧ eicPresent s (168 + 47 / 3) = true ∧ s.balls.getLsbD 47 = false := by
  refine ⟨writeOk_of ?_, ?_⟩ <;> decide +kernel

def tapAtB (s : State) (e op : Nat) : Bool :=
  tapRuns s e && decide ((tap s e).prog = .start) && bits (tapInstr s e) 23 20 == op && tapBad s e (tapInstr s e) == 0
theorem tapAt_of {s : State} {e op : Nat} (H : tapAtB s e op = true) : TapAt s e op := by
  simp only [tapAtB, Bool.and_eq_true, decide_eq_true_eq, beq_iff_eq] at H
  exact ⟨H.1.1.1, H.1.1.2, H.1.2, H.2⟩

theorem test_wit_TapInstructions : TapAt (engine 9 false 0x0FC000 {}) 15 0 ∧ TapAt (engine 9 false 0x100240 {}) 15 1 ∧ TapAt (engine 9 false 0x100180 {}) 15 1 ∧
    TapAt (engine 9 false 0x200240 {}) 15 2 ∧ TapAt (engine 9 false 0x30002F {}) 15 3 ∧ TapAt (engine 9 false 0x400807 {}) 15 4 ∧ TapAt (engine 9 false 0x502001 {}) 15 5 ∧
    TapAt (engine 9 false 0x60183F {}) 15 6 ∧ TapAt (engine 9 false 0x701000 { ofifo := [5] }) 15 7 ∧ TapAt (engine 9 false 0x803807 {}) 15 8 := by
  refine ⟨tapAt_of ?_, tapAt_of ?_, tapAt_of ?_, tapAt_of ?_, tapAt_of ?_, tapAt_of ?_, tapAt_of ?_, tapAt_of ?_, tapAt_of ?_, tapAt_of ?_⟩ <;> decide +kernel

theorem test_wit_TapWaits : let w (i : Word) (x : Tap) := engine 9 false i x
    (tapRuns (w 0x400807 { prog := .wait }) 15 = true ∧ tapFlag (rset (w 0x400807 {}) (tapB 3 0xC) 0x8000) 15 7 = true ∧ tapBad (w 0xF00000 {}) 15 0xF00000 = 1 ∧
      tapBad (w 0x5000A0 {}) 15 0x5000A0 = 3) ∧
    (tapIcnt (w 0 {}) 15 + 1 < 32 ∧ 32 ≤ tapIcnt (rset (w 0 {}) (tapR 15 0x20) 0x1F) 15 + 1 ∧ tapOcnt (w 0 {}) 15 ≠ 0 ∧ tapOcnt (rset (w 0 {}) (tapR 15 0x20) 0) 15 = 0 ∧
      tapObase (w 0 {}) 15 + tapOwid (w 0 {}) 15 ≤ 48 ∧ grantBound (w 0 {}) 0x6F true = none ∧ grantBound (w 0 {}) 0x7F false = none ∧ tapFlow (w 0 {}) 15 = true) ∧
    (tapRuns (w 0 { prog := .delay 63 }) 15 = true ∧ rbit (rset (w 0x701000 { ofifo := [5] }) (tapR 15 0x14) 0x53F) (tapR 15 0x14) 10 = true) := by decide +kernel

/-! HCP -/

/-- The output gate is open, with HCP's state and registers. -/
def host (l : List (Nat × Word)) (x : Hcp) : State := ports l { hcp := x }
def run1 : HcpRun := ⟨8, some 1, 0, 0, [], 0, 0, none, []⟩
/-- The device waits in KILN, its gate closed. -/
def kiln (l : List (Nat × Word)) (x : Hcp) : State :=
  { regs ((R.AON_BOOT_STATUS, 6) :: l) with io := { hcp := x }, boot := { up.boot with phase := .ready } }

theorem test_wit_HcpFrames : let s := host [] {}
    let b : List Byte := [0xA5, 0x55, 0, 0] ++ leBytes 2 (crc16 [0x55, 0, 0])
    (hcpLive s = true ∧ (hcp s).held = none ∧ hcpRunning s = none ∧ hcpRunning (host [] { run := some run1 }) = some (8, 0) ∧
      hcpRunning { regs [] with boot := { up.boot with phase := .running } } = some (0xF0, 0)) ∧
    ((hcp (host [] { held := some [1] })).held = some [1] ∧ b.length = 6 + fieldAt b 2 2 ∧ crc16 (sub b 1 3) = fieldAt b 4 2 ∧ 15 < fieldAt b 1 1 ∧
      fieldAt b 0 1 = 0xA5 ∧ run1.waits = 0 ∧ run1.cx = none ∧ run1.cmd < 128) ∧
    ({ run1 with seq := none, status := 3 } : HcpRun).status ≠ 8 := by decide +kernel

theorem test_wit_Sessions : let s := host [(R.TRNG_STATUS, 1)] {}
    let o := host [(R.HCP_STAT, 8)] {}
    hcpFree s ∧ rbit s R.HCP_CFG 0 = false ∧ rbit s R.HCP_STAT 6 = false ∧ hcpOpen s = false ∧ (cxClaim s hcpBare).2.toNat % 16 ≠ 15 ∧
    drbgReady (cxClaim s hcpBare).1 = true ∧ (hcp s).challenge = none ∧ hcpOpen o = true ∧ (dtbNs o).toNat ≤ (hcp o).used + rbits o R.HCP_CFG 15 8 * 1000000000 ∧
    WriteOk o (by32 2) R.HCP_CFG ∧ bit (by32 2).wr.v 1 = true ∧ rbit (host [(R.HCP_STAT, 0x40)] {}) R.HCP_STAT 6 = true ∧ rbit (host [(R.HCP_CFG, 1)] {}) R.HCP_CFG 0 = true := by
  refine ⟨?_, ?_, ?_, ?_, ?_, ?_, ?_, ?_, ?_, writeOk_of ?_, ?_⟩ <;> (try unfold hcpFree) <;> decide +kernel

theorem shiftRows_length (l : List Byte) : (shiftRows l).length = 16 := by simp [shiftRows]
theorem aesEnc_length (key blk : List Byte) (h : ((aesKeys key).getD ((aesKeys key).length - 1) []).length = 16) : (aesEnc key blk).length = 16 := by
  unfold aesEnc
  simp only [xorB, List.length_zipWith, shiftRows_length, h, Nat.min_self]
theorem aesCmac_length (key msg : List Byte) (h : ((aesKeys key).getD ((aesKeys key).length - 1) []).length = 16) : (aesCmac key msg).length = 16 := by
  unfold aesCmac
  simp only [List.foldl_append, List.foldl_cons, List.foldl_nil]
  exact aesEnc_length _ _ h

/-- A session of the normal world, and the first request of it with a body. -/
def sess : State := host [(R.HCP_STAT, 8)] { reqKey := List.replicate 32 1, rspKey := List.replicate 32 2 }
def asks (cmd : Nat) (body : List Byte) : List Byte :=
  let p := leBytes 4 1 ++ body
  p ++ aesCmac (List.replicate 32 1) (leBytes 1 cmd ++ leBytes 2 (p.length + 16) ++ p)

theorem asks_tag_length (m : List Byte) : (aesCmac (List.replicate 32 1) m).length = 16 := aesCmac_length _ _ (by decide +kernel)
theorem test_wit_SessionRequest (cmd : Nat) (body : List Byte) : HcpAuth sess cmd (asks cmd body) := by
  have hl : (asks cmd body).length = (leBytes 4 1 ++ body).length + 16 := by simp only [asks, List.length_append, asks_tag_length]
  refine ⟨⟨by decide +kernel, by decide +kernel, by decide +kernel⟩, by decide +kernel, by decide +kernel, ?_, ?_, ?_⟩
  · simp [hl, leBytes]
  · simp [asks, fieldAt, sub, leBytes, sess]; rfl
  · rw [hl, Nat.add_sub_cancel]
    simp only [asks, List.take_left', List.drop_left']
    rfl

theorem test_wit_SessionAccesses : remNeeds sess (hcpReq sess) 0x10000000 4 true = [] ∧ sess.keeve.running = none ∧ (aliveTuns sess).contains 13 = true ∧
    sess.steep.direct = none ∧ rbit sess R.HCP_CFG 0 = false ∧ hcpOpen sess = true ∧ fieldAt (List.replicate 21 (0 : Byte)) 0 4 ≠ (hcp sess).seq + 1 ∧
    (hcp (host [] { reset := some true, resetRead := true })).reset = some true := by decide +kernel

theorem test_wit_Kiln : let s := kiln [] {}
    let d : State := { kiln [(R.DEBUG_STATUS, 0x108)] {} with otp := { lifecycle := 1 }, keeve := { lost := [0x205, 0x100] } }
    hcpFree s ∧ isKiln s = true ∧ isKiln sess = false ∧ rbits s R.AON_BOOT_STATUS 1 0 = 2 ∧ rbit d R.DEBUG_STATUS 8 = true ∧ rbit s R.DEBUG_STATUS 8 = false ∧
    lifecycleOk s 4 = false ∧ lifecycleOk d 4 = true ∧ rootWriteOk s 3 = false ∧ rootWriteOk d 3 = true ∧ s.keeve.running = none ∧ lifecycle s ≤ 1 ∧
    1 < lifecycle { d with otp := { lifecycle := 3 } } ∧ repairReq d [7, 0, 1, 5, 0, 0, 0] = some (.counter 0 5) ∧ 0x205 ∈ d.keeve.lost ∧
    loadCheck s (readBytes s 0x10000000 0x1600) [] ≠ 0 := by
  refine ⟨?_, ?_⟩ <;> (try unfold hcpFree) <;> decide +kernel

/-! Power, logs and the watchdog -/

theorem test_wit_Modes : let s := regs [(R.PCC_CONSENT, 3)]
    let t : State := { regs [(R.PCC_STAT, 0x1000)] with pcc := { target := some 1 } }
    let r := modCore (modCore (regs [(R.PCC_STAT, 2), (R.EIC_CFG 5, 0x80000001), (R.EIC_PEND 0, 0x20)]) 0 fun c => { c with pc := 0x40 }) 1 fun c => c
    let h := regs ((R.PCC_STAT, 0x2001) :: (List.range 6).map fun i => (R.MON_TEMP i, 100))
    WriteOk s (by32 4) R.PCC_MODE ∧ modeAllowed s 4 = true ∧ keepStat s = 0 ∧ anyStreamLive s = false ∧ s.journal = [] ∧ modeAnswer s true 4 = 0 ∧
    modeReady t 1 = true ∧ (eicAnyRequest r 0 = true ∧ pccMode r = 2 ∧ r.pcc.target = none) ∧ (rbit h R.PCC_STAT 13 = true ∧ (∀ i, i < 6 → sensorCool h i = true) ∧
      pccMode h = 1 ∧ rbits h R.PCC_STAT 6 4 = 0) := by
  refine ⟨writeOk_of ?_, ?_⟩ <;> decide +kernel

theorem test_wit_UnitGates : let s := regs [(R.PCC_DEFER, 0x20000), (R.PCC_DEFACT, 0)]
    WriteOk s (by32 0x21B) R.PCC_REQ ∧ gateable 0x1B = true ∧ unitPresent s 0x1B = true ∧ unitStreams s 0x1B = false ∧ (reqOf s (.cc 0)).world = .secure ∧
    gateable 0x11 = false ∧ WriteOk s (by32 0x111) R.PCC_DEFRESP ∧ rbit s R.PCC_DEFER 0x11 = true ∧ rbit s R.PCC_DEFER 0x12 = false ∧
    WriteOk s (by32 9) R.PCC_TRIMVAL ∧ (let u : State := { s with pcc := { shadow := [(5, 9)] } }
      u.pcc.shadow.find? (fun e => e.1 = 5) = some (5, 9) ∧ u.pcc.shadow.find? (fun e => e.1 = 4) = none) := by
  refine ⟨writeOk_of ?_, ?_, ?_, ?_, ?_, ?_, writeOk_of ?_, ?_, ?_, writeOk_of ?_, ?_⟩ <;> decide +kernel

theorem test_wit_Wake : let s : State := { up with boot := { up.boot with dormant := true, wakeCfg := 0x200, wakeDue := true } }
    s.boot.wakeCfg.getLsbD (wakeBits .hcp).1 = true ∧ s.boot.dormant = true ∧ s.boot.wakeDue = true ∧ s.boot.low = false ∧ s.boot.aon = true ∧
    s.boot.wakeCfg.getLsbD (wakeBits .rtc).1 = false := by decide +kernel

theorem test_wit_Logs : let e : LogEntry := ⟨0, 0, 5, 0, 0, 0, 9⟩
    let s : State := { regs [(logReg 1 0, 1)] with ring1 := { queue := [e], guest := [e], main := [] } }
    (ringOf s 1).queue = [e] ∧ e.flags.getLsbD 0 = false ∧ ReadOk s (by64 0) (logReg 1 0x38) ∧ lget s 1 8 < lget s 1 0 ∧ ringAt s 1 (lget s 1 8) = some e ∧
    lget up 2 0 ≤ lget up 2 8 ∧ WriteOk s (by64 1) (logReg 1 8) ∧ WriteOk s (by32 1) (logReg 1 0x1C) ∧ (reqOf s (.cc 0)).world = .secure := by
  refine ⟨?_, ?_, readOk_of ?_, ?_, ?_, ?_, writeOk_of ?_, writeOk_of ?_, ?_⟩ <;> decide +kernel

theorem test_wit_Watchdog : let s := regs [(R.WDT_CTRL, 1)]
    WriteOk up (by32 3) R.WDT_CTRL ∧ rbit up R.WDT_CTRL 0 = false ∧ WriteOk s (by32 0x4B1C) R.WDT_KICK ∧ rbit s R.WDT_CTRL 0 = true ∧ rbit s R.WDT_STAT 2 = false ∧
    wdtPaused s = false ∧ outOfReset s = true ∧ (1680 : Int) ≤ (1680 : BitVec 16).toInt ∧ (reqOf s (.cc 0)).world = .secure ∧ (by32 0x4B1C).wide = false ∧
    (by64 0).wide = true ∧ hcpLive s = true := by
  refine ⟨writeOk_of ?_, ?_, writeOk_of ?_, ?_⟩ <;> decide +kernel

/-- R578's example. -/
theorem test_crc16 : crc16 (ascii "123456789") = 0x29B1 ∧ hcpFrame 1 [] = [0xA5, 1, 0, 0, 0xAC, 0xFB] := by decide +kernel

end Sys2Proof.Tests
end

