-- ==== Sys2Proof/Proofs/HostPortCrc.lean ====
section
/-! The CRC-16 of HCP frames (R578): the model's byte-wise remainder is the bit-serial one, and where a frame carries it. -/
namespace Sys2Proof.Machine

/-! One shift of the remainder -/

/-- The remainder shifted left by one bit and reduced by the polynomial 0x1021. -/
def crcShift (c : BitVec 16) : BitVec 16 := (c <<< 1) ^^^ (if c.getLsbD 15 then 0x1021 else 0)

/-- The bit-serial step of R578: the remainder takes one bit of the message. -/
def crcBit (c : BitVec 16) (x : Bool) : BitVec 16 := (c <<< 1) ^^^ (if c.getLsbD 15 = x then 0 else 0x1021)

theorem toNat_crcShift (c : BitVec 16) :
    (crcShift c).toNat = if 0x8000 ≤ c.toNat then (c.toNat * 2 % 65536) ^^^ 0x1021 else c.toNat * 2 := by
  have top : c.getLsbD 15 = decide (0x8000 ≤ c.toNat) := by
    rw [← BitVec.msb_eq_getLsbD_last, BitVec.msb_eq_decide]
  rw [crcShift, top, BitVec.toNat_xor, BitVec.toNat_shiftLeft, Nat.shiftLeft_eq]
  by_cases h : 0x8000 ≤ c.toNat
  · simp [h]
  · have fits : c.toNat * 2 < 65536 := by omega
    simp [h, Nat.mod_eq_of_lt fits]

/-- A message word that was added to the remainder beforehand feeds its top bit to the serial step; the rest of it moves up. -/
theorem crcShift_xor (c m : BitVec 16) : crcShift (c ^^^ m) = crcBit c (m.getLsbD 15) ^^^ (m <<< 1) := by
  unfold crcShift crcBit
  rw [BitVec.getLsbD_xor, BitVec.shiftLeft_xor_distrib]
  cases c.getLsbD 15 <;> cases m.getLsbD 15 <;> simp [BitVec.xor_assoc, BitVec.xor_comm (m <<< 1)]

/-! A byte -/

/-- `n` shifts of a remainder with a message word added take the word's top `n` bits, highest first. -/
theorem crcShifts_xor (c m : BitVec 16) {n : Nat} (hn : n ≤ 16) :
    (List.range n).foldl (fun c _ => crcShift c) (c ^^^ m) =
      (List.range n).foldl (fun c i => crcBit c (m.getLsbD (15 - i))) c ^^^ (m <<< n) := by
  induction n with
  | zero => simp
  | succ n ih =>
    have top : (m <<< n).getLsbD 15 = m.getLsbD (15 - n) := by
      rw [BitVec.getLsbD_shiftLeft]
      simp [show ¬ 15 < n by omega]
    simp only [List.range_succ, List.foldl_append, List.foldl_cons, List.foldl_nil]
    rw [ih (by omega), crcShift_xor, top, ← BitVec.shiftLeft_add]

/-- The eight bits of a byte, the most significant first. -/
def bitsOf (b : Byte) : List Bool := (List.range 8).map fun i => b.getLsbD (7 - i)

/-- A byte as a message word: in the upper half. -/
def upperByte (b : Byte) : BitVec 16 := b.setWidth 16 <<< 8

theorem toNat_upperByte (b : Byte) : (upperByte b).toNat = b.toNat * 256 := by
  have := b.isLt
  simp only [upperByte, BitVec.toNat_shiftLeft, BitVec.toNat_setWidth, Nat.shiftLeft_eq]
  omega

theorem getLsbD_upperByte (b : Byte) {i : Nat} (hi : i < 8) : (upperByte b).getLsbD (15 - i) = b.getLsbD (7 - i) := by
  rw [upperByte, BitVec.getLsbD_shiftLeft, BitVec.getLsbD_setWidth, show 15 - i - 8 = 7 - i by omega]
  simp [show 15 - i < 16 by omega, show ¬ 15 - i < 8 by omega, show 7 - i < 16 by omega]

theorem upperByte_shiftLeft_eight (b : Byte) : upperByte b <<< 8 = 0#16 := by
  rw [upperByte, ← BitVec.shiftLeft_add, BitVec.shiftLeft_eq_zero (by omega)]

/-- What a byte does to the remainder is what its eight bits do one by one. -/
theorem crcShifts_byte (c : BitVec 16) (b : Byte) :
    (List.range 8).foldl (fun c _ => crcShift c) (c ^^^ upperByte b) = (bitsOf b).foldl crcBit c := by
  rw [crcShifts_xor c _ (by omega), upperByte_shiftLeft_eight, bitsOf, List.foldl_map, BitVec.xor_zero]
  exact List.foldl_ext _ _ _ fun c i hi => by rw [getLsbD_upperByte b (List.mem_range.1 hi)]

/-! A list of bytes -/

/-- The shifts of `crc16` on a number are those on the word. -/
theorem crc16_shifts (l : List Nat) (c : BitVec 16) :
    l.foldl (fun c _ => if 0x8000 ≤ c then (c * 2 % 65536) ^^^ 0x1021 else c * 2) c.toNat =
      (l.foldl (fun c _ => crcShift c) c).toNat :=
  List.foldl_hom BitVec.toNat fun c _ => (toNat_crcShift c).symm

/-- R578: `crc16` is the bit-serial remainder. -/
theorem crc16_eq_serial (l : List Byte) : crc16 l = ((l.flatMap bitsOf).foldl crcBit 0xFFFF).toNat := by
  rw [List.foldl_flatMap]
  refine List.foldl_hom BitVec.toNat (init := (0xFFFF : BitVec 16)) fun c b => ?_
  rw [← crcShifts_byte, ← crc16_shifts, BitVec.toNat_xor, toNat_upperByte]

theorem crc16_lt (l : List Byte) : crc16 l < 65536 := crc16_eq_serial l ▸ BitVec.isLt _

/-! The frame that carries it -/

@[simp] theorem leBytes_length (n v : Nat) : (leBytes n v).length = n := by
  induction n generalizing v with
  | zero => rfl
  | succ n ih => simp [leBytes, ih]

theorem leNat_leBytes (n v : Nat) : leNat (leBytes n v) = v % 256 ^ n := by
  induction n generalizing v with
  | zero => simp [leBytes, leNat, Nat.mod_one]
  | succ n ih => simp [leBytes, leNat, ih, Nat.pow_succ', Nat.mod_mul]

/-- The middle of three parts, named by its offset and length. -/
theorem sub_append_middle (x y z : List Byte) : sub (x ++ (y ++ z)) x.length y.length = y := by
  refine List.ext_getElem (by simp [sub]) fun i _ h => ?_
  simp [sub, List.getElem?_append_right, List.getElem?_append_left h, h]

/-- What the CRC of a frame is over: CMD, LEN and the payload (R578). -/
def crcBody (cmd : Nat) (pay : List Byte) : List Byte := leBytes 1 cmd ++ leBytes 2 pay.length ++ pay

theorem crcBody_length (cmd : Nat) (pay : List Byte) : (crcBody cmd pay).length = 3 + pay.length := by simp [crcBody]; omega

theorem hcpFrame_eq (cmd : Nat) (pay : List Byte) :
    hcpFrame cmd pay = [0xA5] ++ (crcBody cmd pay ++ leBytes 2 (crc16 (crcBody cmd pay))) := rfl

theorem hcpFrame_length (cmd : Nat) (pay : List Byte) : (hcpFrame cmd pay).length = 6 + pay.length := by
  simp [hcpFrame_eq, crcBody_length]; omega

theorem sub_hcpFrame_body (cmd : Nat) (pay : List Byte) : sub (hcpFrame cmd pay) 1 (3 + pay.length) = crcBody cmd pay := by
  rw [hcpFrame_eq, ← crcBody_length cmd pay]
  exact sub_append_middle [0xA5] _ _

theorem fieldAt_hcpFrame_crc (cmd : Nat) (pay : List Byte) :
    fieldAt (hcpFrame cmd pay) (4 + pay.length) 2 = crc16 (crcBody cmd pay) := by
  have tail := sub_append_middle ([0xA5] ++ crcBody cmd pay) (leBytes 2 (crc16 (crcBody cmd pay))) []
  have offset : ([0xA5] ++ crcBody cmd pay).length = 4 + pay.length := by simp [crcBody_length]; omega
  rw [offset, leBytes_length, List.append_nil, List.append_assoc, ← hcpFrame_eq] at tail
  rw [fieldAt, tail, leNat_leBytes]
  exact Nat.mod_eq_of_lt (crc16_lt _)

/-- Settles O59: the serial remainder by a fold over the bytes, each byte by its eight shifts; the frame by its three parts. -/
theorem frameCrc : Obligations.FrameCrc := by
  unfold Obligations.FrameCrc
  exact ⟨crc16_eq_serial,
    fun cmd pay => ⟨hcpFrame_length cmd pay, sub_hcpFrame_body cmd pay, fieldAt_hcpFrame_crc cmd pay⟩,
    by decide +kernel⟩

end Sys2Proof.Machine
end

