-- ==== Sys2Proof/Proofs/HostPortAbort.lean ====
section
/-! A frame cut short (R594) on a device whose host has given an MSI-X vector to HCP's interrupt (R512). -/
namespace Sys2Proof.Machine

/-- A running device: HCP pends EIC source 209 at a sticky bit (HCP_CFG.IRQ), and MSI-X vector 0, unmasked, names that source, which
belongs to the normal world as R512 asks. -/
def msixOnHcp : State :=
  let s : State := { State.reset with boot := { State.reset.boot with phase := .running } }
  rset (rset (rset (rset (rset s R.PART_UNIT_OWN 0xFBFFFE385) R.HCP_CFG 0x3C04) (R.PCIE_VECSRC 0) (word (0x100 + 209))) (R.PCIE_MSIX 0) 0xFEE00000) (R.PCIE_MSIX 1) 0x41

theorem msixOnHcp_live : hcpLive msixOnHcp = true ∧ eicSecure msixOnHcp 209 = false := by decide +kernel

/-- Nothing has left the device yet. -/
theorem msixOnHcp_wire : msixOnHcp.wire = [] := rfl

/-- HCP_STAT.FRAME_ERR rises, source 209 has its edge, and the vector's message leaves at wire 0x1A. -/
theorem abort_msixOnHcp_wire :
    (hcpSticky (rcount msixOnHcp R.HCP_FRAMEERR 1) 25 (some Code.HCP_FRAME)).wire = [(0x1A, [0xFEE00000, 0x41])] := by
  decide +kernel

theorem exec_hcpFrameAbort_of_live (badSync : Bool) {s : State} (live : hcpLive s = true) :
    exec (.hcpFrameAbort badSync) s = .next (hcpSticky (rcount s R.HCP_FRAMEERR 1) 25 (some Code.HCP_FRAME)) := by
  show execHcpFrameAbort badSync s = _
  rw [execHcpFrameAbort, if_pos live]

/-- Refutes O60: the clause that no wire changes. On `msixOnHcp` the frame error's interrupt sends an MSI-X message (R310, R512), which
is no response of HCP but is what wire 0x1A sent last. -/
theorem not_frameCutShort : ¬ Obligations.FrameCutShort := by
  unfold Obligations.FrameCutShort
  intro h
  obtain ⟨t, ht, -, -, sameWire, -⟩ := h false msixOnHcp msixOnHcp_live.1
  rw [exec_hcpFrameAbort_of_live false msixOnHcp_live.1] at ht
  injection ht with ht
  rw [← ht, abort_msixOnHcp_wire, msixOnHcp_wire] at sameWire
  exact absurd sameWire (List.cons_ne_nil _ _)

end Sys2Proof.Machine
end

