-- ==== Sys2Proof/Proofs/WatchdogKick.lean ====
section
/-! The watchdog kick (R630): a good value, a bad one, and the 64-bit access that R7 refuses. -/
namespace Sys2Proof.Machine

/-! One bit of a register -/

theorem getLsbD_mask_single (i j : Nat) : (mask i i).getLsbD j = (decide (j < 64) && decide (j = i)) := by
  rw [mask, Nat.add_sub_cancel_left, BitVec.getLsbD_ofNat, show (2 ^ 1 - 1) <<< i = 2 ^ i by simp [Nat.one_shiftLeft],
    Nat.testBit_two_pow, decide_eq_decide.2 eq_comm]

theorem bit_setBit_same (w : Word) {i : Nat} (hi : i < 64) (b : Bool) : bit (setBit w i b) i = b := by
  simp only [bit, setBit, setBits, BitVec.getLsbD_or, BitVec.getLsbD_and, BitVec.getLsbD_not, getLsbD_mask_single,
    BitVec.getLsbD_ofNat, hi]
  cases b <;> simp [Nat.one_shiftLeft]

theorem bit_setBit_other (w : Word) {i j : Nat} (h : j ≠ i) (b : Bool) : bit (setBit w i b) j = bit w j := by
  simp only [bit, setBit, setBits, BitVec.getLsbD_or, BitVec.getLsbD_and, BitVec.getLsbD_not, getLsbD_mask_single, h]
  by_cases hj : j < 64
  · simp [hj]
  · simp [hj, BitVec.getLsbD_of_ge w j (by omega)]

theorem rbit_rputb_same (s : State) (a : Nat) {i : Nat} (hi : i < 64) (b : Bool) : rbit (rputb s a i b) a i = b := by
  rw [rbit, rputb, rget_rset_same, bit_setBit_same _ hi]

theorem rbit_rputb_other (s : State) (a : Nat) {i j : Nat} (h : j ≠ i) (b : Bool) :
    rbit (rputb s a i b) a j = rbit s a j := by
  rw [rbit, rputb, rget_rset_same, bit_setBit_other _ h, rbit]

theorem rget_rputb_other (s : State) {a c : Nat} (h : c ≠ a) (i : Nat) (b : Bool) : rget (rputb s a i b) c = rget s c :=
  rget_rset_other s _ h

/-! An entry in a ring's queue, and what it leaves alone (R624) -/

@[simp] theorem rget_setRing (s : State) (r : Nat) (x : Ring) (a : Nat) : rget (setRing s r x) a = rget s a :=
  match r with
  | 0 | 1 | _ + 2 => rfl

theorem quiet_setRing (s : State) (r : Nat) (x : Ring) : quiet s (setRing s r x) :=
  match r with
  | 0 | 1 | _ + 2 => ⟨rfl, rfl, rfl, rfl⟩

theorem enqueue_of_room {s : State} {r : Nat} (room : (ringOf s r).queue.length < 16) (e : LogEntry) :
    enqueue s r e = setRing s r { ringOf s r with queue := (ringOf s r).queue ++ [e] } := if_pos room

theorem enqueue_of_full {s : State} {r : Nat} (full : ¬ (ringOf s r).queue.length < 16) (e : LogEntry) :
    enqueue s r e = rcount s (logReg r 0x10) 1 := if_neg full

theorem rget_enqueue (s : State) (r : Nat) (e : LogEntry) {a : Nat} (h : a ≠ logReg r 0x10) :
    rget (enqueue s r e) a = rget s a := by
  by_cases room : (ringOf s r).queue.length < 16
  · rw [enqueue_of_room room, rget_setRing]
  · rw [enqueue_of_full room, rcount, rget_rset_other _ _ h]

theorem quiet_enqueue (s : State) (r : Nat) (e : LogEntry) : quiet s (enqueue s r e) := by
  by_cases room : (ringOf s r).queue.length < 16
  · rw [enqueue_of_room room]
    exact quiet_setRing s r _
  · rw [enqueue_of_full room]
    exact ⟨rfl, rfl, rfl, rfl⟩

/-! What a kick does -/

/-- The entry that a bad kick by `r` leaves. -/
def badKickEntry (s : State) (r : Req) : LogEntry :=
  ⟨dtbNs s, 0, BitVec.ofNat 16 Code.WDT_BADKICK, r.id, if decide (r.world = .secure) then 1 else 0, 0, 0⟩

theorem exec_wdtKick_of_writeOk {q : RegAcc} {s : State} (ok : WriteOk s q R.WDT_KICK) :
    exec (.wdtKick q) s = .next (wdtKick s (reqOf s q.who) q.wr) := by
  show execWdtKick q s = _
  rw [execWdtKick, onWrite_ok ok]

theorem exec_wdtKick_accepted {q : RegAcc} {s : State} (ok : WriteOk s q R.WDT_KICK) (good : q.wr.bits 31 0 = 0x4B1C)
    (on : rbit s R.WDT_CTRL 0 = true) :
    exec (.wdtKick q) s = .next (rset (rputb s R.WDT_STAT 2 false) R.WDT_COUNT (rget s R.WDT_FIRST)) := by
  rw [exec_wdtKick_of_writeOk ok, wdtKick, if_pos good, if_pos on]

/-- R619 does not mark WDT_BADKICK with A, so the always-on ring gets no copy. -/
theorem exec_wdtKick_bad {q : RegAcc} {s : State} (ok : WriteOk s q R.WDT_KICK) (bad : q.wr.bits 31 0 ≠ 0x4B1C) :
    exec (.wdtKick q) s = .next (enqueue (rputb s R.WDT_STAT 1 true) 1 (badKickEntry s (reqOf s q.who))) := by
  rw [exec_wdtKick_of_writeOk ok, wdtKick, if_neg bad, logReq, logTo, if_neg (by decide), if_neg (by decide)]
  rfl

/-- A 32-bit write shows the register the low half of its value. -/
theorem wr_bits_of_narrow {q : RegAcc} (narrow : q.wide = false) : q.wr.bits 31 0 = q.value.toNat % 2 ^ 32 := by
  have low : (q.value &&& 0xFFFFFFFF).toNat = q.value.toNat % 2 ^ 32 := by
    rw [BitVec.toNat_and]
    exact Nat.and_two_pow_sub_one_eq_mod _ 32
  rw [Wr.bits, RegAcc.wr, narrow, if_neg Bool.false_ne_true, bits, low]
  exact Nat.mod_mod _ _

/-! The refused access -/

/-- The watchdog's unit is on every variant (R14). -/
theorem unitPresent_wdt (s : State) : unitPresent s 0x1F = true := by
  unfold unitPresent
  cases s.variant <;> decide

theorem regionOf_wdtFinal (s : State) : regionOf s R.WDT_FINAL = .unit 0x1F 8 := by
  have unit : regionOf s R.WDT_FINAL = if unitPresent s 0x1F then .unit 0x1F 8 else .absent 0x1F := rfl
  rw [unit, if_pos (unitPresent_wdt s)]

/-- WDT_FINAL is 32 bits wide (R7). -/
theorem widthOk_wdtFinal_wide : widthOk R.WDT_FINAL 8 = false := by decide +kernel

theorem unitCheck_wdtFinal_wide (s : State) {r : Req} (secure : r.world = .secure) (write : Bool) :
    unitCheck s r R.WDT_FINAL 8 write = some .regWidth := by
  have notContext : cxCheck s r R.WDT_FINAL = none := if_neg (by decide)
  simp [unitCheck, notContext, secure, widthOk_wdtFinal_wide]

theorem unitWrite_wdtFinal_wide (s : State) {r : Req} (secure : r.world = .secure) (v : Word) :
    unitWrite s r R.WDT_FINAL 8 v = (s, some .regWidth) := by
  rw [unitWrite, unitCheck_wdtFinal_wide s secure]
  rfl

theorem exec_registerWrite_wdtFinal_wide {q : RegAcc} {s : State} (wide : q.wide = true)
    (secure : (reqOf s q.who).world = .secure) : exec (.registerWrite q 0x401F0008) s = .next s := by
  show execRegisterWrite q 0x401F0008 s = _
  have addr : (0x401F0008 : BitVec 40).toNat = R.WDT_FINAL := rfl
  simp only [execRegisterWrite, addr, regionOf_wdtFinal, wide, if_true, unitWrite_wdtFinal_wide s secure, ite_self]

/-! The statement -/

theorem wdtKick_accepted_reaches {q : RegAcc} {s : State} (ok : WriteOk s q R.WDT_KICK) (good : q.wr.bits 31 0 = 0x4B1C)
    (on : rbit s R.WDT_CTRL 0 = true) : Reaches (exec (.wdtKick q) s) fun t =>
      rget t R.WDT_COUNT = rget s R.WDT_FIRST ∧ rbit t R.WDT_STAT 2 = false ∧
      (∀ i, i ≠ 2 → rbit t R.WDT_STAT i = rbit s R.WDT_STAT i) ∧
      (∀ a, a ≠ R.WDT_COUNT → a ≠ R.WDT_STAT → rget t a = rget s a) ∧ t.ring1 = s.ring1 ∧ quiet s t := by
  refine ⟨_, exec_wdtKick_accepted ok good on, rget_rset_same .., ?_, ?_, ?_, rfl, rfl, rfl, rfl, rfl⟩
  · rw [rbit, rget_rset_other _ _ (by decide)]
    exact rbit_rputb_same s _ (by decide) _
  · intro i hi
    rw [rbit, rget_rset_other _ _ (by decide)]
    exact rbit_rputb_other s _ hi _
  · intro a notCount notStat
    rw [rget_rset_other _ _ notCount, rget_rputb_other _ notStat]

/-- A bad kick keeps every register but WDT_STAT and the lost count of the secure ring, and appends one entry where there is room. -/
theorem wdtKick_bad_reaches {q : RegAcc} {s : State} (ok : WriteOk s q R.WDT_KICK) (bad : q.wr.bits 31 0 ≠ 0x4B1C) :
    Reaches (exec (.wdtKick q) s) fun t =>
      rbit t R.WDT_STAT 1 = true ∧ (∀ i, i ≠ 1 → rbit t R.WDT_STAT i = rbit s R.WDT_STAT i) ∧
      (∀ a, a ≠ R.WDT_STAT → a ≠ logReg 1 0x10 → rget t a = rget s a) ∧ quiet s t ∧
      (s.ring1.queue.length < 16 → t.ring1.queue = s.ring1.queue ++ [badKickEntry s (reqOf s q.who)]) := by
  refine ⟨_, exec_wdtKick_bad ok bad, ?_, ?_, ?_, quiet_enqueue .., ?_⟩
  · rw [rbit, rget_enqueue _ _ _ (by decide)]
    exact rbit_rputb_same s _ (by decide) _
  · intro i hi
    rw [rbit, rget_enqueue _ _ _ (by decide)]
    exact rbit_rputb_other s _ hi _
  · intro a notStat notLost
    rw [rget_enqueue _ _ _ notLost, rget_rputb_other _ notStat]
  · intro room
    rw [enqueue_of_room (s := rputb s R.WDT_STAT 1 true) (r := 1) room]
    rfl

/-- Settles O58: the kick is one of two updates by its value, and the 64-bit access fails the width check before it reaches a register. -/
theorem watchdogKick : Obligations.WatchdogKick := by
  unfold Obligations.WatchdogKick
  refine ⟨fun q s ok narrow _ => ?_, fun q s wide secure => exec_registerWrite_wdtFinal_wide wide secure⟩
  rw [← wr_bits_of_narrow narrow]
  refine ⟨wdtKick_accepted_reaches ok, fun bad => ?_⟩
  obtain ⟨t, ht, badKick, others, regs, calm, logged⟩ := wdtKick_bad_reaches ok bad
  exact ⟨t, ht, badKick, others, regs _ (by decide) (by decide), regs _ (by decide) (by decide), regs _ (by decide) (by decide),
    regs _ (by decide) (by decide), calm, fun room => ⟨_, logged room, rfl⟩⟩

end Sys2Proof.Machine
end
